-- ==== Sys2Proof/Word.lean ====
section
/-! DEFINITION. The byte type and the three plain containers of the model: four of a kind (one per ramp),
three of a kind (one per lane of a ramp), and a sparse table keyed by a number (detector entries, station
records, plans). A table keeps its keys strictly rising, so that equal contents are equal data. -/

namespace Sys2Proof

/-- A byte on the ring. -/
abbrev Byte := BitVec 8

/-- A frame as it stands on the ring: its bytes from destination to the last check byte (R178). -/
abbrev Frame := List Byte

/-- One value for each ramp 0-3. -/
structure Four (α : Type) where
  at0 : α
  at1 : α
  at2 : α
  at3 : α
  deriving DecidableEq, Repr

/-- The value of ramp `k`. -/
def Four.get {α : Type} (v : Four α) (k : Fin 4) : α :=
  match k with
  | 0 => v.at0
  | 1 => v.at1
  | 2 => v.at2
  | 3 => v.at3

/-- `v` with ramp `k`'s value replaced. -/
def Four.set {α : Type} (v : Four α) (k : Fin 4) (x : α) : Four α :=
  match k with
  | 0 => { v with at0 := x }
  | 1 => { v with at1 := x }
  | 2 => { v with at2 := x }
  | 3 => { v with at3 := x }

/-- The same value for each ramp. -/
def Four.all {α : Type} (x : α) : Four α := ⟨x, x, x, x⟩

/-- `f` of each ramp's value. -/
def Four.map {α β : Type} (f : α → β) (v : Four α) : Four β := ⟨f v.at0, f v.at1, f v.at2, f v.at3⟩

/-- `f` of each ramp number. -/
def Four.tabulate {α : Type} (f : Fin 4 → α) : Four α := ⟨f 0, f 1, f 2, f 3⟩

/-- One value for each lane 0-2 of a ramp. -/
structure Three (α : Type) where
  at0 : α
  at1 : α
  at2 : α
  deriving DecidableEq, Repr

/-- The value of lane `l`. -/
def Three.get {α : Type} (v : Three α) (l : Fin 3) : α :=
  match l with
  | 0 => v.at0
  | 1 => v.at1
  | 2 => v.at2

/-- `v` with lane `l`'s value replaced. -/
def Three.set {α : Type} (v : Three α) (l : Fin 3) (x : α) : Three α :=
  match l with
  | 0 => { v with at0 := x }
  | 1 => { v with at1 := x }
  | 2 => { v with at2 := x }

/-- The same value for each lane. -/
def Three.all {α : Type} (x : α) : Three α := ⟨x, x, x⟩

/-- `f` of each lane number. -/
def Three.tabulate {α : Type} (f : Fin 3 → α) : Three α := ⟨f 0, f 1, f 2⟩

/-- The ramps in ascending order. -/
def allRamps : List (Fin 4) := [0, 1, 2, 3]

/-- The lanes of a ramp in ascending order. -/
def allLanes : List (Fin 3) := [0, 1, 2]

/-- A sparse table: rows (key, value), keys strictly rising; a key without a row holds nothing. -/
structure Table (α : Type) where
  rows : List (Nat × α)
  deriving DecidableEq, Repr

/-- The table with no row. -/
def Table.empty {α : Type} : Table α := ⟨[]⟩

/-- The value in the first row of `rows` with key `i`. -/
def rowsGet {α : Type} (rows : List (Nat × α)) (i : Nat) : Option α :=
  match rows with
  | [] => none
  | (j, x) :: rest => if j = i then some x else rowsGet rest i

/-- `rows` with the row of key `i` made `x`, its place kept by key. -/
def rowsInsert {α : Type} (rows : List (Nat × α)) (i : Nat) (x : α) : List (Nat × α) :=
  match rows with
  | [] => [(i, x)]
  | (j, y) :: rest =>
    if i < j then (i, x) :: (j, y) :: rest
    else if j = i then (i, x) :: rest
    else (j, y) :: rowsInsert rest i x

/-- The value the table holds at key `i`. -/
def Table.get {α : Type} (t : Table α) (i : Nat) : Option α := rowsGet t.rows i

/-- The table with key `i` holding `x`. -/
def Table.insert {α : Type} (t : Table α) (i : Nat) (x : α) : Table α := ⟨rowsInsert t.rows i x⟩

/-- The table with no row at key `i`. -/
def Table.erase {α : Type} (t : Table α) (i : Nat) : Table α := ⟨t.rows.filter (fun p => p.1 != i)⟩

/-- The table with each row's value replaced by `f` of its key and value. -/
def Table.map {α : Type} (f : Nat → α → α) (t : Table α) : Table α :=
  ⟨t.rows.map (fun p => (p.1, f p.1 p.2))⟩

/-- The table of what `f` gives each key of `t`; a key it gives none has no row. -/
def Table.collect {α β : Type} (t : Table α) (f : Nat → Option β) : Table β :=
  ⟨t.rows.filterMap (fun p => (f p.1).map (fun x => (p.1, x)))⟩

/-- The keys of a list of rows rise strictly. -/
def rowsRising {α : Type} (rows : List (Nat × α)) : Bool :=
  match rows with
  | [] => true
  | [_] => true
  | (i, _) :: (j, y) :: rest => decide (i < j) && rowsRising ((j, y) :: rest)

/-- The table's keys rise strictly (its one canonical form) and lie below `bound`. -/
def Table.wf {α : Type} (bound : Nat) (t : Table α) : Bool :=
  rowsRising t.rows && t.rows.all (fun p => decide (p.1 < bound))

end Sys2Proof
end

