-- ==== Sys2Proof/Config.lean ====
section
/-! DEFINITION. What one part fixes: the capacities and codes the manual names, and the one free value of the
model. Rules: 11 R170 (identity), 10 R161 (queue capacities), 01 R6 (stations), 03 R42 (stack depth). -/

namespace Sys2Proof.Config

/-- FREE VALUE (DESIGN CHOICE, log 7). Bytes of replies that the manual does not state: nothing in the model
says what it is. `unstatedByte n` is the `n`-th such byte drawn since reset. -/
opaque unstatedByte : Nat → Byte

/-- R170: the vendor code. -/
def vendorCode : Nat := 0x48

/-- R170: the part code. -/
def partCode : Nat := 2416

/-- R170: the silicon revision. -/
def siliconRevision : Nat := 1

/-- R170, R1: detector entries. -/
def detectorEntries : Nat := 64

/-- R170, R6: station records. -/
def stationRecords : Nat := 24

/-- R170, R38: plan records. -/
def planRecords : Nat := 16

/-- R170, R42: plan stack depth. -/
def stackDepth : Nat := 4

/-- R161: the forward queue's capacity. -/
def forwardCapacity : Nat := 8

/-- R161: the urgent insert queue's capacity. -/
def urgentCapacity : Nat := 8

/-- R161: the normal insert queue's capacity. -/
def normalCapacity : Nat := 16

/-- 00_scope.md 5.1: the broadcast address. -/
def broadcast : Nat := 127

/-- R178: the kind byte of each frame kind. -/
def kindScan : Nat := 0x21
/-- R178. -/
def kindHeadCommand : Nat := 0x30
/-- R178. -/
def kindHeadStatus : Nat := 0x31
/-- R178. -/
def kindRequest : Nat := 0x40
/-- R178. -/
def kindReply : Nat := 0x41
/-- R178. -/
def kindReport : Nat := 0x50
/-- R178. -/
def kindNotice : Nat := 0x51

end Sys2Proof.Config
end

