-- ==== Sys2Proof/Syntax.lean ====
section
/-! DEFINITION. The commands: one constructor of `Instr` for each row of spec/opcode_table.json, with the
row's operands. The operands of a request row are its frame's source, tag and subject and the fields of its
body as the frame carries them (R179 to R181), each a plain number, so that an out-of-range field can be sent
and refused. Ramps and lanes of internal events are the part's own numbers (`Fin 4`, `Fin 3`). -/

namespace Sys2Proof

/-- What every REQUEST frame carries besides its body: source address, tag and subject byte (R178, R179). -/
structure Request where
  src : Nat
  tag : Nat
  subject : Nat
  deriving DecidableEq, Repr

/-- One channel record of a SCAN payload (R179). -/
structure ScanRecord where
  channel : Nat
  presence : Nat
  arrivals : Nat
  onTime : Nat
  deriving DecidableEq, Repr

/-- One output record of a HEAD STATUS payload (R179). -/
structure StatusRecord where
  output : Nat
  aspect : Nat
  lamps : Nat
  deriving DecidableEq, Repr

/-- The site settings record as carried (R181). -/
structure SiteRecord where
  report : Nat
  refresh : Nat
  confirm : Nat
  deriving DecidableEq, Repr

/-- The health limits record as carried (R181). -/
structure LimitsRecord where
  stuckOn : Nat
  chatter : Nat
  timeout : Nat
  floor : Nat
  fail : Nat
  recovery : Nat
  hold : Nat
  deriving DecidableEq, Repr

/-- A detector entry as carried: seven bytes (R181). -/
structure EntryRecord where
  flags : Nat
  station : Nat
  channel : Nat
  role : Nat
  ramp : Nat
  substitute : Nat
  scale : Nat
  deriving DecidableEq, Repr

/-- A plan record as carried: fields 1-26 of R39 in order (R181). -/
structure PlanRecord where
  rMin : Nat
  rMax : Nat
  rInit : Nat
  target : Nat
  gain : Nat
  capacity : Nat
  stepLimit : Nat
  queueThreshold : Nat
  queueBoost : Nat
  occCeiling : Nat
  flowCeiling : Nat
  weight : Nat
  green : Nat
  amber : Nat
  minRed : Nat
  grace : Nat
  size : Nat
  rounding : Nat
  gating : Nat
  leveling : Nat
  starvationLimit : Nat
  spillTime : Nat
  flushPeriod : Nat
  fallbackPeriod : Nat
  recoveryIntervals : Nat
  mask : Nat
  deriving DecidableEq, Repr

/-- One lane sub-record of a ramp configuration record as carried (R181). -/
structure LaneRecord where
  driver : Nat
  output : Nat
  demand : Nat
  sense : Nat
  passage : Nat
  edge : Nat
  deriving DecidableEq, Repr

/-- A ramp configuration record as carried: fields 1-25 of R105 (R181). -/
structure ConfigRecord where
  lanesUsed : Nat
  interval : Nat
  offAspect : Nat
  holdMode : Nat
  headTimeout : Nat
  warning : Nat
  clear : Nat
  lane0 : LaneRecord
  lane1 : LaneRecord
  lane2 : LaneRecord
  deriving DecidableEq, Repr

/-- A context record as carried: fields 1-15 of R181. -/
structure ContextRecord where
  rPrev : Nat
  stagedPeriod : Nat
  stagedMark : Nat
  activePeriod : Nat
  bits : Nat
  sticky : Nat
  last : Nat
  recovery : Nat
  stackCount : Nat
  stack0 : Nat
  stack1 : Nat
  stack2 : Nat
  stack3 : Nat
  reduction : Nat
  lifetime : Nat
  wait0 : Nat
  wait1 : Nat
  wait2 : Nat
  starvation0 : Nat
  starvation1 : Nat
  starvation2 : Nat
  pointer : Nat
  deriving DecidableEq, Repr

/-- The commands: the rows of spec/opcode_table.json, in its order. -/
inductive Instr where
  /-- R167: power-on or RST_N, with the strap reading and whether the receive line carries signal. -/
  | hardReset (straps : Nat) (signal : Bool)
  /-- R158: the receive line loses signal. -/
  | linkSignalLost
  /-- R158: the receive line regains signal. -/
  | linkSignalRegained
  /-- R163: TXHOLD asserted. -/
  | txholdAsserted
  /-- R163: TXHOLD deasserted. -/
  | txholdDeasserted
  /-- R115: RHOLD of ramp `k` asserted. -/
  | rampHoldInputAsserted (k : Fin 4)
  /-- R115: RHOLD of ramp `k` deasserted. -/
  | rampHoldInputDeasserted (k : Fin 4)
  /-- R159: a complete frame between two idle gaps, as its bytes. -/
  | frameReceived (bytes : Frame)
  /-- R162: the arbiter starts the chosen frame. -/
  | transmitStart
  /-- R162: the frame being sent and the gap after it have left the line. -/
  | transmitEnd
  /-- R10: a SCAN frame by its contents: source, span (ms), record count, records. -/
  | scanFrame (src span count : Nat) (records : List ScanRecord)
  /-- R151: a HEAD STATUS frame by its contents: destination, source, record count, records. -/
  | headStatus (dst src count : Nat) (records : List StatusRecord)
  /-- R168: a request judged by its payload alone. -/
  | requestFormatReject (src tag : Nat) (payload : List Byte)
  | identify (q : Request)
  | siteWrite (q : Request) (rec : SiteRecord)
  | siteRead (q : Request)
  | healthLimitsWrite (q : Request) (rec : LimitsRecord)
  | healthLimitsRead (q : Request)
  | detectorWrite (q : Request) (entries : List EntryRecord)
  | detectorRead (q : Request) (count view : Nat)
  | forceOut (q : Request)
  | restore (q : Request)
  | planWrite (q : Request) (rec : PlanRecord)
  | planRead (q : Request)
  | push (q : Request) (plan : Nat)
  | pop (q : Request)
  | setBase (q : Request) (plan : Nat)
  | rampConfigWrite (q : Request) (rec : ConfigRecord)
  | rampConfigRead (q : Request)
  | start (q : Request)
  | stop (q : Request)
  | hold (q : Request)
  | release (q : Request)
  | resume (q : Request)
  | laneClose (q : Request) (lane : Nat)
  | laneOpen (q : Request) (lane : Nat)
  | share (q : Request) (reduction lifetime : Nat)
  | statusRead (q : Request)
  | statusClear (q : Request)
  | contextDump (q : Request)
  | contextLoad (q : Request) (rec : ContextRecord)
  | ringStatus (q : Request)
  | ringReset (q : Request)
  /-- R166: the ring reset takes effect at the end of the reset reply. -/
  | ringResetEffect
  /-- R8: the timer of the record of station `address` expires. -/
  | stationTimerExpiry (address : Nat)
  /-- R55: ramp `k`'s interval timer expires. -/
  | intervalClose (k : Fin 4)
  /-- R71: the head of the queue starts. -/
  | jobStart
  /-- R85: the running INTERVAL job completes. -/
  | intervalJobCompletion
  /-- R90: the running START job completes. -/
  | startJobCompletion
  /-- R110. -/
  | warningTimerExpiry (k : Fin 4)
  /-- R112. -/
  | clearTimerExpiry (k : Fin 4)
  /-- R124: ramp `k`'s RUNNING clock reaches 0. -/
  | releaseDue (k : Fin 4)
  /-- R132: the green time of lane `l` of ramp `k` expires. -/
  | greenEnd (k : Fin 4) (l : Fin 3)
  /-- R132. -/
  | amberEnd (k : Fin 4) (l : Fin 3)
  /-- R132. -/
  | redEnd (k : Fin 4) (l : Fin 3)
  /-- R132. -/
  | graceTimeExpiry (k : Fin 4) (l : Fin 3)
  /-- R148. -/
  | refreshTimerExpiry (k : Fin 4) (l : Fin 3)
  /-- R150. -/
  | confirmTimerExpiry (k : Fin 4) (l : Fin 3)
  /-- R153: the silence timer of the head of lane `l` (and of every head that expires with it). -/
  | silenceTimerExpiry (k : Fin 4) (l : Fin 3)
  /-- R158: the receive path sees the first idle gap. -/
  | firstIdleGap
  deriving DecidableEq, Repr

end Sys2Proof
end

