-- ==== Sys2Proof/WellFormed.lean ====
section
/-! DEFINITION. When a command's operands are ones that the ring and the pins can carry: addresses of nodes,
bytes below 256, two-byte fields below 65536, payloads of at most 56 bytes (R159, R178 to R181). Whether a
field lies in its RANGE is not asked here: an out-of-range field is a command the part answers. -/

namespace Sys2Proof

/-- A node address, 1-126 (00_scope.md 5.1, R159: the source of a frame). -/
def nodeOk (a : Nat) : Bool := decide (1 ≤ a) && decide (a ≤ 126)

/-- A one-byte field. -/
def byteOk (n : Nat) : Bool := decide (n < 256)

/-- A two-byte field. -/
def wordOk (n : Nat) : Bool := decide (n < 65536)

/-- What every request carries. -/
def Request.wf (q : Request) : Bool := nodeOk q.src && byteOk q.tag && byteOk q.subject

def ScanRecord.wf (r : ScanRecord) : Bool :=
  byteOk r.channel && byteOk r.presence && byteOk r.arrivals && wordOk r.onTime

def StatusRecord.wf (r : StatusRecord) : Bool := byteOk r.output && byteOk r.aspect && byteOk r.lamps

def SiteRecord.wf (r : SiteRecord) : Bool := byteOk r.report && byteOk r.refresh && byteOk r.confirm

def LimitsRecord.wf (r : LimitsRecord) : Bool :=
  wordOk r.stuckOn && byteOk r.chatter && byteOk r.timeout && wordOk r.floor && byteOk r.fail &&
  byteOk r.recovery && byteOk r.hold

def EntryRecord.wf (r : EntryRecord) : Bool :=
  byteOk r.flags && byteOk r.station && byteOk r.channel && byteOk r.role && byteOk r.ramp &&
  byteOk r.substitute && byteOk r.scale

def PlanRecord.wf (r : PlanRecord) : Bool :=
  wordOk r.rMin && wordOk r.rMax && wordOk r.rInit && wordOk r.target && byteOk r.gain &&
  wordOk r.capacity && wordOk r.stepLimit && wordOk r.queueThreshold && wordOk r.queueBoost &&
  wordOk r.occCeiling && wordOk r.flowCeiling && byteOk r.weight && byteOk r.green && byteOk r.amber &&
  byteOk r.minRed && byteOk r.grace && byteOk r.size && byteOk r.rounding && byteOk r.gating &&
  byteOk r.leveling && byteOk r.starvationLimit && byteOk r.spillTime && wordOk r.flushPeriod &&
  wordOk r.fallbackPeriod && byteOk r.recoveryIntervals && byteOk r.mask

def LaneRecord.wf (r : LaneRecord) : Bool :=
  byteOk r.driver && byteOk r.output && byteOk r.demand && byteOk r.sense && byteOk r.passage && byteOk r.edge

def ConfigRecord.wf (r : ConfigRecord) : Bool :=
  byteOk r.lanesUsed && byteOk r.interval && byteOk r.offAspect && byteOk r.holdMode &&
  byteOk r.headTimeout && byteOk r.warning && byteOk r.clear && r.lane0.wf && r.lane1.wf && r.lane2.wf

def ContextRecord.wf (r : ContextRecord) : Bool :=
  wordOk r.rPrev && wordOk r.stagedPeriod && byteOk r.stagedMark && wordOk r.activePeriod &&
  byteOk r.bits && byteOk r.sticky && byteOk r.last && byteOk r.recovery && byteOk r.stackCount &&
  byteOk r.stack0 && byteOk r.stack1 && byteOk r.stack2 && byteOk r.stack3 && wordOk r.reduction &&
  byteOk r.lifetime && byteOk r.wait0 && byteOk r.wait1 && byteOk r.wait2 && byteOk r.starvation0 &&
  byteOk r.starvation1 && byteOk r.starvation2 && byteOk r.pointer

/-- The command is one that the ring or the pins can carry. -/
def Instr.wf (i : Instr) : Bool :=
  match i with
  | .hardReset straps _ => decide (straps < 128)
  | .linkSignalLost => true
  | .linkSignalRegained => true
  | .txholdAsserted => true
  | .txholdDeasserted => true
  | .rampHoldInputAsserted _ => true
  | .rampHoldInputDeasserted _ => true
  | .frameReceived _ => true
  | .transmitStart => true
  | .transmitEnd => true
  | .scanFrame src span count records =>
    nodeOk src && wordOk span && byteOk count && decide (records.length ≤ 10) && records.all ScanRecord.wf
  | .headStatus dst src count records =>
    byteOk dst && nodeOk src && byteOk count && decide (records.length ≤ 18) && records.all StatusRecord.wf
  | .requestFormatReject src tag payload => nodeOk src && byteOk tag && decide (payload.length ≤ 56)
  | .identify q => q.wf
  | .siteWrite q rec => q.wf && rec.wf
  | .siteRead q => q.wf
  | .healthLimitsWrite q rec => q.wf && rec.wf
  | .healthLimitsRead q => q.wf
  | .detectorWrite q entries =>
    q.wf && decide (1 ≤ entries.length) && decide (entries.length ≤ 4) && entries.all EntryRecord.wf
  | .detectorRead q count view => q.wf && byteOk count && byteOk view
  | .forceOut q => q.wf
  | .restore q => q.wf
  | .planWrite q rec => q.wf && rec.wf
  | .planRead q => q.wf
  | .push q plan => q.wf && byteOk plan
  | .pop q => q.wf
  | .setBase q plan => q.wf && byteOk plan
  | .rampConfigWrite q rec => q.wf && rec.wf
  | .rampConfigRead q => q.wf
  | .start q => q.wf
  | .stop q => q.wf
  | .hold q => q.wf
  | .release q => q.wf
  | .resume q => q.wf
  | .laneClose q lane => q.wf && byteOk lane
  | .laneOpen q lane => q.wf && byteOk lane
  | .share q reduction lifetime => q.wf && wordOk reduction && byteOk lifetime
  | .statusRead q => q.wf
  | .statusClear q => q.wf
  | .contextDump q => q.wf
  | .contextLoad q rec => q.wf && rec.wf
  | .ringStatus q => q.wf
  | .ringReset q => q.wf
  | .ringResetEffect => true
  | .stationTimerExpiry address => nodeOk address
  | .intervalClose _ => true
  | .jobStart => true
  | .intervalJobCompletion => true
  | .startJobCompletion => true
  | .warningTimerExpiry _ => true
  | .clearTimerExpiry _ => true
  | .releaseDue _ => true
  | .greenEnd _ _ => true
  | .amberEnd _ _ => true
  | .redEnd _ _ => true
  | .graceTimeExpiry _ _ => true
  | .refreshTimerExpiry _ _ => true
  | .confirmTimerExpiry _ _ => true
  | .silenceTimerExpiry _ _ => true
  | .firstIdleGap => true

end Sys2Proof
end

