-- ==== Sys2Proof/Decode.lean ====
section
/-! DEFINITION. The bytes of the ring: byte order (R177), the check word (R159), the envelope (R178), and the
reading of SCAN, HEAD STATUS and REQUEST payloads as commands (R168, R179 to R181), with the spelling of a
request command as its payload. The opcode table gives no row any bits, so `decodeTableWord` spells nothing. -/

namespace Sys2Proof

/-- The byte that carries `n`. -/
def u8 (n : Nat) : Byte := BitVec.ofNat 8 n

/-- R177: a two-byte field, high byte first. -/
def u16 (n : Nat) : List Byte := [u8 (n / 256), u8 n]

/-- The numbers carried by some bytes. -/
def byteValues (bytes : List Byte) : List Nat := bytes.map BitVec.toNat

/-- The one-byte field at offset `i`. -/
def field8 (body : List Nat) (i : Nat) : Nat := body.getD i 0

/-- R177: the two-byte field at offset `i`, high byte first. -/
def field16 (body : List Nat) (i : Nat) : Nat := body.getD i 0 * 256 + body.getD (i + 1) 0

/-- One step of the check word: shift left, and add the generator x^16 + x^12 + x^5 + 1 where a 1 falls out. -/
def crcShift (c : BitVec 16) : BitVec 16 :=
  if c.getLsbD 15 then (c <<< 1) ^^^ 0x1021#16 else c <<< 1

/-- `n` steps of the check word. -/
def crcSteps (n : Nat) (c : BitVec 16) : BitVec 16 :=
  match n with
  | 0 => c
  | m + 1 => crcSteps m (crcShift c)

/-- R159: the check word over one more byte, most significant bit first. -/
def crcByte (c : BitVec 16) (b : Byte) : BitVec 16 :=
  crcSteps 8 (c ^^^ (b.setWidth 16 <<< 8))

/-- R159: CRC-16, initial value all ones, no final inversion. -/
def crc (bytes : List Byte) : BitVec 16 := bytes.foldl crcByte 0xFFFF#16

/-- R159: the check word as sent, high byte first. -/
def crcBytes (bytes : List Byte) : List Byte := u16 (crc bytes).toNat

/-- R178, R164: a frame built in its envelope. -/
def mkFrame (dst src kind tag : Nat) (payload : List Byte) : Frame :=
  let head := [u8 dst, u8 src, u8 kind, u8 tag, u8 payload.length] ++ payload
  head ++ crcBytes head

/-- R178: the envelope's fields of a received run of bytes. -/
def frameDst (bytes : Frame) : Nat := (bytes.getD 0 0).toNat
/-- R178. -/
def frameSrc (bytes : Frame) : Nat := (bytes.getD 1 0).toNat
/-- R178. -/
def frameKind (bytes : Frame) : Nat := (bytes.getD 2 0).toNat
/-- R178. -/
def frameTag (bytes : Frame) : Nat := (bytes.getD 3 0).toNat
/-- R178: the length field n. -/
def frameLength (bytes : Frame) : Nat := (bytes.getD 4 0).toNat
/-- R178. -/
def framePayload (bytes : Frame) : List Byte := (bytes.drop 5).take (frameLength bytes)

/-- R159: the check word carried equals the check word computed. -/
def frameCheckOk (bytes : Frame) : Bool :=
  decide (bytes.drop (5 + frameLength bytes) = crcBytes (bytes.take (5 + frameLength bytes)))

/-- R159: the tests before the own-source test: bytes received, length field, check word, destination, source. -/
def frameAccepted (bytes : Frame) : Bool :=
  decide (7 ≤ bytes.length) && decide (frameLength bytes ≤ 56) &&
  decide (bytes.length = frameLength bytes + 7) && frameCheckOk bytes &&
  decide (frameDst bytes ≠ 0) && nodeOk (frameSrc bytes)

/-- The five-byte records of a SCAN payload (R179). -/
def scanRecords (body : List Nat) : List ScanRecord :=
  match body with
  | c :: p :: a :: h :: l :: rest => ⟨c, p, a, h * 256 + l⟩ :: scanRecords rest
  | _ => []

/-- The three-byte records of a HEAD STATUS payload (R179). -/
def statusRecords (body : List Nat) : List StatusRecord :=
  match body with
  | o :: a :: m :: rest => ⟨o, a, m⟩ :: statusRecords rest
  | _ => []

/-- R179: the SCAN command a payload spells. Where the payload length disagrees with the record count
(R177), no record is read, so that the count and the records disagree too. -/
def scanCommand (src : Nat) (payload : List Byte) : Instr :=
  let b := byteValues payload
  let count := field8 b 2
  .scanFrame src (field16 b 0) count (if b.length = 3 + 5 * count then scanRecords (b.drop 3) else [])

/-- R179: the HEAD STATUS command a payload spells; a length that disagrees with the record count reads no
record (R177). -/
def statusCommand (dst src : Nat) (payload : List Byte) : Instr :=
  let b := byteValues payload
  let count := field8 b 0
  .headStatus dst src count (if b.length = 1 + 3 * count then statusRecords (b.drop 1) else [])

/-- The seven-byte entry records of a DETECTOR WRITE body (R181). -/
def entryRecords (body : List Nat) : List EntryRecord :=
  match body with
  | f :: s :: c :: o :: r :: b :: x :: rest => ⟨f, s, c, o, r, b, x⟩ :: entryRecords rest
  | _ => []

/-- R180: the length of the body that a request code requires; none for a code that is not in the table and
for a DETECTOR WRITE whose count byte is not 1-4 (R168). -/
def bodyLength (code : Nat) (body : List Nat) : Option Nat :=
  match code with
  | 0x01 => some 0
  | 0x02 => some 3
  | 0x03 => some 0
  | 0x04 => some 9
  | 0x05 => some 0
  | 0x10 => if 1 ≤ field8 body 0 ∧ field8 body 0 ≤ 4 then some (1 + 7 * field8 body 0) else none
  | 0x11 => some 2
  | 0x12 => some 0
  | 0x13 => some 0
  | 0x20 => some 38
  | 0x21 => some 0
  | 0x22 => some 1
  | 0x23 => some 0
  | 0x24 => some 1
  | 0x30 => some 25
  | 0x31 => some 0
  | 0x32 => some 0
  | 0x33 => some 0
  | 0x34 => some 0
  | 0x35 => some 0
  | 0x36 => some 0
  | 0x37 => some 1
  | 0x38 => some 1
  | 0x39 => some 3
  | 0x40 => some 0
  | 0x41 => some 0
  | 0x42 => some 0
  | 0x43 => some 26
  | 0x50 => some 0
  | 0x51 => some 0
  | _ => none

/-- R168 checks 1 to 3: the request has a format fault. -/
def formatFault (payload : List Byte) : Bool :=
  match byteValues payload with
  | code :: _ :: body => decide (bodyLength code body ≠ some body.length)
  | _ => true

/-- R181: a plan record from its 38 bytes. -/
def planOfBody (b : List Nat) : PlanRecord :=
  { rMin := field16 b 0, rMax := field16 b 2, rInit := field16 b 4, target := field16 b 6,
    gain := field8 b 8, capacity := field16 b 9, stepLimit := field16 b 11,
    queueThreshold := field16 b 13, queueBoost := field16 b 15, occCeiling := field16 b 17,
    flowCeiling := field16 b 19, weight := field8 b 21, green := field8 b 22, amber := field8 b 23,
    minRed := field8 b 24, grace := field8 b 25, size := field8 b 26, rounding := field8 b 27,
    gating := field8 b 28, leveling := field8 b 29, starvationLimit := field8 b 30,
    spillTime := field8 b 31, flushPeriod := field16 b 32, fallbackPeriod := field16 b 34,
    recoveryIntervals := field8 b 36, mask := field8 b 37 }

/-- R181: a lane sub-record from the six bytes at offset `i`. -/
def laneOfBody (b : List Nat) (i : Nat) : LaneRecord :=
  { driver := field8 b i, output := field8 b (i + 1), demand := field8 b (i + 2),
    sense := field8 b (i + 3), passage := field8 b (i + 4), edge := field8 b (i + 5) }

/-- R181: a ramp configuration record from its 25 bytes. -/
def configOfBody (b : List Nat) : ConfigRecord :=
  { lanesUsed := field8 b 0, interval := field8 b 1, offAspect := field8 b 2, holdMode := field8 b 3,
    headTimeout := field8 b 4, warning := field8 b 5, clear := field8 b 6, lane0 := laneOfBody b 7,
    lane1 := laneOfBody b 13, lane2 := laneOfBody b 19 }

/-- R181: a context record from its 26 bytes. -/
def contextOfBody (b : List Nat) : ContextRecord :=
  { rPrev := field16 b 0, stagedPeriod := field16 b 2, stagedMark := field8 b 4,
    activePeriod := field16 b 5, bits := field8 b 7, sticky := field8 b 8, last := field8 b 9,
    recovery := field8 b 10, stackCount := field8 b 11, stack0 := field8 b 12, stack1 := field8 b 13,
    stack2 := field8 b 14, stack3 := field8 b 15, reduction := field16 b 16, lifetime := field8 b 18,
    wait0 := field8 b 19, wait1 := field8 b 20, wait2 := field8 b 21, starvation0 := field8 b 22,
    starvation1 := field8 b 23, starvation2 := field8 b 24, pointer := field8 b 25 }

/-- R181: a health limits record from its nine bytes. -/
def limitsOfBody (b : List Nat) : LimitsRecord :=
  { stuckOn := field16 b 0, chatter := field8 b 2, timeout := field8 b 3, floor := field16 b 4,
    fail := field8 b 6, recovery := field8 b 7, hold := field8 b 8 }

/-- R180: the command of a request whose format is right; none for a code that is not in the table. -/
def requestOfCode (code : Nat) (q : Request) (b : List Nat) : Option Instr :=
  match code with
  | 0x01 => some (.identify q)
  | 0x02 => some (.siteWrite q ⟨field8 b 0, field8 b 1, field8 b 2⟩)
  | 0x03 => some (.siteRead q)
  | 0x04 => some (.healthLimitsWrite q (limitsOfBody b))
  | 0x05 => some (.healthLimitsRead q)
  | 0x10 => some (.detectorWrite q (entryRecords (b.drop 1)))
  | 0x11 => some (.detectorRead q (field8 b 0) (field8 b 1))
  | 0x12 => some (.forceOut q)
  | 0x13 => some (.restore q)
  | 0x20 => some (.planWrite q (planOfBody b))
  | 0x21 => some (.planRead q)
  | 0x22 => some (.push q (field8 b 0))
  | 0x23 => some (.pop q)
  | 0x24 => some (.setBase q (field8 b 0))
  | 0x30 => some (.rampConfigWrite q (configOfBody b))
  | 0x31 => some (.rampConfigRead q)
  | 0x32 => some (.start q)
  | 0x33 => some (.stop q)
  | 0x34 => some (.hold q)
  | 0x35 => some (.release q)
  | 0x36 => some (.resume q)
  | 0x37 => some (.laneClose q (field8 b 0))
  | 0x38 => some (.laneOpen q (field8 b 0))
  | 0x39 => some (.share q (field16 b 0) (field8 b 2))
  | 0x40 => some (.statusRead q)
  | 0x41 => some (.statusClear q)
  | 0x42 => some (.contextDump q)
  | 0x43 => some (.contextLoad q (contextOfBody b))
  | 0x50 => some (.ringStatus q)
  | 0x51 => some (.ringReset q)
  | _ => none

/-- R168: the command a REQUEST frame addressed to the part spells. -/
def requestCommand (src tag : Nat) (payload : List Byte) : Instr :=
  if formatFault payload then .requestFormatReject src tag payload
  else
    let b := byteValues payload
    (requestOfCode (field8 b 0) ⟨src, tag, field8 b 1⟩ (b.drop 2)).getD
      (.requestFormatReject src tag payload)

/-- R160: the command a received frame hands on to a block, if any: a SCAN whatever its destination, a
REQUEST or HEAD STATUS addressed to the part. -/
def handOn (own : Nat) (bytes : Frame) : Option Instr :=
  if frameKind bytes = Config.kindScan then some (scanCommand (frameSrc bytes) (framePayload bytes))
  else if frameDst bytes ≠ own then none
  else if frameKind bytes = Config.kindRequest then
    some (requestCommand (frameSrc bytes) (frameTag bytes) (framePayload bytes))
  else if frameKind bytes = Config.kindHeadStatus then
    some (statusCommand (frameDst bytes) (frameSrc bytes) (framePayload bytes))
  else none

/-! The spelling of request commands (R179 to R181), the other way round. -/

/-- R181. -/
def EntryRecord.bytes (r : EntryRecord) : List Byte :=
  [u8 r.flags, u8 r.station, u8 r.channel, u8 r.role, u8 r.ramp, u8 r.substitute, u8 r.scale]

/-- R181. -/
def SiteRecord.bytes (r : SiteRecord) : List Byte := [u8 r.report, u8 r.refresh, u8 r.confirm]

/-- R181. -/
def LimitsRecord.bytes (r : LimitsRecord) : List Byte :=
  u16 r.stuckOn ++ [u8 r.chatter, u8 r.timeout] ++ u16 r.floor ++ [u8 r.fail, u8 r.recovery, u8 r.hold]

/-- R181. -/
def PlanRecord.bytes (r : PlanRecord) : List Byte :=
  u16 r.rMin ++ u16 r.rMax ++ u16 r.rInit ++ u16 r.target ++ [u8 r.gain] ++ u16 r.capacity ++
  u16 r.stepLimit ++ u16 r.queueThreshold ++ u16 r.queueBoost ++ u16 r.occCeiling ++ u16 r.flowCeiling ++
  [u8 r.weight, u8 r.green, u8 r.amber, u8 r.minRed, u8 r.grace, u8 r.size, u8 r.rounding, u8 r.gating,
   u8 r.leveling, u8 r.starvationLimit, u8 r.spillTime] ++ u16 r.flushPeriod ++ u16 r.fallbackPeriod ++
  [u8 r.recoveryIntervals, u8 r.mask]

/-- R181. -/
def LaneRecord.bytes (r : LaneRecord) : List Byte :=
  [u8 r.driver, u8 r.output, u8 r.demand, u8 r.sense, u8 r.passage, u8 r.edge]

/-- R181. -/
def ConfigRecord.bytes (r : ConfigRecord) : List Byte :=
  [u8 r.lanesUsed, u8 r.interval, u8 r.offAspect, u8 r.holdMode, u8 r.headTimeout, u8 r.warning,
   u8 r.clear] ++ r.lane0.bytes ++ r.lane1.bytes ++ r.lane2.bytes

/-- R181. -/
def ContextRecord.bytes (r : ContextRecord) : List Byte :=
  u16 r.rPrev ++ u16 r.stagedPeriod ++ [u8 r.stagedMark] ++ u16 r.activePeriod ++
  [u8 r.bits, u8 r.sticky, u8 r.last, u8 r.recovery, u8 r.stackCount, u8 r.stack0, u8 r.stack1,
   u8 r.stack2, u8 r.stack3] ++ u16 r.reduction ++
  [u8 r.lifetime, u8 r.wait0, u8 r.wait1, u8 r.wait2, u8 r.starvation0, u8 r.starvation1,
   u8 r.starvation2, u8 r.pointer]

/-- R180: the request a command is, with its code and body; none for a command that is no request. -/
def Instr.request (i : Instr) : Option (Request × Nat × List Byte) :=
  match i with
  | .identify q => some (q, 0x01, [])
  | .siteWrite q rec => some (q, 0x02, rec.bytes)
  | .siteRead q => some (q, 0x03, [])
  | .healthLimitsWrite q rec => some (q, 0x04, rec.bytes)
  | .healthLimitsRead q => some (q, 0x05, [])
  | .detectorWrite q entries => some (q, 0x10, u8 entries.length :: entries.flatMap EntryRecord.bytes)
  | .detectorRead q count view => some (q, 0x11, [u8 count, u8 view])
  | .forceOut q => some (q, 0x12, [])
  | .restore q => some (q, 0x13, [])
  | .planWrite q rec => some (q, 0x20, rec.bytes)
  | .planRead q => some (q, 0x21, [])
  | .push q plan => some (q, 0x22, [u8 plan])
  | .pop q => some (q, 0x23, [])
  | .setBase q plan => some (q, 0x24, [u8 plan])
  | .rampConfigWrite q rec => some (q, 0x30, rec.bytes)
  | .rampConfigRead q => some (q, 0x31, [])
  | .start q => some (q, 0x32, [])
  | .stop q => some (q, 0x33, [])
  | .hold q => some (q, 0x34, [])
  | .release q => some (q, 0x35, [])
  | .resume q => some (q, 0x36, [])
  | .laneClose q lane => some (q, 0x37, [u8 lane])
  | .laneOpen q lane => some (q, 0x38, [u8 lane])
  | .share q reduction lifetime => some (q, 0x39, u16 reduction ++ [u8 lifetime])
  | .statusRead q => some (q, 0x40, [])
  | .statusClear q => some (q, 0x41, [])
  | .contextDump q => some (q, 0x42, [])
  | .contextLoad q rec => some (q, 0x43, rec.bytes)
  | .ringStatus q => some (q, 0x50, [])
  | .ringReset q => some (q, 0x51, [])
  | _ => none

/-- R179, R180: the REQUEST frame, addressed to `own`, that spells a request command. -/
def Instr.requestFrame (own : Nat) (i : Instr) : Option Frame :=
  i.request.map (fun r =>
    mkFrame own r.1.src Config.kindRequest r.1.tag (u8 r.2.1 :: u8 r.1.subject :: r.2.2))

/-- The command that a word of the opcode table spells. The table gives no row any bits, so no word spells
a command. -/
def decodeTableWord (_nbits _w : Nat) : Option Instr := none

end Sys2Proof
end

