-- ==== Sys2Proof/Machine/State.lean ====
section
/-! DEFINITION. The state of the 2416 as plain data: every piece of state the manual names, block by block, the
queue of waiting commands, and the machine right after a hard reset. Times stand in the units of the manual
(ds, s or ms); a RUNNING timer holds the length it was last loaded with (DESIGN CHOICE, log 1). -/

namespace Sys2Proof.Machine

/-- No command makes the block stop: the manual describes no such condition, and this type has no
constructor. -/
inductive Fault
  deriving DecidableEq, Repr

/-- Why a command has no meaning. -/
inductive Refusal where
  /-- Raised by exec's own arm for a row that has no meaning yet (safe: the model stops). No row of this
  model is refused. -/
  | notModelled (mnemonic : String)
  deriving DecidableEq, Repr

/-- Result codes of replies (00_scope.md 5.4). -/
inductive Result where
  | done
  | partly
  | badFormat
  | badValue
  | wrongState
  | busy
  | noRoom
  | stackFault
  deriving DecidableEq, Repr

/-- A subset of the six computation flags (00_scope.md 5.5, R177). -/
structure Flags where
  miss : Bool
  impl : Bool
  high : Bool
  low : Bool
  round : Bool
  stack : Bool
  deriving DecidableEq, Repr

/-- No flag. -/
def Flags.none : Flags := ⟨false, false, false, false, false, false⟩

/-- A subset of the five symptoms (R23, R24). -/
structure Symptoms where
  chatter : Bool
  stuckOn : Bool
  stationSilent : Bool
  coverageShort : Bool
  silence : Bool
  deriving DecidableEq, Repr

/-- No symptom. -/
def Symptoms.none : Symptoms := ⟨false, false, false, false, false⟩

/-- A subset of the lamp faults (R145, R177). -/
structure Lamps where
  red : Bool
  amber : Bool
  green : Bool
  deriving DecidableEq, Repr

/-- No lamp fault. -/
def Lamps.none : Lamps := ⟨false, false, false⟩

/-- The use of a detector entry (R1). -/
inductive Role where
  | mainUp
  | mainDown
  | rampIn
  | queue
  | spill
  | demand
  | passage
  deriving DecidableEq, Repr

/-- The standing of a detector entry (R23). -/
inductive Health where
  | good
  | suspect
  | failed
  | forcedOut
  deriving DecidableEq, Repr

/-- The outcome of an entry's usability step (R33), with the substitute used (R23). -/
inductive Usability where
  | own
  | substitute (entry : Nat)
  | held
  | unusable
  deriving DecidableEq, Repr

/-- A flow (veh/h) and an occupancy (hundredths of a percent) (R56). -/
structure Measure where
  flow : Nat
  occ : Nat
  deriving DecidableEq, Repr

/-- Held measures with their remaining hold count (R35). -/
structure Held where
  flow : Nat
  occ : Nat
  count : Nat
  deriving DecidableEq, Repr

/-- The configuration of an enabled detector entry (R1). `drop` is the fallback policy DROP. -/
structure DetectorConfig where
  station : Nat
  channel : Nat
  role : Role
  ramp : Fin 4
  substitute : Option Nat
  scale : Nat
  drop : Bool
  deriving DecidableEq, Repr

/-- An enabled detector entry: configuration (R1), Scan Intake's dynamic state (R3), the Detector Health
Monitor's (R23) and the Interval Measure Unit's (R56). -/
structure Detector where
  config : DetectorConfig
  arrivals : Nat
  onTime : Nat
  span : Nat
  presence : Bool
  previous : Bool
  presenceRun : Nat
  absenceRun : Nat
  health : Health
  symptomatic : Nat
  clean : Nat
  symptoms : Symptoms
  usability : Option Usability
  raw : Option Measure
  smoothed : Option Measure
  held : Option Held
  deriving DecidableEq, Repr

/-- R4: an entry set up afresh under a configuration. -/
def Detector.fresh (c : DetectorConfig) : Detector :=
  { config := c, arrivals := 0, onTime := 0, span := 0, presence := false, previous := false,
    presenceRun := 0, absenceRun := 0, health := .good, symptomatic := 0, clean := 0,
    symptoms := .none, usability := none, raw := none, smoothed := none, held := none }

/-- A station record (R6); its address is its key. `timer` is none once the timer has expired. -/
structure Station where
  live : Bool
  marks : Four Bool
  timer : Option Nat
  deriving DecidableEq, Repr

/-- The health limits record (R22). -/
structure Limits where
  stuckOn : Nat
  chatter : Nat
  timeout : Nat
  floor : Nat
  fail : Nat
  recovery : Nat
  hold : Nat
  deriving DecidableEq, Repr

/-- The site settings record (R171). -/
structure Site where
  report : Nat
  refresh : Nat
  confirm : Nat
  deriving DecidableEq, Repr

/-- Rounding of the period conversion (R39 field 18). -/
inductive Rounding where
  | nearest
  | short
  | long
  deriving DecidableEq, Repr

/-- How the arbiter picks (R39 field 20). -/
inductive Leveling where
  | rotate
  | wait
  | waitGuard
  deriving DecidableEq, Repr

/-- A valid plan record: the 26 fields of R39. `gating` is demand gating ON; `unmasked` holds the flags whose
choice in the exception mask is UNMASKED. -/
structure Plan where
  rMin : Nat
  rMax : Nat
  rInit : Nat
  target : Nat
  gain : Nat
  capacity : Nat
  stepLimit : Nat
  queueThreshold : Nat
  queueBoost : Nat
  occCeiling : Nat
  flowCeiling : Nat
  weight : Nat
  green : Nat
  amber : Nat
  minRed : Nat
  grace : Nat
  size : Nat
  rounding : Rounding
  gating : Bool
  leveling : Leveling
  starvationLimit : Nat
  spillTime : Nat
  flushPeriod : Nat
  fallbackPeriod : Nat
  recoveryIntervals : Nat
  unmasked : Flags
  deriving DecidableEq, Repr

/-- What a head shows (R177). -/
inductive Aspect where
  | dark
  | red
  | amber
  | green
  | flash
  deriving DecidableEq, Repr

/-- Hold input mode (R105 field 4). -/
inductive HoldMode where
  | level
  | latched
  | ignored
  deriving DecidableEq, Repr

/-- One kept lane sub-record (R105). `inverted` is the sense INVERTED, `departure` the edge DEPARTURE. -/
structure LaneConfig where
  driver : Nat
  output : Nat
  demand : Option Nat
  inverted : Bool
  passage : Option Nat
  departure : Bool
  deriving DecidableEq, Repr

/-- A present ramp configuration record (R105). `lanes` holds the used lanes' sub-records, lane 0 first; their
number is the field "lanes used". `offGreen` is the off aspect GREEN. -/
structure RampConfig where
  interval : Nat
  offGreen : Bool
  holdMode : HoldMode
  headTimeout : Nat
  warning : Nat
  clear : Nat
  lanes : List LaneConfig
  deriving DecidableEq, Repr

/-- The state from which SUSPENDED was entered (R107). -/
inductive HeldFrom where
  | starting
  | metering
  | fallback
  deriving DecidableEq, Repr

/-- The ramp state, with `entered from` in SUSPENDED alone (R107). -/
inductive RampState where
  | dark
  | starting
  | metering
  | fallback
  | suspended (enteredFrom : HeldFrom)
  | clearing
  deriving DecidableEq, Repr

/-- The share record (R118). `read` marks a record that the running job's snapshot read (R79, DEDUCED, log 13). -/
structure Share where
  reduction : Nat
  lifetime : Nat
  read : Bool
  deriving DecidableEq, Repr

/-- Last result (R91). -/
inductive LastResult where
  | none
  | accepted
  | withheld
  deriving DecidableEq, Repr

/-- A set start fault: the sticky flags the load wrote, and whether one of them was UNMASKED at the load
(R101, R102, DEDUCED, log 11). -/
structure StartFault where
  flags : Flags
  judged : Bool
  deriving DecidableEq, Repr

/-- Clock state with its remaining time while RUNNING (R122). -/
inductive ClockState where
  | stopped
  | running (remaining : Nat)
  | due
  deriving DecidableEq, Repr

/-- The mark of a staged period (R122). -/
inductive Mark where
  | computed
  | flush
  | returning
  deriving DecidableEq, Repr

/-- A staged period with its mark (R122). -/
structure Staged where
  period : Nat
  mark : Mark
  deriving DecidableEq, Repr

/-- A release clock (R122). Switch pending is set exactly while `staged` holds a period; flush-active exactly
while `flush` holds the held flush period. -/
structure Clock where
  state : ClockState
  frozen : Bool
  awaiting : Bool
  active : Option Nat
  staged : Option Staged
  flush : Option Nat
  computed : Option Nat
  deriving DecidableEq, Repr

/-- Lane cycle state with its state time (R131). -/
inductive LaneCycle where
  | off
  | red (time : Nat)
  | ready
  | green (time : Nat)
  | amber (time : Nat)
  deriving DecidableEq, Repr

/-- The timings read at a lane's last GREEN entry, but for the minimum red (R131). -/
structure Timings where
  green : Nat
  amber : Nat
  grace : Nat
  size : Nat
  deriving DecidableEq, Repr

/-- A lane (R131). `minRed` is the held minimum red, read at GREEN entry and at a RED entry from OFF. -/
structure Lane where
  cycle : LaneCycle
  timings : Option Timings
  minRed : Option Nat
  grace : Option Nat
  window : Nat
  isOpen : Bool
  closePending : Bool
  demand : Bool
  starvation : Nat
  greens : Nat
  served : Nat
  violations : Nat
  extra : Nat
  deriving DecidableEq, Repr

/-- Cause of a lane disable (R154). -/
inductive DisableCause where
  | lamp
  | confirm
  | silent
  deriving DecidableEq, Repr

/-- The head record of a used lane (R145). `sent` is the aspect last sent while the record is valid, none
while it is not. `silence` is none while the timer is STOPPED or has expired. -/
structure Head where
  sent : Option Aspect
  refresh : Nat
  confirm : Option Nat
  silence : Option Nat
  lamps : Lamps
  disabled : Option DisableCause
  deriving DecidableEq, Repr

/-- All that the blocks hold for one ramp. -/
structure Ramp where
  /-- Plan Stacks: bottom first (R42). -/
  stack : List Nat
  /-- Interval Measure Unit: the interval timer (R52) and the overrun mark (R67). -/
  intervalTimer : Option Nat
  overrun : Bool
  /-- Scan Intake: spill asserted (R20). -/
  spill : Bool
  /-- RCU: the rate record (R73). -/
  rPrev : Option Nat
  /-- Status and Fault Logic (R91). -/
  sticky : Flags
  last : Flags
  lastResult : LastResult
  faultPending : Bool
  recovery : Nat
  startFault : Option StartFault
  /-- Ramp State Controller (R105, R107); `holdInput` is the level of the RHOLD pin. -/
  config : Option RampConfig
  state : RampState
  requestHold : Bool
  inputHold : Bool
  holdInput : Bool
  warningTimer : Option Nat
  clearTimer : Option Nat
  share : Option Share
  carriedRate : Option Nat
  /-- Release Timing Unit (R122, R131, R135, R136). -/
  clock : Clock
  lanes : Three Lane
  waitOrder : List (Fin 3)
  pointer : Fin 3
  /-- Head Link Controller: a record for each used head (R145). -/
  heads : Three (Option Head)
  deriving DecidableEq, Repr

/-- The close record of an INTERVAL job (R64); none marks an empty group. -/
structure CloseRecord where
  od : Option Nat
  qu : Option Nat
  qdem : Option Nat
  qocc : Option Nat
  spill : Bool
  deriving DecidableEq, Repr

/-- What a job was offered with (R64, R89): a close record, or the start rate source (none: r_init). -/
inductive JobKind where
  | interval (close : CloseRecord)
  | start (carried : Option Nat)
  deriving DecidableEq, Repr

/-- A job (R69). -/
structure Job where
  ramp : Fin 4
  kind : JobKind
  deriving DecidableEq, Repr

/-- What a job reads when it starts (R72, R89); `share` is the share's reduction, `lanes` is n. A START job reads no
share and no r_prev: both are none. -/
structure Snapshot where
  number : Nat
  plan : Plan
  share : Option Nat
  rPrev : Option Nat
  lanes : Nat
  deriving DecidableEq, Repr

/-- The RCU: idle, or busy with the job at the head of the queue and its snapshot; a job whose top plan was
invalid read none (R71, R72). -/
inductive Rcu where
  | idle
  | busy (snapshot : Option Snapshot)
  deriving DecidableEq, Repr

/-- A frame of the normal queue or on the line; `resetReply` is the reset reply mark (R166). -/
structure Outgoing where
  frame : Frame
  resetReply : Bool
  deriving DecidableEq, Repr

structure State where
  /-- The waiting commands, first in, first out. -/
  pending : List Instr
  /-- Commands spelled by frames handed on by R160 and not acted on yet: the model's own (DESIGN CHOICE, log 3). -/
  handed : List Instr
  /-- How many free values have been drawn: the model's own (DESIGN CHOICE, log 7). -/
  freeCount : Nat
  /-- Ring Port (R157, R158, R161, R162, R176). -/
  ownAddress : Nat
  linkUp : Bool
  awaitingGap : Bool
  txHold : Bool
  forward : List Frame
  urgent : List Frame
  normal : List Outgoing
  forwardDropped : Bool
  urgentDropped : Bool
  normalDropped : Bool
  waitCount : Nat
  line : Option Outgoing
  sequence : Nat
  /-- Site settings (R171) and health limits (R22). -/
  site : Site
  limits : Limits
  /-- The detector table: a row for each enabled entry (R1). -/
  detectors : Table Detector
  /-- The station list, keyed by address (R6). -/
  stations : Table Station
  /-- The source that each SPILL entry had when its reference was last resolved (R17, R20), keyed by the entry; an
  entry that had none has no row. What a later event's sources are compared with (log 12). -/
  lastSources : Table Nat
  /-- The plan table: a row for each valid plan (R38). -/
  plans : Table Plan
  /-- The RCU's job queue and what it is doing (R69, R71). -/
  jobs : List Job
  rcu : Rcu
  ramps : Four Ramp
  deriving DecidableEq, Repr

/-- R171: the site settings after a hard reset. -/
def Site.reset : Site := { report := 127, refresh := 20, confirm := 10 }

/-- R22: the health limits after a hard reset. -/
def Limits.reset : Limits :=
  { stuckOn := 120, chatter := 6, timeout := 3, floor := 600, fail := 3, recovery := 5, hold := 4 }

/-- R144: a release clock after a reset. -/
def Clock.reset : Clock :=
  { state := .stopped, frozen := false, awaiting := false, active := none, staged := none,
    flush := none, computed := none }

/-- R144: a lane after a hard reset. -/
def Lane.reset : Lane :=
  { cycle := .off, timings := none, minRed := none, grace := none, window := 0, isOpen := true,
    closePending := false, demand := false, starvation := 0, greens := 0, served := 0, violations := 0,
    extra := 0 }

/-- One ramp after a hard reset, its hold pin at the level `pin` (R21, R51, R68, R73, R104, R121, R144, R156). -/
def Ramp.reset (pin : Bool) : Ramp :=
  { stack := [0], intervalTimer := none, overrun := false, spill := false, rPrev := none,
    sticky := .none, last := .none, lastResult := .none, faultPending := false, recovery := 0,
    startFault := none, config := none, state := .dark, requestHold := false, inputHold := false,
    holdInput := pin, warningTimer := none, clearTimer := none, share := none, carriedRate := none,
    clock := .reset, lanes := .all .reset, waitOrder := [], pointer := 2, heads := .all none }

/-- The machine right after a hard reset with the straps read as 0, no signal on the receive line and every
input deasserted (R167, R157, R158; DESIGN CHOICE, log 6). -/
def State.reset : State :=
  { pending := [], handed := [], freeCount := 0, ownAddress := 126, linkUp := false,
    awaitingGap := true, txHold := false, forward := [], urgent := [], normal := [],
    forwardDropped := false, urgentDropped := false, normalDropped := false, waitCount := 0,
    line := none, sequence := 0, site := .reset, limits := .reset, detectors := .empty,
    stations := .empty, lastSources := .empty, plans := .empty, jobs := [], rcu := .idle, ramps := .all (.reset false) }

end Sys2Proof.Machine
end

