-- ==== Sys2Proof/Machine/Flags.lean ====
section
/-! DEFINITION. Sets of flags, symptoms and lamp faults, and their bytes (R177), and the codes of the manual's code lists
(R177, R183, 00_scope.md 5.4). -/

namespace Sys2Proof.Machine

/-- The members of either set. -/
def Flags.union (a b : Flags) : Flags :=
  ⟨a.miss || b.miss, a.impl || b.impl, a.high || b.high, a.low || b.low, a.round || b.round, a.stack || b.stack⟩

/-- The members of both sets. -/
def Flags.inter (a b : Flags) : Flags :=
  ⟨a.miss && b.miss, a.impl && b.impl, a.high && b.high, a.low && b.low, a.round && b.round, a.stack && b.stack⟩

/-- The set has a member. -/
def Flags.any (a : Flags) : Bool := a.miss || a.impl || a.high || a.low || a.round || a.stack

/-- The set {STACK}. -/
def Flags.onlyStack : Flags := { Flags.none with stack := true }

/-- A member's bit in a set's byte. -/
def bitValue (b : Bool) (weight : Nat) : Nat := if b then weight else 0

/-- R177: bits 0 MISS, 1 IMPL, 2 HIGH, 3 LOW, 4 ROUND, 5 STACK. -/
def Flags.code (a : Flags) : Nat :=
  bitValue a.miss 1 + bitValue a.impl 2 + bitValue a.high 4 + bitValue a.low 8 + bitValue a.round 16 +
  bitValue a.stack 32

/-- R177: the set a byte carries; bits the layout does not name are ignored. -/
def Flags.ofCode (n : Nat) : Flags :=
  ⟨n.testBit 0, n.testBit 1, n.testBit 2, n.testBit 3, n.testBit 4, n.testBit 5⟩

/-- The set has a member. -/
def Symptoms.any (a : Symptoms) : Bool :=
  a.chatter || a.stuckOn || a.stationSilent || a.coverageShort || a.silence

/-- R177: bits 0 chatter, 1 stuck-on, 2 station silent, 3 coverage short, 4 silence. -/
def Symptoms.code (a : Symptoms) : Nat :=
  bitValue a.chatter 1 + bitValue a.stuckOn 2 + bitValue a.stationSilent 4 + bitValue a.coverageShort 8 +
  bitValue a.silence 16

/-- R177: bits 0 red, 1 amber, 2 green. -/
def Lamps.code (a : Lamps) : Nat := bitValue a.red 1 + bitValue a.amber 2 + bitValue a.green 4

/-- R177. -/
def Lamps.ofCode (n : Nat) : Lamps := ⟨n.testBit 0, n.testBit 1, n.testBit 2⟩

/-- 00_scope.md 5.4. -/
def Result.code (r : Result) : Nat :=
  match r with
  | .done => 0
  | .partly => 1
  | .badFormat => 2
  | .badValue => 3
  | .wrongState => 4
  | .busy => 5
  | .noRoom => 6
  | .stackFault => 7

/-- R177: ramp state. -/
def RampState.code (r : RampState) : Nat :=
  match r with
  | .dark => 0
  | .starting => 1
  | .metering => 2
  | .fallback => 3
  | .suspended _ => 4
  | .clearing => 5

/-- R177: the code of the state from which SUSPENDED was entered. -/
def HeldFrom.code (h : HeldFrom) : Nat :=
  match h with
  | .starting => 1
  | .metering => 2
  | .fallback => 3

/-- R120, R177: entered from, 0xFF where there is none. -/
def RampState.enteredFromCode (r : RampState) : Nat :=
  match r with
  | .suspended h => h.code
  | _ => 0xFF

/-- R92, R107: the return state of a SUSPENDED ramp, 0xFF (none) otherwise. -/
def RampState.returnCode (r : RampState) : Nat :=
  match r with
  | .suspended .fallback => 3
  | .suspended _ => 2
  | _ => 0xFF

/-- R177: aspect. -/
def Aspect.code (a : Aspect) : Nat :=
  match a with
  | .dark => 0
  | .red => 1
  | .amber => 2
  | .green => 3
  | .flash => 4

/-- R177: the aspect a byte codes, none for a code that is not one of the five. -/
def Aspect.ofCode (n : Nat) : Option Aspect :=
  match n with
  | 0 => some .dark
  | 1 => some .red
  | 2 => some .amber
  | 3 => some .green
  | 4 => some .flash
  | _ => none

/-- R177: an aspect or none. -/
def aspectCode (a : Option Aspect) : Nat :=
  match a with
  | some x => x.code
  | none => 0xFF

/-- R177: role. -/
def Role.code (r : Role) : Nat :=
  match r with
  | .mainUp => 0
  | .mainDown => 1
  | .rampIn => 2
  | .queue => 3
  | .spill => 4
  | .demand => 5
  | .passage => 6

/-- R177. -/
def Role.ofCode (n : Nat) : Option Role :=
  match n with
  | 0 => some .mainUp
  | 1 => some .mainDown
  | 2 => some .rampIn
  | 3 => some .queue
  | 4 => some .spill
  | 5 => some .demand
  | 6 => some .passage
  | _ => none

/-- R177: health. -/
def Health.code (h : Health) : Nat :=
  match h with
  | .good => 0
  | .suspect => 1
  | .failed => 2
  | .forcedOut => 3

/-- R17, R25, R33, R34: the entry's health lets it serve. -/
def Health.serves (h : Health) : Bool :=
  match h with
  | .good => true
  | .suspect => true
  | .failed => false
  | .forcedOut => false

/-- R177: last usability. -/
def usabilityCode (u : Option Usability) : Nat :=
  match u with
  | none => 0
  | some .own => 1
  | some (.substitute _) => 2
  | some .held => 3
  | some .unusable => 4

/-- R23, R181: the substitute used, 0xFF for none. -/
def substituteUsedCode (u : Option Usability) : Nat :=
  match u with
  | some (.substitute i) => i
  | _ => 0xFF

/-- R177: last result. -/
def LastResult.code (r : LastResult) : Nat :=
  match r with
  | .none => 0
  | .accepted => 1
  | .withheld => 2

/-- R177: staged mark. -/
def Mark.code (m : Mark) : Nat :=
  match m with
  | .computed => 1
  | .flush => 2
  | .returning => 3

/-- R177. -/
def Rounding.code (r : Rounding) : Nat :=
  match r with
  | .nearest => 0
  | .short => 1
  | .long => 2

/-- R177. -/
def Rounding.ofCode (n : Nat) : Rounding :=
  match n with
  | 0 => .nearest
  | 1 => .short
  | _ => .long

/-- R177. -/
def Leveling.code (l : Leveling) : Nat :=
  match l with
  | .rotate => 0
  | .wait => 1
  | .waitGuard => 2

/-- R177. -/
def Leveling.ofCode (n : Nat) : Leveling :=
  match n with
  | 0 => .rotate
  | 1 => .wait
  | _ => .waitGuard

/-- R177: hold input mode. -/
def HoldMode.code (m : HoldMode) : Nat :=
  match m with
  | .level => 0
  | .latched => 1
  | .ignored => 2

/-- R177. -/
def HoldMode.ofCode (n : Nat) : HoldMode :=
  match n with
  | 0 => .level
  | 1 => .latched
  | _ => .ignored

/-- R183: HEAD notice causes of a disable. -/
def DisableCause.code (c : DisableCause) : Nat :=
  match c with
  | .lamp => 0
  | .confirm => 1
  | .silent => 2

/-- R183: causes of a RAMP notice. -/
inductive RampCause where
  | start
  | warningEnd
  | hold
  | holdEnd
  | fault
  | returned
  | stop
  | clearEnd
  | headRed
  | noLane
  deriving DecidableEq, Repr

/-- R183. -/
def RampCause.code (c : RampCause) : Nat :=
  match c with
  | .start => 0
  | .warningEnd => 1
  | .hold => 2
  | .holdEnd => 3
  | .fault => 4
  | .returned => 5
  | .stop => 6
  | .clearEnd => 7
  | .headRed => 8
  | .noLane => 9

/-- R183: causes of a FAULT notice. -/
inductive FaultCause where
  | withheld
  | start
  | stack
  | load
  deriving DecidableEq, Repr

/-- R183. -/
def FaultCause.code (c : FaultCause) : Nat :=
  match c with
  | .withheld => 0
  | .start => 1
  | .stack => 2
  | .load => 3

/-- R183: causes of a HEALTH notice. -/
inductive HealthCause where
  | close
  | forceOut
  | restore
  | write
  deriving DecidableEq, Repr

/-- R183. -/
def HealthCause.code (c : HealthCause) : Nat :=
  match c with
  | .close => 0
  | .forceOut => 1
  | .restore => 2
  | .write => 3

end Sys2Proof.Machine
end

