-- ==== Sys2Proof/Machine/Ops.lean ====
section
/-! DEFINITION. The operations every event is made of: reading and replacing a ramp, its lanes and heads; offering a
frame to a queue (R161); building notices, reports and replies (R164, R169, R176); drawing a free value (DESIGN CHOICE, log 7). -/

namespace Sys2Proof.Machine

/-! ## Ramps, lanes, heads -/

/-- Ramp `k`. -/
def State.ramp (s : State) (k : Fin 4) : Ramp := s.ramps.get k

/-- The state with ramp `k` replaced. -/
def State.setRamp (s : State) (k : Fin 4) (r : Ramp) : State := { s with ramps := s.ramps.set k r }

/-- The state with `f` run on ramp `k`. -/
def State.updRamp (s : State) (k : Fin 4) (f : Ramp → Ramp) : State := s.setRamp k (f (s.ramp k))

/-- Lane `l` of the ramp. -/
def Ramp.lane (r : Ramp) (l : Fin 3) : Lane := r.lanes.get l

/-- The ramp with `f` run on lane `l`. -/
def Ramp.updLane (r : Ramp) (l : Fin 3) (f : Lane → Lane) : Ramp :=
  { r with lanes := r.lanes.set l (f (r.lanes.get l)) }

/-- The head record of lane `l`, if the lane has a head (R145). -/
def Ramp.head (r : Ramp) (l : Fin 3) : Option Head := r.heads.get l

/-- The ramp with `f` run on lane `l`'s head record, if it has one. -/
def Ramp.updHead (r : Ramp) (l : Fin 3) (f : Head → Head) : Ramp :=
  { r with heads := r.heads.set l ((r.heads.get l).map f) }

/-- The kept sub-record of lane `l`; none for a lane that is not used (R105). -/
def Ramp.laneConfig (r : Ramp) (l : Fin 3) : Option LaneConfig :=
  match r.config with
  | none => none
  | some c => c.lanes[l.val]?

/-- Lane `l` is a used lane (R105). -/
def Ramp.used (r : Ramp) (l : Fin 3) : Bool := (r.laneConfig l).isSome

/-- Lane `l`'s disabled flag (R154). -/
def Ramp.disabled (r : Ramp) (l : Fin 3) : Bool :=
  match r.head l with
  | none => false
  | some h => h.disabled.isSome

/-- Lane `l` is used, open and not disabled. -/
def Ramp.laneInService (r : Ramp) (l : Fin 3) : Bool := r.used l && (r.lane l).isOpen && !r.disabled l

/-- Some used lane is open and not disabled (R108, R113, R141). -/
def Ramp.inService (r : Ramp) : Bool := allLanes.any r.laneInService

/-- R72: n, the number of used lanes that are open and not disabled. -/
def Ramp.openLanes (r : Ramp) : Nat := (allLanes.filter r.laneInService).length

/-- The ramp's active plan number (R42); the empty stack, which no ramp has, reads as plan 0. -/
def Ramp.top (r : Ramp) : Nat := r.stack.getLast?.getD 0

/-- The record of ramp `k`'s active plan, none while that plan is invalid (R38, R42). -/
def State.topPlan (s : State) (k : Fin 4) : Option Plan := s.plans.get (s.ramp k).top

/-- The ramp is METERING, FALLBACK or SUSPENDED entered from either (R128, R142). -/
def RampState.metersOrHeld (r : RampState) : Bool :=
  match r with
  | .metering => true
  | .fallback => true
  | .suspended .metering => true
  | .suspended .fallback => true
  | _ => false

/-- The ramp is METERING or FALLBACK. -/
def RampState.meters (r : RampState) : Bool :=
  match r with
  | .metering => true
  | .fallback => true
  | _ => false

/-- The ramp is FALLBACK, or SUSPENDED entered from FALLBACK. -/
def RampState.fallbackOrHeld (r : RampState) : Bool :=
  match r with
  | .fallback => true
  | .suspended .fallback => true
  | _ => false

/-- The ramp is STARTING, METERING, FALLBACK or SUSPENDED. -/
def RampState.active (r : RampState) : Bool :=
  match r with
  | .dark => false
  | .clearing => false
  | _ => true

/-- The ramp is SUSPENDED. -/
def RampState.isSuspended (r : RampState) : Bool :=
  match r with
  | .suspended _ => true
  | _ => false

/-- R69: the ramp has a job queued or running. -/
def State.hasJob (s : State) (k : Fin 4) : Bool := s.jobs.any (fun j => j.ramp == k)

/-! ## Saturation and timers -/

/-- `n` saturating at `limit` (00_scope.md 5.3). -/
def saturate (limit n : Nat) : Nat := min limit n

/-- 00_scope.md 5.3: `num / den` rounded half up. -/
def halfUp (num den : Nat) : Nat := (2 * num + den) / (2 * den)

/-! ## Queues -/

/-- R161: an offer to the forward queue. -/
def State.offerForward (f : Frame) (s : State) : State :=
  if s.forward.length < Config.forwardCapacity then { s with forward := s.forward ++ [f] }
  else { s with forwardDropped := true }

/-- R161: the urgent insert queue accepts an offer now. -/
def State.urgentRoom (s : State) : Bool := decide (s.urgent.length < Config.urgentCapacity)

/-- R161: an offer to the urgent insert queue. -/
def State.offerUrgent (f : Frame) (s : State) : State :=
  if s.urgentRoom then { s with urgent := s.urgent ++ [f] } else { s with urgentDropped := true }

/-- R161: the normal insert queue accepts an offer now. -/
def State.normalRoom (s : State) : Bool := decide (s.normal.length < Config.normalCapacity)

/-- R161: an offer to the normal insert queue. -/
def State.offerNormal (o : Outgoing) (s : State) : State :=
  if s.normalRoom then { s with normal := s.normal ++ [o] } else { s with normalDropped := true }

/-! ## Frames the part builds (R164) -/

/-- R176, R164: a REPORT or NOTICE frame takes the sequence number at its offer, accepted or not. -/
def State.offerSequenced (kind : Nat) (payload : List Byte) (s : State) : State :=
  let f := mkFrame s.site.report s.ownAddress kind s.sequence payload
  State.offerNormal ⟨f, false⟩ { s with sequence := (s.sequence + 1) % 256 }

/-- A NOTICE frame (R176, R183). -/
def State.offerNotice (payload : List Byte) (s : State) : State :=
  s.offerSequenced Config.kindNotice payload

/-- R32, R183: a HEALTH notice. -/
def State.offerHealth (entry : Nat) (ramp : Fin 4) (before after : Health) (cause : HealthCause)
    (symptoms : Symptoms) (s : State) : State :=
  s.offerNotice [u8 1, u8 entry, u8 ramp.val, u8 before.code, u8 after.code, u8 cause.code, u8 symptoms.code]

/-- R102, R183: a FAULT notice. -/
def State.offerFault (k : Fin 4) (cause : FaultCause) (flags unmasked : Flags) (plan : Nat) (s : State) : State :=
  s.offerNotice [u8 2, u8 k.val, u8 cause.code, u8 (s.ramp k).state.code, u8 flags.code, u8 unmasked.code, u8 plan]

/-- R120, R183: a RAMP notice of a change from `before` to the state ramp `k` has now. -/
def State.offerRamp (k : Fin 4) (before : RampState) (cause : RampCause) (s : State) : State :=
  let r := s.ramp k
  s.offerNotice [u8 4, u8 k.val, u8 before.code, u8 r.state.code, u8 r.state.enteredFromCode,
    u8 (bitValue r.requestHold 1 + bitValue r.inputHold 2), u8 cause.code]

/-! ## Replies (R169) -/

/-- R169: the REPLY frame of a request. -/
def State.replyFrame (s : State) (q : Request) (code : Nat) (result : Result) (body : List Byte) : Frame :=
  mkFrame q.src s.ownAddress Config.kindReply q.tag ([u8 code, u8 result.code] ++ body)

/-- R169: the reply is offered to the normal insert queue. -/
def State.reply (q : Request) (code : Nat) (result : Result) (body : List Byte) (s : State) : State :=
  State.offerNormal ⟨s.replyFrame q code result body, false⟩ s

/-- R169: a BAD_VALUE reply names what failed in one byte. -/
def State.badValue (q : Request) (code item : Nat) (s : State) : State :=
  s.reply q code .badValue [u8 item]

/-- FREE VALUE (DESIGN CHOICE, log 7): the next byte the manual does not state. -/
def State.freeByte (s : State) : Byte := Config.unstatedByte s.freeCount

/-- `n` free values have been drawn. -/
def State.drew (n : Nat) (s : State) : State := { s with freeCount := s.freeCount + n }

/-- R169: a BAD_VALUE reply whose item the owner's rule does not give: the item is a free value (DESIGN CHOICE, log 7). -/
def State.badValueUnstated (q : Request) (code : Nat) (s : State) : State :=
  (s.reply q code .badValue [s.freeByte]).drew 1

/-- R169: a request whose subject is a ramp; another subject is refused with BAD_VALUE and item 0. -/
def State.onRamp (q : Request) (code : Nat) (f : Fin 4 → State → State) (s : State) : State :=
  if h : q.subject < 4 then f ⟨q.subject, h⟩ s else s.badValue q code 0

/-- Log 3: the command that acts on the first frame handed on takes it from the hand-over. -/
def State.took (c : Instr) (s : State) : State :=
  if s.handed.head? = some c then { s with handed := s.handed.drop 1 } else s

/-! ## Detector table -/

/-- Detector entry `i`, none while it is disabled. -/
def State.detector (s : State) (i : Nat) : Option Detector := s.detectors.get i

/-- The station record of an address says LIVE. -/
def State.stationLive (s : State) (a : Nat) : Bool :=
  match s.stations.get a with
  | some st => st.live
  | none => false

/-- R9: mark `k` of each station is set where the station is SILENT and cleared where it is LIVE. -/
def State.resetMarks (k : Fin 4) (s : State) : State :=
  { s with stations := s.stations.map (fun _ st => { st with marks := st.marks.set k (!st.live) }) }

/-- R15: A, T_on and T_span of the enabled entries of ramp `k` become 0. -/
def State.clearAccumulators (k : Fin 4) (s : State) : State :=
  { s with detectors := s.detectors.map (fun _ d =>
      if d.config.ramp = k then { d with arrivals := 0, onTime := 0, span := 0 } else d) }

end Sys2Proof.Machine
end

