-- ==== Sys2Proof/Machine/Starts.lean ====
section
/-! DEFINITION. What an event sets going as it ends: the start of the job that heads the queue of an idle RCU (R70, R71)
and of the frame that the transmit arbiter chooses (R162, R163); and the frame of every meaning: a command's effect,
then the starts that it brought due. -/

namespace Sys2Proof.Machine

/-! ## The start of a job -/

/-- R79: the share record is marked as the one that the running INTERVAL job read (DEDUCED, log 13). -/
def Ramp.shareRead (r : Ramp) : Ramp := { r with share := r.share.map (fun x => { x with read := true }) }

/-- The job is an INTERVAL job. -/
def Job.isInterval (j : Job) : Bool :=
  match j.kind with
  | .interval _ => true
  | .start _ => false

/-- R72, R89: the snapshot job `j` reads; none where the top plan is invalid. A START job reads no share record and no
r_prev. -/
def State.snapshot (s : State) (j : Job) : Option Snapshot :=
  let r := s.ramp j.ramp
  (s.topPlan j.ramp).map (fun p =>
    { number := r.top, plan := p
      share := if j.isInterval then r.share.map (fun x => x.reduction) else none
      rPrev := if j.isInterval then r.rPrev else none
      lanes := r.openLanes })

/-- R71: job `j`, at the head of the queue, starts. -/
def State.jobStarted (j : Job) (s : State) : State :=
  let x := s.snapshot j
  let s1 := { s with rcu := .busy x }
  if j.isInterval && x.isSome then s1.updRamp j.ramp Ramp.shareRead else s1

/-- R70, R71: with the RCU idle, the job at the head of the queue, if there is one, starts. -/
def State.startJob (s : State) : State :=
  match s.rcu, s.jobs with
  | .idle, j :: _ => s.jobStarted j
  | _, _ => s

/-! ## The transmit arbiter -/

/-- R162: some queue holds a frame. -/
def State.queued (s : State) : Bool := !s.forward.isEmpty || !s.urgent.isEmpty || !s.normal.isEmpty

/-- R162: the arbiter starts a frame: the line is free, transmit-hold is not asserted, a queue holds a
frame. -/
def State.mayStart (s : State) : Bool := s.line.isNone && !s.txHold && s.queued

/-- R162 choices 1 and 4: the head of the normal insert queue is started. -/
def State.startNormal (s : State) : State :=
  match s.normal with
  | o :: rest => { s with line := some o, normal := rest, waitCount := 0 }
  | [] => s

/-- R162 choice 3: the head of the forward queue is started. -/
def State.startForward (s : State) : State :=
  match s.forward with
  | f :: rest =>
    { s with line := some ⟨f, false⟩, forward := rest,
             waitCount := if s.normal.isEmpty then s.waitCount else s.waitCount + 1 }
  | [] => s.startNormal

/-- R162 choice 2: the head of the urgent insert queue is started. -/
def State.startUrgent (s : State) : State :=
  match s.urgent with
  | f :: rest => { s with line := some ⟨f, false⟩, urgent := rest }
  | [] => s.startForward

/-- R162: the arbiter's choice. -/
def State.startChosen (s : State) : State :=
  if s.waitCount = 4 ∧ s.normal.isEmpty = false then s.startNormal else s.startUrgent

/-- R162, R163: where the three conditions hold together, the arbiter starts the frame it chooses. -/
def State.startFrame (s : State) : State := if s.mayStart then s.startChosen else s

/-! ## The end of every event -/

/-- R70, R71, R162, R163: the starts that an event brought due are made as it ends, so that no other command
comes before them. The arbiter chooses among all the frames that the event offered (DEDUCED, log 29). -/
def State.withStarts (s : State) : State := s.startJob.startFrame

/-- How every meaning ends: the next state is what the command made, with the starts that it brought due. -/
def State.ends (s : State) : Host.Outcome State Fault Refusal := .next s.withStarts

/-- The meaning of a command that a frame carries: it takes the command from the hand-over and has its
effect, and what it brought due starts. -/
def State.acting (c : Instr) (f : State → State) (s : State) : Host.Outcome State Fault Refusal :=
  (f (s.took c)).ends

end Sys2Proof.Machine
end

