-- ==== Sys2Proof/Machine/Operands.lean ====
section
/-! DEFINITION. The records that requests carry: their range checks, which name the lowest failing field (R22, R40, R106,
R171, R174), the values they stand for, and the bytes a read returns (R172, R173, R180, R181). -/

namespace Sys2Proof.Machine

/-- `n` lies in `lo`-`hi`. -/
def within (lo hi n : Nat) : Bool := decide (lo ≤ n) && decide (n ≤ hi)

/-- The lowest number among the failed checks; none where every check holds. -/
def lowestFailing (checks : List (Nat × Bool)) : Option Nat :=
  match checks with
  | [] => none
  | (n, ok) :: rest => if ok then lowestFailing rest else some n

/-! ## Site settings (R171) and health limits (R22) -/

/-- R171: the ranges of the site settings. -/
def siteFault (r : SiteRecord) : Option Nat :=
  lowestFailing [(1, within 1 127 r.report), (2, within 5 50 r.refresh), (3, within 5 50 r.confirm)]

/-- R171: the site settings a record stands for. -/
def siteOf (r : SiteRecord) : Site := ⟨r.report, r.refresh, r.confirm⟩

/-- R181. -/
def Site.bytes (x : Site) : List Byte := SiteRecord.bytes ⟨x.report, x.refresh, x.confirm⟩

/-- R22: the ranges of the health limits; the field numbers are the order of R181. Where several fields fail, the
lowest is named, as R171 says of SITE WRITE; of HEALTH LIMITS WRITE no rule says it (DEDUCED, log 26). -/
def limitsFault (r : LimitsRecord) : Option Nat :=
  lowestFailing [(1, within 10 600 r.stuckOn), (2, within 2 15 r.chatter), (3, within 1 30 r.timeout),
    (4, within 100 3000 r.floor), (5, within 1 15 r.fail), (6, within 0 255 r.recovery),
    (7, within 1 20 r.hold)]

/-- R22: the health limits a record stands for. -/
def limitsOf (r : LimitsRecord) : Limits :=
  ⟨r.stuckOn, r.chatter, r.timeout, r.floor, r.fail, r.recovery, r.hold⟩

/-- R181. -/
def Limits.bytes (x : Limits) : List Byte :=
  LimitsRecord.bytes ⟨x.stuckOn, x.chatter, x.timeout, x.floor, x.fail, x.recovery, x.hold⟩

/-! ## Detector entries (R1, R181) -/

/-- R181: bit 0 of the flags marks the entry enabled. -/
def entryEnabled (r : EntryRecord) : Bool := r.flags.testBit 0

/-- R181: bit 1 of the flags marks the substitute present. -/
def entryHasSubstitute (r : EntryRecord) : Bool := r.flags.testBit 1

/-- R1: entry `i` offered as `r` is valid: disabled, or every field in its range and a present substitute
other than `i`. -/
def entryValid (i : Nat) (r : EntryRecord) : Bool :=
  !entryEnabled r ||
  (within 1 126 r.station && within 0 15 r.channel && (Role.ofCode r.role).isSome && within 0 3 r.ramp &&
   (!entryHasSubstitute r || (within 0 63 r.substitute && decide (r.substitute ≠ i))) && within 32 255 r.scale)

/-- R1: the configuration a valid enabled entry record stands for; none for a record that is marked disabled. -/
def entryConfig (r : EntryRecord) : Option DetectorConfig :=
  if entryEnabled r then
    some { station := r.station, channel := r.channel, role := (Role.ofCode r.role).getD .passage,
           ramp := Fin.ofNat 4 r.ramp, substitute := if entryHasSubstitute r then some r.substitute else none,
           scale := r.scale, drop := r.flags.testBit 2 }
  else none

/-- R172, R181 view 0: the entry as a DETECTOR WRITE would carry it. `free` stands for the substitute byte of
an entry whose substitute is absent, which the manual does not state (DESIGN CHOICE, log 7). -/
def configView (free : Byte) (d : Option Detector) : List Byte :=
  match d with
  | none => [u8 0, u8 0, u8 0, u8 0, u8 0, u8 0, u8 0]
  | some d =>
    let c := d.config
    [u8 (1 + bitValue c.substitute.isSome 2 + bitValue c.drop 4), u8 c.station, u8 c.channel,
     u8 c.role.code, u8 c.ramp.val,
     (match c.substitute with | some i => u8 i | none => free), u8 c.scale]

/-- R172, R181 view 1; six bytes of 0xFF for a disabled entry. -/
def healthView (d : Option Detector) : List Byte :=
  match d with
  | none => List.replicate 6 (u8 0xFF)
  | some d =>
    [u8 d.health.code, u8 d.symptomatic, u8 d.clean, u8 d.symptoms.code, u8 (usabilityCode d.usability),
     u8 (substituteUsedCode d.usability)]

/-- R177: a pair of measures, each 0xFFFF when absent. -/
def measureBytes (m : Option Measure) : List Byte :=
  match m with
  | none => u16 0xFFFF ++ u16 0xFFFF
  | some m => u16 m.flow ++ u16 m.occ

/-- R177, R181: held measures with their count, 0xFFFF, 0xFFFF and 0 when absent. -/
def heldBytes (h : Option Held) : List Byte :=
  match h with
  | none => u16 0xFFFF ++ u16 0xFFFF ++ [u8 0]
  | some h => u16 h.flow ++ u16 h.occ ++ [u8 h.count]

/-- R172, R181 view 2; thirteen bytes of 0xFF for a disabled entry. -/
def measuresView (d : Option Detector) : List Byte :=
  match d with
  | none => List.replicate 13 (u8 0xFF)
  | some d => measureBytes d.raw ++ measureBytes d.smoothed ++ heldBytes d.held

/-! ## Plans (R39, R40) -/

/-- R39, R40: the range checks of a plan record in field order, the cross checks counted against fields 2
and 3. -/
def planFault (r : PlanRecord) : Option Nat :=
  lowestFailing [(1, within 180 3600 r.rMin), (2, within r.rMin 5400 r.rMax), (3, within r.rMin r.rMax r.rInit),
    (4, within 500 4000 r.target), (5, within 0 255 r.gain), (6, within 0 9999 r.capacity),
    (7, within 0 5400 r.stepLimit), (8, within 0 10000 r.queueThreshold), (9, within 0 2000 r.queueBoost),
    (10, within 1000 10000 r.occCeiling), (11, within 1000 30000 r.flowCeiling), (12, within 1 16 r.weight),
    (13, within 5 50 r.green), (14, within 0 30 r.amber), (15, within 10 100 r.minRed),
    (16, within 0 20 r.grace), (17, within 1 2 r.size), (18, within 0 2 r.rounding),
    (19, within 0 1 r.gating), (20, within 0 2 r.leveling), (21, within 1 15 r.starvationLimit),
    (22, within 2 60 r.spillTime), (23, within 5 400 r.flushPeriod), (24, within 10 400 r.fallbackPeriod),
    (25, within 0 15 r.recoveryIntervals)]

/-- R39: the plan a checked record stands for. -/
def planOf (r : PlanRecord) : Plan :=
  { rMin := r.rMin, rMax := r.rMax, rInit := r.rInit, target := r.target, gain := r.gain,
    capacity := r.capacity, stepLimit := r.stepLimit, queueThreshold := r.queueThreshold,
    queueBoost := r.queueBoost, occCeiling := r.occCeiling, flowCeiling := r.flowCeiling,
    weight := r.weight, green := r.green, amber := r.amber, minRed := r.minRed, grace := r.grace,
    size := r.size, rounding := .ofCode r.rounding, gating := decide (r.gating = 1),
    leveling := .ofCode r.leveling, starvationLimit := r.starvationLimit, spillTime := r.spillTime,
    flushPeriod := r.flushPeriod, fallbackPeriod := r.fallbackPeriod,
    recoveryIntervals := r.recoveryIntervals, unmasked := .ofCode r.mask }

/-- R181: the record a read returns for a plan. -/
def Plan.record (p : Plan) : PlanRecord :=
  { rMin := p.rMin, rMax := p.rMax, rInit := p.rInit, target := p.target, gain := p.gain,
    capacity := p.capacity, stepLimit := p.stepLimit, queueThreshold := p.queueThreshold,
    queueBoost := p.queueBoost, occCeiling := p.occCeiling, flowCeiling := p.flowCeiling,
    weight := p.weight, green := p.green, amber := p.amber, minRed := p.minRed, grace := p.grace,
    size := p.size, rounding := p.rounding.code, gating := bitValue p.gating 1,
    leveling := p.leveling.code, starvationLimit := p.starvationLimit, spillTime := p.spillTime,
    flushPeriod := p.flushPeriod, fallbackPeriod := p.fallbackPeriod,
    recoveryIntervals := p.recoveryIntervals, mask := p.unmasked.code }

/-- The `i`-th place of a stack, 0 where it is unused (R173; in replies DEDUCED, log 8). -/
def stackPlace (stack : List Nat) (i : Nat) : Nat := stack.getD i 0

/-- R180: the stack as a reply carries it: count, then four entries, bottom first. -/
def stackBytes (stack : List Nat) : List Byte :=
  [u8 stack.length, u8 (stackPlace stack 0), u8 (stackPlace stack 1), u8 (stackPlace stack 2),
   u8 (stackPlace stack 3)]

/-! ## Ramp configuration (R105, R106) -/

/-- The lane sub-records of a configuration record, lane 0 first. -/
def laneRecords (r : ConfigRecord) : List LaneRecord := [r.lane0, r.lane1, r.lane2]

/-- R105: the sub-records of the used lanes. -/
def keptLanes (r : ConfigRecord) : List LaneRecord := (laneRecords r).take r.lanesUsed

/-- The head a lane sub-record names: driver address and output (R106). -/
def headPair (r : LaneRecord) : Nat × Nat := (r.driver, r.output)

/-- The heads that a present record names for its used lanes (R106, R145). -/
def RampConfig.heads (c : RampConfig) : List (Nat × Nat) := c.lanes.map (fun l => (l.driver, l.output))

/-- R106: the heads named by the present records of the ramps other than `k`. -/
def State.otherHeads (s : State) (k : Fin 4) : List (Nat × Nat) :=
  (allRamps.filter (fun j => j != k)).flatMap (fun j =>
    match (s.ramp j).config with
    | some c => c.heads
    | none => [])

/-- A detector reference is absent (0xFF) or an entry 0-63 (R105, R181). -/
def refOk (n : Nat) : Bool := decide (n = 0xFF) || within 0 63 n

/-- R105, R106: the checks of the kept sub-records from the lane whose driver field is `n` on. `taken` holds
the heads that this lane may not name: those of other ramps and of the earlier lanes of the record. -/
def laneChecks (own : Nat) (taken : List (Nat × Nat)) (n : Nat) (recs : List LaneRecord) : List (Nat × Bool) :=
  match recs with
  | [] => []
  | r :: rest =>
    [(n, within 1 126 r.driver && decide (r.driver ≠ own) && !taken.contains (headPair r)),
     (n + 1, within 0 3 r.output), (n + 2, refOk r.demand), (n + 3, within 0 1 r.sense),
     (n + 4, refOk r.passage), (n + 5, within 0 1 r.edge)] ++
    laneChecks own (headPair r :: taken) (n + 6) rest

/-- R106 check 3: the lowest failing field of a configuration record offered for ramp `k`. -/
def State.configFault (s : State) (k : Fin 4) (r : ConfigRecord) : Option Nat :=
  lowestFailing ([(1, within 1 3 r.lanesUsed), (2, within 10 120 r.interval), (3, within 0 1 r.offAspect),
    (4, within 0 2 r.holdMode), (5, within 10 100 r.headTimeout), (6, within 5 60 r.warning),
    (7, within 0 60 r.clear)] ++ laneChecks s.ownAddress (s.otherHeads k) 8 (keptLanes r))

/-- A detector reference, absent for 0xFF (R177). -/
def refOf (n : Nat) : Option Nat := if n = 0xFF then none else some n

/-- A detector reference as a byte (R177). -/
def refCode (r : Option Nat) : Nat := r.getD 0xFF

/-- R105: the kept sub-record a lane record stands for. -/
def laneConfigOf (r : LaneRecord) : LaneConfig :=
  { driver := r.driver, output := r.output, demand := refOf r.demand, inverted := decide (r.sense = 1),
    passage := refOf r.passage, departure := decide (r.edge = 1) }

/-- R105: the configuration a checked record stands for. -/
def configOf (r : ConfigRecord) : RampConfig :=
  { interval := r.interval, offGreen := decide (r.offAspect = 1), holdMode := .ofCode r.holdMode,
    headTimeout := r.headTimeout, warning := r.warning, clear := r.clear,
    lanes := (keptLanes r).map laneConfigOf }

/-- R105: a lane sub-record as a read returns it, zeros for a lane that is not kept. -/
def laneRecordOf (c : Option LaneConfig) : LaneRecord :=
  match c with
  | none => ⟨0, 0, 0, 0, 0, 0⟩
  | some l =>
    ⟨l.driver, l.output, refCode l.demand, bitValue l.inverted 1, refCode l.passage, bitValue l.departure 1⟩

/-- R105, R181: the record a read returns. -/
def RampConfig.record (c : RampConfig) : ConfigRecord :=
  { lanesUsed := c.lanes.length, interval := c.interval, offAspect := bitValue c.offGreen 1,
    holdMode := c.holdMode.code, headTimeout := c.headTimeout, warning := c.warning, clear := c.clear,
    lane0 := laneRecordOf c.lanes[0]?, lane1 := laneRecordOf c.lanes[1]?, lane2 := laneRecordOf c.lanes[2]? }

/-! ## Context records (R173, R174) -/

/-- The stack places of a context record. -/
def contextPlaces (r : ContextRecord) : List Nat := [r.stack0, r.stack1, r.stack2, r.stack3]

/-- R174: the stack a context record carries. -/
def contextStack (r : ContextRecord) : List Nat := (contextPlaces r).take r.stackCount

/-- Plan `p` is valid (R38). -/
def State.planValid (s : State) (p : Nat) : Bool := (s.plans.get p).isSome

/-- R174 check 4: the lowest failing field among the fields a load writes. -/
def State.contextFault (s : State) (r : ContextRecord) : Option Nat :=
  lowestFailing [(1, within 0 9999 r.rPrev || decide (r.rPrev = 0xFFFF)), (8, within 0 15 r.recovery),
    (9, within 1 4 r.stackCount), (10, (contextStack r).all s.planValid), (12, within 0 15 r.lifetime),
    (14, within 0 15 r.starvation0 && within 0 15 r.starvation1 && within 0 15 r.starvation2),
    (15, within 0 2 r.pointer)]

/-- R173 field 13: a lane's place in the wait order, 1-3, or 0. -/
def waitPlace (order : List (Fin 3)) (l : Fin 3) : Nat :=
  if order.contains l then order.idxOf l + 1 else 0

/-- R173: the context record of a ramp. `free` stands for the share reduction of a ramp whose share is
absent, which the manual does not state (DESIGN CHOICE, log 7). -/
def Ramp.context (r : Ramp) (free : Nat) : ContextRecord :=
  { rPrev := r.rPrev.getD 0xFFFF,
    stagedPeriod := (match r.clock.staged with | some x => x.period | none => 0),
    stagedMark := (match r.clock.staged with | some x => x.mark.code | none => 0),
    activePeriod := r.clock.active.getD 0,
    bits := bitValue r.clock.staged.isSome 1 +
      bitValue (if r.state = .dark then r.startFault.isSome else r.faultPending) 2,
    sticky := r.sticky.code, last := r.last.code, recovery := r.recovery,
    stackCount := r.stack.length, stack0 := stackPlace r.stack 0, stack1 := stackPlace r.stack 1,
    stack2 := stackPlace r.stack 2, stack3 := stackPlace r.stack 3,
    reduction := (match r.share with | some x => x.reduction | none => free),
    lifetime := (match r.share with | some x => x.lifetime | none => 0),
    wait0 := waitPlace r.waitOrder 0, wait1 := waitPlace r.waitOrder 1, wait2 := waitPlace r.waitOrder 2,
    starvation0 := (r.lane 0).starvation, starvation1 := (r.lane 1).starvation,
    starvation2 := (r.lane 2).starvation, pointer := r.pointer.val }

end Sys2Proof.Machine
end

