-- ==== Sys2Proof/Machine/Rate.lean ====
section
/-! DEFINITION. Rate computation (05_rate_computation.md): the steps of an INTERVAL job R75 to R84 and of a START job
R90, in signed integers of unlimited range (R74). -/

namespace Sys2Proof.Machine

/-- 00_scope.md 5.3: `num / den` rounded half away from zero. -/
def halfAway (num : Int) (den : Nat) : Int :=
  if 0 ≤ num then (halfUp num.natAbs den : Int) else -(halfUp num.natAbs den : Int)

/-- R72: the r_prev a job computes with: its snapshot's, or r_init where that is absent. -/
def Snapshot.prev (x : Snapshot) : Int := (x.rPrev.getD x.plan.rInit : Nat)

/-- An empty group or a value at most `limit`. -/
def atMost (limit : Nat) (v : Option Nat) : Bool :=
  match v with
  | none => true
  | some n => decide (n ≤ limit)

/-- R75: step 1 raises IMPL. -/
def implausible (p : Plan) (c : CloseRecord) : Bool := !(atMost p.occCeiling c.od && atMost p.flowCeiling c.qu)

/-- R76: step 2, r_fb. -/
def feedbackRate (x : Snapshot) (c : CloseRecord) : Int :=
  match c.od with
  | none => x.prev
  | some od => x.prev + halfAway ((x.plan.gain : Int) * ((x.plan.target : Int) - (od : Int))) 100

/-- R77: step 3, local. -/
def localRate (x : Snapshot) (c : CloseRecord) : Int :=
  if x.plan.capacity = 0 then feedbackRate x c
  else
    match c.qu with
    | none => feedbackRate x c
    | some qu => min (feedbackRate x c) (max 0 ((x.plan.capacity : Int) - (qu : Int)))

/-- R78: step 4, pre. -/
def coordinatedRate (x : Snapshot) (c : CloseRecord) : Int :=
  match x.share with
  | none => localRate x c
  | some reduction =>
    match c.qdem with
    | none => localRate x c
    | some q => min (localRate x c) (max 0 ((q : Int) - (reduction : Int)))

/-- R80: the queue override is in force. -/
def overrideInForce (p : Plan) (c : CloseRecord) : Bool :=
  c.spill ||
  (decide (p.queueThreshold ≠ 0) &&
    (match c.qocc with
     | none => false
     | some q => decide (p.queueThreshold ≤ q)))

/-- R80: step 5, pre after the override. -/
def overriddenRate (x : Snapshot) (c : CloseRecord) : Int :=
  if overrideInForce x.plan c then
    max (coordinatedRate x c) ((c.qdem.getD 0 : Nat) + (x.plan.queueBoost : Nat) : Int)
  else coordinatedRate x c

/-- R76 to R78, R80: a step that needs an empty group raises MISS. -/
def missing (x : Snapshot) (c : CloseRecord) : Bool :=
  c.od.isNone || (decide (x.plan.capacity ≠ 0) && c.qu.isNone) || (x.share.isSome && c.qdem.isNone) ||
  (decide (x.plan.queueThreshold ≠ 0) && c.qocc.isNone)

/-- R81: the step limit. -/
def stepLimited (p : Plan) (prev pre : Int) (inForce : Bool) : Int :=
  if p.stepLimit = 0 then pre
  else if (p.stepLimit : Int) < pre - prev then (if inForce then pre else prev + (p.stepLimit : Int))
  else if pre - prev < -(p.stepLimit : Int) then prev - (p.stepLimit : Int)
  else pre

/-- R82: the clamp to the plan's band. -/
def clampRate (p : Plan) (v : Int) : Nat :=
  if (p.rMax : Int) < v then p.rMax else if v < (p.rMin : Int) then p.rMin else v.toNat

/-- R82: the clamp raises HIGH. -/
def clampHigh (p : Plan) (v : Int) : Bool := decide ((p.rMax : Int) < v)

/-- R82: the clamp raises LOW. -/
def clampLow (p : Plan) (v : Int) : Bool := !clampHigh p v && decide (v < (p.rMin : Int))

/-- R83: the period of rate `r` by the plan's release size and rounding mode. -/
def convertRate (p : Plan) (r : Nat) : Nat :=
  match p.rounding with
  | .nearest => halfUp (36000 * p.size) r
  | .short => 36000 * p.size / r
  | .long => (36000 * p.size + r - 1) / r

/-- R83: the conversion raises ROUND. -/
def inexact (p : Plan) (r : Nat) : Bool := decide (36000 * p.size % r ≠ 0)

/-- R84: P_floor, with `n` lanes in service, 0 taken as 1. -/
def laneFloor (p : Plan) (n : Nat) : Nat :=
  max (p.green + p.amber) ((p.green + p.amber + p.minRed + max n 1 - 1) / max n 1)

/-- R83, R84: the period of rate `r`, raised to the lane floor. -/
def flooredPeriod (p : Plan) (n r : Nat) : Nat := max (convertRate p r) (laneFloor p n)

/-- R84: the floor raises HIGH. -/
def floorHigh (p : Plan) (n r : Nat) : Bool := decide (convertRate p r < laneFloor p n)

/-- What a job works out: its flag set, its rate and its period. -/
structure JobResult where
  flags : Flags
  rate : Nat
  period : Nat
  deriving DecidableEq, Repr

/-- R82 to R84: the clamp, the conversion and the lane floor of a value, with the flags they raise added to
MISS and IMPL. -/
def finishRate (p : Plan) (n : Nat) (v : Int) (miss impl : Bool) : JobResult :=
  let r := clampRate p v
  { flags := { miss := miss, impl := impl, high := clampHigh p v || floorHigh p n r, low := clampLow p v,
               round := inexact p r, stack := false },
    rate := r, period := flooredPeriod p n r }

/-- R75 to R84: an INTERVAL job. -/
def computeInterval (x : Snapshot) (c : CloseRecord) : JobResult :=
  if implausible x.plan c then
    finishRate x.plan x.lanes (stepLimited x.plan x.prev x.prev false) false true
  else
    finishRate x.plan x.lanes
      (stepLimited x.plan x.prev (overriddenRate x c) (overrideInForce x.plan c)) (missing x c) false

/-- R90: a START job from the carried rate, or r_init where none was carried. -/
def computeStart (x : Snapshot) (carried : Option Nat) : JobResult :=
  finishRate x.plan x.lanes ((carried.getD x.plan.rInit : Nat) : Int) false false

/-- R100: the period converted from r_init. -/
def resumePeriod (p : Plan) (n : Nat) : Nat := flooredPeriod p n p.rInit

end Sys2Proof.Machine
end

