-- ==== Sys2Proof/Machine/Release.lean ====
section
/-! DEFINITION. The Release Timing Unit (08_release_clock_and_lane_cycles.md): staging and flush, lane cycles, the
release arbiter and its pick, passage accounting, and fault pending with its withdrawal of a RETURN (R94). Each
operation acts on one ramp; those that read the active plan take it as an argument. -/

namespace Sys2Proof.Machine

/-! ## Clock -/

/-- The clock with `f` run on it. -/
def Ramp.updClock (r : Ramp) (f : Clock → Clock) : Ramp := { r with clock := f r.clock }

/-- R127: the clock at entry to CLEARING or DARK; the computed period is kept. -/
def Clock.stop (c : Clock) : Clock := { Clock.reset with computed := c.computed }

/-- R123: a period is staged with a mark, replacing any staged period. -/
def Ramp.stage (r : Ramp) (period : Nat) (mark : Mark) : Ramp :=
  r.updClock (fun c => { c with staged := some ⟨period, mark⟩ })

/-- R129: the flush filter turns a COMPUTED staging away. -/
def Clock.filtered (c : Clock) (period : Nat) : Bool :=
  match c.flush with
  | none => false
  | some f => decide (f < period)

/-- R123, R129: a COMPUTED staging, subject to the flush filter. -/
def Ramp.stageComputed (r : Ramp) (period : Nat) : Ramp :=
  if r.clock.filtered period then r else r.stage period .computed

/-- R122: a completion hands a period over; it is recorded as the computed period. -/
def Ramp.recordComputed (r : Ramp) (period : Nat) : Ramp :=
  r.updClock (fun c => { c with computed := some period })

/-- R124 step 1, R129: the period a swap makes active. -/
def Clock.limited (c : Clock) (period : Nat) : Nat :=
  match c.flush with
  | none => period
  | some f => if f < period then f else period

/-- R124 step 1: the swap. A RETURN-marked period moves the ramp from FALLBACK to METERING with the recovery
count 0 (R99). -/
def Ramp.swap (r : Ramp) : Ramp :=
  match r.clock.staged with
  | none => r
  | some x =>
    let r1 := r.updClock (fun c => { c with active := some (c.limited x.period), staged := none })
    if x.mark = .returning ∧ r.state = .fallback then { r1 with state := .metering, recovery := 0 } else r1

/-- R97, R129: entry to FALLBACK at a release due. -/
def Ramp.enterFallback (r : Ramp) (p : Plan) : Ramp :=
  { r with
    faultPending := false, recovery := 0, state := .fallback,
    clock := { r.clock with
      active := some p.fallbackPeriod,
      staged := (match r.clock.flush with
        | none => none
        | some f => if f < p.fallbackPeriod then some ⟨f, .flush⟩ else none) } }

/-- R96: a pending fault is taken by a ramp that is METERING. -/
def Ramp.takesFault (r : Ramp) : Bool := decide (r.state = .metering) && r.faultPending

/-- R96: the fault check of a release due. -/
def Ramp.faultCheck (r : Ramp) (p : Plan) : Ramp := if r.takesFault then r.enterFallback p else r

/-- R94: fault pending is set; in FALLBACK, or SUSPENDED entered from FALLBACK, the recovery count becomes 0
and a staged RETURN period is withdrawn. -/
def Ramp.setFaultPending (r : Ramp) : Ramp :=
  let r1 := { r with faultPending := true }
  if r.state.fallbackOrHeld then
    { r1 with
      recovery := 0,
      clock := { r1.clock with
        staged := (match r1.clock.staged with
          | none => none
          | some x => if x.mark = .returning then none else some x) } }
  else r1

/-- R128: an assertion of spill takes a flush, if the ramp meters or is held from metering, the clock holds an
active period and the plan's flush period is shorter. -/
def Ramp.flushStart (r : Ramp) (p : Plan) : Ramp :=
  match r.clock.active with
  | none => r
  | some a =>
    if r.state.metersOrHeld && decide (p.flushPeriod < a) then
      let keep := match r.clock.staged with
        | none => false
        | some x => match x.mark with
          | .returning => true
          | .computed => decide (x.period ≤ p.flushPeriod)
          | .flush => false
      r.updClock (fun c => { c with
        flush := some p.flushPeriod,
        staged := if keep then c.staged else some ⟨p.flushPeriod, .flush⟩ })
    else r

/-- A RETURN period is staged. -/
def Clock.returnStaged (c : Clock) : Bool :=
  match c.staged with
  | none => false
  | some x => decide (x.mark = .returning)

/-- R130: a clearing of spill ends a flush. -/
def Ramp.flushEnd (r : Ramp) (p : Plan) : Ramp :=
  match r.clock.flush with
  | none => r
  | some _ =>
    let r1 := r.updClock (fun c => { c with flush := none })
    if r.state.fallbackOrHeld then
      (if r.clock.returnStaged then r1 else r1.stage p.fallbackPeriod .computed)
    else if r.state.metersOrHeld then
      (match r.clock.computed with
       | none => r1
       | some c => r1.stage c .computed)
    else r1

/-! ## Lane cycles -/

/-- The lane holds GREEN or AMBER. -/
def LaneCycle.busy (c : LaneCycle) : Bool :=
  match c with
  | .green _ => true
  | .amber _ => true
  | _ => false

/-- The cycle state without its state time: what R146 sees. -/
def LaneCycle.kind (c : LaneCycle) : Nat :=
  match c with
  | .off => 0
  | .red _ => 1
  | .ready => 2
  | .green _ => 3
  | .amber _ => 4

/-- R136: rotation order, the used lanes in index order from the lane after the pointer. -/
def Ramp.rotation (r : Ramp) : List (Fin 3) :=
  [r.pointer + 1, r.pointer + 2, r.pointer].filter r.used

/-- R135: lane `l` leaves the wait order. -/
def Ramp.leaveWait (r : Ramp) (l : Fin 3) : Ramp :=
  { r with waitOrder := r.waitOrder.filter (fun x => x != l) }

/-- R135: lane `l` joins the tail of the wait order. -/
def Ramp.joinWait (r : Ramp) (l : Fin 3) : Ramp :=
  if r.waitOrder.contains l then r else { r with waitOrder := r.waitOrder ++ [l] }

/-- R141: the lane's closure lands, on a lane that goes OFF. -/
def Lane.landed (x : Lane) : Lane :=
  if x.closePending then { x with isOpen := false, closePending := false, starvation := 0 } else x

/-- R133, R141, R143: lane `l` enters OFF; its state time and grace time are discarded, it leaves the wait
order and a pending closure lands. -/
def Ramp.laneOff (r : Ramp) (l : Fin 3) : Ramp :=
  (r.updLane l (fun x => { x with cycle := .off, grace := none }.landed)).leaveWait l

/-- Every lane enters OFF (R133). -/
def Ramp.lanesOff (r : Ramp) : Ramp := allLanes.foldl Ramp.laneOff r

/-- The held amber; a lane that holds no timings has none. -/
def Lane.heldAmber (x : Lane) : Nat :=
  match x.timings with
  | some t => t.amber
  | none => 0

/-- R132: the grace time starts at the held passage grace; a grace of 0 leaves it absent. -/
def Lane.graceStart (x : Lane) : Option Nat :=
  match x.timings with
  | some t => if t.grace = 0 then none else some t.grace
  | none => none

/-- R132: the lane enters RED from GREEN or AMBER with its held minimum red, and its grace time starts. -/
def Lane.toRed (x : Lane) : Lane :=
  { x with cycle := .red (x.minRed.getD 0), grace := x.graceStart }

/-- R132, R140: the end of the lane's stay in GREEN and AMBER: RED, or, where a closure is pending, OFF with
the closure landed. -/
def Ramp.endWindow (r : Ramp) (l : Fin 3) : Ramp :=
  if (r.lane l).closePending then r.laneOff l else r.updLane l Lane.toRed

/-- R132, R133: the end of GREEN: AMBER with the held A, or the end of the window where A is 0. -/
def Ramp.endGreen (r : Ramp) (l : Fin 3) : Ramp :=
  if (r.lane l).heldAmber = 0 then r.endWindow l
  else r.updLane l (fun x => { x with cycle := .amber x.heldAmber })

/-- R133, R142, R126: the lane enters RED from OFF with the plan's minimum red, and no grace time. -/
def Lane.redFromOff (p : Plan) (x : Lane) : Lane :=
  { x with cycle := .red p.minRed, minRed := some p.minRed, grace := none }

/-- R132, R135: the lane enters READY; with demand present it joins the wait order. -/
def Ramp.enterReady (r : Ramp) (l : Fin 3) : Ramp :=
  let r1 := r.updLane l (fun x => { x with cycle := .ready })
  if (r.lane l).demand then r1.joinWait l else r1

/-- R132: the lane enters GREEN and takes its timings from the plan. -/
def Lane.enterGreen (p : Plan) (x : Lane) : Lane :=
  { x with cycle := .green p.green, timings := some ⟨p.green, p.amber, p.grace, p.size⟩,
           minRed := some p.minRed, grace := none, window := 0, greens := saturate 255 (x.greens + 1) }

/-- R18, R135: a demand state is delivered for lane `l`. -/
def Ramp.deliverDemand (r : Ramp) (l : Fin 3) (present : Bool) : Ramp :=
  let r1 := r.updLane l (fun x => { x with demand := present })
  if present then (if (r.lane l).cycle = .ready then r1.joinWait l else r1) else r1.leaveWait l

/-! ## The arbiter -/

/-- R134: lane `l` is eligible under demand gating `gating`. -/
def Ramp.eligible (r : Ramp) (gating : Bool) (l : Fin 3) : Bool :=
  r.laneInService l && decide ((r.lane l).cycle = .ready) &&
  allLanes.all (fun j => j == l || !(r.lane j).cycle.busy) && ((r.lane l).demand || !gating)

/-- R137, mode WAIT: the first eligible lane in the wait order, else in rotation order. -/
def Ramp.chooseWaiting (r : Ramp) (gating : Bool) : Option (Fin 3) :=
  match r.waitOrder.find? (r.eligible gating) with
  | some l => some l
  | none => r.rotation.find? (r.eligible gating)

/-- R137: the lane chosen among the eligible lanes, none where no lane is eligible. -/
def Ramp.choose (r : Ramp) (p : Plan) : Option (Fin 3) :=
  match p.leveling with
  | .rotate => r.rotation.find? (r.eligible p.gating)
  | .wait => r.chooseWaiting p.gating
  | .waitGuard =>
    match r.rotation.find? (fun l => r.eligible p.gating l && decide (p.starvationLimit ≤ (r.lane l).starvation)) with
    | some l => some l
    | none => r.chooseWaiting p.gating

/-- R136: a lane's starvation count after a pick that chose `l`. -/
def Ramp.countedLane (r : Ramp) (p : Plan) (l j : Fin 3) : Lane :=
  let x := r.lane j
  if j = l then { x.enterGreen p with starvation := 0 }
  else if r.eligible p.gating j then { x with starvation := saturate 15 (x.starvation + 1) }
  else x

/-- R136: the pick gives lane `l` its green, and the clock reloads its active period. -/
def Ramp.give (r : Ramp) (p : Plan) (l : Fin 3) (active : Nat) : Ramp :=
  let r1 := { r with lanes := Three.tabulate (r.countedLane p l), pointer := l,
                     clock := { r.clock with state := .running active } }
  r1.leaveWait l

/-- The clock waits at DUE with an active period, not frozen, in a ramp that meters. -/
def Ramp.waitsAtDue (r : Ramp) : Bool :=
  decide (r.clock.state = .due) && !r.clock.frozen && r.clock.active.isSome && r.state.meters

/-- R125, R136: the pick, at a release due or made again while the clock waits at DUE. -/
def Ramp.pick (r : Ramp) (p : Plan) : Ramp :=
  if r.waitsAtDue then
    match r.choose p with
    | none => r
    | some l => r.give p l (r.clock.active.getD 0)
  else r

/-! ## Passage accounting -/

/-- R138: an event on the lane's window counts as served. -/
def Lane.windowOpen (x : Lane) : Bool :=
  match x.cycle with
  | .green _ => true
  | .amber _ => true
  | .red _ => x.grace.isSome
  | _ => false

/-- R138: an event on the lane counts as a violation. -/
def Lane.violated (x : Lane) : Bool :=
  match x.cycle with
  | .red _ => x.grace.isNone
  | .ready => true
  | _ => false

/-- The release size held at the lane's last GREEN entry. -/
def Lane.heldSize (x : Lane) : Nat :=
  match x.timings with
  | some t => t.size
  | none => 0

/-- R138: one passage event. -/
def Lane.passageEvent (x : Lane) : Lane :=
  if x.windowOpen then
    let w := saturate 255 (x.window + 1)
    { x with served := saturate 255 (x.served + 1), window := w,
             extra := if x.heldSize < w then saturate 255 (x.extra + 1) else x.extra }
  else if x.violated then { x with violations := saturate 255 (x.violations + 1) }
  else x

/-- R138: a passage arrival of `n` events. -/
def Lane.passages (n : Nat) (x : Lane) : Lane :=
  match n with
  | 0 => x
  | m + 1 => (x.passageEvent).passages m

/-- R139: the lane's four interval counts are 0. -/
def Lane.clearCounts (x : Lane) : Lane := { x with greens := 0, served := 0, violations := 0, extra := 0 }

/-- R139: every lane's interval counts are 0. -/
def Ramp.clearCounts (r : Ramp) : Ramp := { r with lanes := Three.tabulate (fun l => (r.lane l).clearCounts) }

end Sys2Proof.Machine
end

