-- ==== Sys2Proof/Machine/RampStates.lean ====
section
/-! DEFINITION. Changes of a ramp's state that several commands share: the start of metering and the coming due of the
clock (R110, R124, R126), SUSPENDED (R116, R117), CLEARING and DARK (R111 to R113), each with its RAMP
notices (R120). -/

namespace Sys2Proof.Machine

/-- A RAMP notice with cause `cause`, if ramp `k` changed its state since `before`. -/
def State.rampChanged (k : Fin 4) (before : RampState) (cause : RampCause) (s : State) : State :=
  if (s.ramp k).state = before then s else s.offerRamp k before cause

/-- `f` run on ramp `k` with its active plan. A ramp that meters has a valid one (R42); where a plan is
invalid nothing is done (DESIGN CHOICE, log 14). -/
def State.withPlan (k : Fin 4) (f : Plan → Ramp → Ramp) (s : State) : State :=
  match s.topPlan k with
  | none => s
  | some p => s.updRamp k (f p)

/-- R125: the pick is made again where the clock waits at DUE. -/
def State.rerunPick (k : Fin 4) (s : State) : State := s.withPlan k (fun p r => r.pick p)

/-- R124, R126: the clock comes to DUE: swap, fault check, pick, each change of state with its notice. -/
def State.comeDue (k : Fin 4) (s : State) : State :=
  let s1 := s.updRamp k (fun r =>
    (r.updClock (fun c => { c with state := .due, frozen := false, awaiting := false })).swap)
  let s2 := s1.rampChanged k (s.ramp k).state .returned
  let s3 := s2.withPlan k (fun p r => r.faultCheck p)
  let s4 := s3.rampChanged k (s2.ramp k).state .fault
  s4.rerunPick k

/-- R126, R133: each open, enabled used lane enters RED from OFF with the plan's minimum red. -/
def Ramp.lanesToRed (r : Ramp) (p : Plan) : Ramp :=
  { r with lanes := Three.tabulate (fun l => if r.laneInService l then (r.lane l).redFromOff p else r.lane l) }

/-- R126: the ramp begins to meter: the lanes enter RED and the clock comes to DUE, or awaits its first
period where none is staged. -/
def State.beginMetering (k : Fin 4) (s : State) : State :=
  let s1 := s.withPlan k (fun p r => r.lanesToRed p)
  if (s1.ramp k).clock.staged.isSome then s1.comeDue k
  else s1.updRamp k (fun r => r.updClock (fun c => { c with awaiting := true }))

/-- R116, R127, R133: the ramp enters SUSPENDED from STARTING, METERING or FALLBACK. -/
def Ramp.enterSuspended (r : Ramp) : Ramp :=
  let held (h : HeldFrom) :=
    let r1 := allLanes.foldl (fun r l =>
      match (r.lane l).cycle with
      | .green _ => r.endGreen l
      | _ => r) r
    { r1 with state := .suspended h,
              clock := { r1.clock with frozen := decide (r1.clock.state ≠ .stopped) } }
  match r.state with
  | .starting => { r with state := .suspended .starting, warningTimer := none }
  | .metering => held .metering
  | .fallback => held .fallback
  | _ => r

/-- R112, R127, R133, R139, R153: what entry to DARK does to the ramp itself. -/
def Ramp.toDark (r : Ramp) : Ramp :=
  let r1 := (r.lanesOff).clearCounts
  { r1 with
    state := .dark, warningTimer := none, clearTimer := none, requestHold := false, inputHold := false,
    share := none, intervalTimer := none, overrun := false, spill := false, faultPending := false,
    recovery := 0, clock := r1.clock.stop, waitOrder := [],
    heads := Three.tabulate (fun l => (r1.head l).map (fun h => { h with silence := none })) }

/-- R112, R15: ramp `k` enters DARK. -/
def State.enterDark (k : Fin 4) (s : State) : State := (s.updRamp k Ramp.toDark).clearAccumulators k

/-- R113, R141: a ramp that is not DARK goes DARK where no used lane is left open and not disabled. -/
def State.noLaneTest (k : Fin 4) (s : State) : State :=
  if (s.ramp k).state ≠ .dark ∧ (s.ramp k).inService = false then s.enterDark k else s

/-- The NO_LANE test with its RAMP notice, for events that offer no HEAD notice. -/
def State.noLane (k : Fin 4) (s : State) : State :=
  (s.noLaneTest k).rampChanged k (s.ramp k).state .noLane

/-- R141: the NO_LANE test where a closure landed on ramp `k` since `s0`. -/
def State.landed (k : Fin 4) (s0 s : State) : State :=
  if allLanes.any (fun l => ((s0.ramp k).lane l).isOpen && !((s.ramp k).lane l).isOpen) then s.noLane k else s

/-- R111, R127, R133: what entry to CLEARING by STOP does to the ramp itself, but for the clear timer. -/
def Ramp.toClearing (r : Ramp) : Ramp :=
  let r1 := r.lanesOff
  { r1 with
    state := .clearing, warningTimer := none, requestHold := false, inputHold := false, share := none,
    carriedRate := none, intervalTimer := none, faultPending := false, recovery := 0,
    clock := r1.clock.stop, waitOrder := [] }

/-- R116: a hold source of ramp `k` has become set; a ramp that is not SUSPENDED yet enters it. Where the end of a green
lands a closure (held A 0, R140) and no lane is left in service, the ramp is SUSPENDED, with the HOLD notice, before the
NO_LANE test takes it to DARK: that order is DEDUCED, log 31. -/
def State.holdSet (k : Fin 4) (s : State) : State :=
  State.landed k s ((s.updRamp k Ramp.enterSuspended).rampChanged k (s.ramp k).state .hold)

/-- R117: the ramp leaves SUSPENDED once both hold sources are clear. -/
def State.holdEnded (k : Fin 4) (s : State) : State :=
  let r := s.ramp k
  if r.requestHold || r.inputHold then s
  else
    let back (st : RampState) :=
      (s.updRamp k (fun r =>
        { r with state := st, clock := { r.clock with frozen := false } })).rampChanged k r.state .holdEnd
    match r.state with
    | .suspended .starting => (back .metering).beginMetering k
    | .suspended .metering =>
      if r.clock.awaiting && r.clock.staged.isSome then (back .metering).comeDue k
      else (back .metering).rerunPick k
    | .suspended .fallback => (back .fallback).rerunPick k
    | _ => s

/-- R115: the configuration's hold input mode, none while the record is absent. -/
def Ramp.holdMode (r : Ramp) : Option HoldMode := r.config.map (fun c => c.holdMode)

end Sys2Proof.Machine
end

