-- ==== Sys2Proof/Machine/Heads.lean ====
section
/-! DEFINITION. The Head Link Controller (09_signal_heads.md): target aspects (R146, R107), head command offers at the
end of each event (R147), record set-up and invalidation (R145, R149), lane disable (R154, R143) and HEAD
notices (R155). -/

namespace Sys2Proof.Machine

/-- R107, R146: the aspect lane `l`'s head must show. -/
def Ramp.target (r : Ramp) (l : Fin 3) : Aspect :=
  if (r.lane l).isOpen && !r.disabled l then
    match r.state with
    | .dark =>
      (match r.config with
       | some c => if c.offGreen then .green else .dark
       | none => .dark)
    | .starting => .flash
    | .metering | .fallback =>
      (match (r.lane l).cycle with
       | .red _ => .red
       | .ready => .red
       | .green _ => .green
       | .amber _ => .amber
       | .off => .dark)
    | .suspended _ =>
      (match (r.lane l).cycle with
       | .amber _ => .amber
       | _ => .red)
    | .clearing => .green
  else .dark

/-- R146: what the target of lane `l`'s head is decided from. -/
def Ramp.headKey (r : Ramp) (l : Fin 3) : RampState × Nat × Bool × Bool :=
  (r.state, (r.lane l).cycle.kind, (r.lane l).isOpen, r.disabled l)

/-- R147, R179: the HEAD COMMAND frame of a head. -/
def State.headFrame (s : State) (c : LaneConfig) (a : Aspect) : Frame :=
  mkFrame c.driver s.ownAddress Config.kindHeadCommand 0 [u8 c.output, u8 a.code, u8 (2 * s.site.refresh)]

/-- R147: the head record once the queue has taken a frame with aspect `a`. -/
def Head.queued (site : Site) (a : Aspect) (h : Head) : Head :=
  { h with sent := some a, refresh := site.refresh,
           confirm := if h.sent = some a then h.confirm else some site.confirm }

/-- R147: a head command with the target aspect is offered for the head of lane `l` of ramp `k`. -/
def State.offerHead (k : Fin 4) (l : Fin 3) (s : State) : State :=
  let r := s.ramp k
  match r.head l, r.laneConfig l with
  | some _, some c =>
    let s1 := s.offerUrgent (s.headFrame c (r.target l))
    if s.urgentRoom then s1.updRamp k (fun r => r.updHead l (Head.queued s.site (r.target l))) else s1
  | _, _ => s

/-- Every head in the order of R146: ascending ramp, then ascending lane. -/
def allHeads : List (Fin 4 × Fin 3) := allRamps.flatMap (fun k => allLanes.map (fun l => (k, l)))

/-- R147: the event that led from `s0` offers this head a command: its record became not valid in the event
(`fresh`), or its target was decided in it and differs from the aspect last sent, or its record is not
valid. -/
def headDue (s0 : State) (fresh : List (Fin 4 × Fin 3)) (s : State) (x : Fin 4 × Fin 3) : Bool :=
  match (s.ramp x.1).head x.2 with
  | none => false
  | some h =>
    (fresh.contains x || decide ((s0.ramp x.1).headKey x.2 ≠ (s.ramp x.1).headKey x.2)) &&
    decide (h.sent ≠ some ((s.ramp x.1).target x.2))

/-- R146, R147: at the end of an event that led from `s0`, each head whose target was decided is offered the
target standing now, in the order of R146 (DEDUCED, log 9). -/
def State.settleHeads (s0 : State) (fresh : List (Fin 4 × Fin 3)) (s : State) : State :=
  allHeads.foldl (fun s x => if headDue s0 fresh s x then s.offerHead x.1 x.2 else s) s

/-- R149: the record becomes not valid and its confirm timer stops. -/
def Head.invalid (h : Head) : Head := { h with sent := none, confirm := none }

/-- R149: every used head's record becomes not valid. -/
def Ramp.invalidateHeads (r : Ramp) : Ramp :=
  { r with heads := Three.tabulate (fun l => (r.head l).map Head.invalid) }

/-- R145, R156: the record of a used head as it comes into being. -/
def Head.fresh (site : Site) : Head :=
  { sent := none, refresh := site.refresh, confirm := none, silence := none, lamps := .none, disabled := none }

/-- R145: the head records of a ramp under its configuration. -/
def Ramp.freshHeads (r : Ramp) (site : Site) : Ramp :=
  { r with heads := Three.tabulate (fun l => if r.used l then some (.fresh site) else none) }

/-- R143: a lane that its disable takes OFF: it leaves the wait order, a pending closure lands, and its
starvation count becomes 0; a lane already OFF stays as it is. -/
def Ramp.laneDisabled (r : Ramp) (l : Fin 3) : Ramp :=
  if (r.lane l).cycle = .off then r else (r.laneOff l).updLane l (fun x => { x with starvation := 0 })

/-- R154 steps 1 and 2, R143: lane `l` of ramp `k`, if it is not disabled, is disabled with a cause and taken
OFF; then the NO_LANE test is made. -/
def State.disableLane (k : Fin 4) (l : Fin 3) (cause : DisableCause) (s : State) : State :=
  if (s.ramp k).disabled l || ((s.ramp k).head l).isNone then s
  else
    (s.updRamp k (fun r =>
      (r.updHead l (fun h => { h with disabled := some cause })).laneDisabled l)).noLaneTest k

/-- R155, R183: a HEAD notice of lane `l` of ramp `k`, from its record as it stands. -/
def State.offerHeadNotice (k : Fin 4) (l : Fin 3) (cause : Nat) (reported : Option Aspect) (s : State) : State :=
  let r := s.ramp k
  match r.head l, r.laneConfig l with
  | some h, some c =>
    s.offerNotice [u8 3, u8 k.val, u8 l.val, u8 c.driver, u8 c.output, u8 cause, u8 h.lamps.code,
      u8 (aspectCode h.sent), u8 (aspectCode reported)]
  | _, _ => s

/-- The cause of a disable that the event leading from `s0` made on this head. -/
def disabledSince (s0 s : State) (x : Fin 4 × Fin 3) : Option DisableCause :=
  if (s0.ramp x.1).disabled x.2 then none
  else
    match (s.ramp x.1).head x.2 with
    | none => none
    | some h => h.disabled

/-- R154 step 4: a HEAD notice for each lane the event disabled, in the order of R146. -/
def State.disableNotices (s0 : State) (s : State) : State :=
  allHeads.foldl (fun s x =>
    match disabledSince s0 s x with
    | some cause => s.offerHeadNotice x.1 x.2 cause.code none
    | none => s) s

/-- R125: a waiting pick of each ramp is made again where a lane left GREEN or AMBER since `s0`. -/
def State.rerunFreed (s0 : State) (s : State) : State :=
  allRamps.foldl (fun s k =>
    if allLanes.any (fun l => ((s0.ramp k).lane l).cycle.busy && !((s.ramp k).lane l).cycle.busy)
    then s.rerunPick k else s) s

/-- R113: a RAMP notice for each ramp that went DARK since `s0`, after the event's HEAD notices; HEAD_RED for
the ramps of `red`, NO_LANE for the others. -/
def State.darkNotices (s0 : State) (red : List (Fin 4)) (s : State) : State :=
  allRamps.foldl (fun s k =>
    s.rampChanged k (s0.ramp k).state (if red.contains k then .headRed else .noLane)) s

end Sys2Proof.Machine
end

