-- ==== Sys2Proof/Machine/Triggers.lean ====
section
/-! DEFINITION. Scan Intake (01_detector_channels_and_scan_intake.md): screening and matching of channel records (R11,
R12), accumulation, runs and symptoms (R13, R14, R16), and the triggers (R17 to R20) with what the Release
Timing Unit does on their delivery. -/

namespace Sys2Proof.Machine

/-! ## Channel records -/

/-- R11: the record's values let it be used. -/
def scanRecordOk (r : ScanRecord) : Bool :=
  decide (r.presence ≤ 1) && decide (r.arrivals ≤ 15) && decide (r.channel ≤ 15)

/-- R11: the records that survive screening; `seen` holds the channels of the earlier records. -/
def screenScan (seen : List Nat) (records : List ScanRecord) : List ScanRecord :=
  match records with
  | [] => []
  | r :: rest =>
    if scanRecordOk r && !seen.contains r.channel then r :: screenScan (r.channel :: seen) rest
    else screenScan (r.channel :: seen) rest

/-- R11: the on-time clamped to the span. -/
def clampedOnTime (span : Nat) (r : ScanRecord) : Nat := min r.onTime span

/-- R12: the screened record that matches an entry, if any. -/
def matchRecord (src : Nat) (screened : List ScanRecord) (d : Detector) : Option ScanRecord :=
  if d.config.station = src then screened.find? (fun r => r.channel == d.config.channel) else none

/-- R13: a record is added to the interval accumulators. -/
def Detector.accumulate (span : Nat) (r : ScanRecord) (d : Detector) : Detector :=
  { d with arrivals := saturate 65535 (d.arrivals + r.arrivals),
           onTime := saturate 655350 (d.onTime + clampedOnTime span r),
           span := saturate 655350 (d.span + span) }

/-- R14: presence now, the runs and previous presence. -/
def Detector.runs (span : Nat) (r : ScanRecord) (d : Detector) : Detector :=
  let t := clampedOnTime span r
  { d with
    presence := decide (r.presence = 1), previous := decide (r.presence = 1),
    presenceRun := if r.presence = 1 then
        (if t = span then saturate 3600000 (d.presenceRun + span) else saturate 3600000 t) else 0,
    absenceRun := if r.presence = 1 then 0
      else (if t = 0 then saturate 3600000 (d.absenceRun + span) else saturate 3600000 (span - t)) }

/-- R16: the chatter and stuck-on symptoms, the run as R14 updated it. -/
def Detector.scanSymptoms (lim : Limits) (r : ScanRecord) (d : Detector) : Detector :=
  { d with symptoms := { d.symptoms with
      chatter := d.symptoms.chatter || decide (lim.chatter ≤ r.arrivals),
      stuckOn := d.symptoms.stuckOn || decide (lim.stuckOn * 1000 ≤ d.presenceRun) } }

/-- R12, R15: a matched entry's own processing; `dark` says that its ramp is DARK. -/
def Detector.scanned (lim : Limits) (dark : Bool) (span : Nat) (r : ScanRecord) (d : Detector) : Detector :=
  if dark then d.runs span r else ((d.accumulate span r).runs span r).scanSymptoms lim r

/-! ## Trigger sources (R17) -/

/-- The entry can stand as a source: health GOOD or SUSPECT and its station LIVE. -/
def State.sound (s : State) (d : Detector) : Bool := d.health.serves && s.stationLive d.config.station

/-- R17: the entry that is the source for ramp `k` of a reference to entry `i` that needs role `role`. -/
def State.source (s : State) (k : Fin 4) (role : Role) (i : Nat) : Option Nat :=
  match s.detector i with
  | none => none
  | some d =>
    if d.config.ramp ≠ k ∨ d.config.role ≠ role then none
    else if s.sound d then some i
    else
      match d.config.substitute with
      | none => none
      | some j =>
        match s.detector j with
        | none => none
        | some e => if e.config.ramp = k ∧ s.sound e then some j else none

/-- The entry of a reference's source. -/
def State.sourceEntry (s : State) (k : Fin 4) (role : Role) (i : Nat) : Option Detector :=
  match s.source k role i with
  | none => none
  | some j => s.detector j

/-- R17: the event touches the named entry or its substitute. -/
def State.concerns (s : State) (touched : Nat → Bool) (i : Nat) : Bool :=
  touched i ||
  (match s.detector i with
   | none => false
   | some d =>
     match d.config.substitute with
     | none => false
     | some j => touched j)

/-! ## Demand (R18) -/

/-- R18: the demand state a used lane's derivation gives. -/
def State.demandNow (s : State) (k : Fin 4) (c : LaneConfig) : Bool :=
  match c.demand with
  | none => true
  | some i =>
    match s.sourceEntry k .demand i with
    | none => true
    | some d => d.presence != c.inverted

/-- R18: lane `l` of ramp `k` has its demand derived; a value other than the last one delivered is
delivered. -/
def State.deriveDemand (k : Fin 4) (l : Fin 3) (s : State) : State :=
  match (s.ramp k).laneConfig l with
  | none => s
  | some c =>
    if s.demandNow k c = ((s.ramp k).lane l).demand then s
    else s.updRamp k (fun r => r.deliverDemand l (s.demandNow k c))

/-- The event concerns the demand reference of lane `l` of ramp `k`. -/
def State.demandConcerned (s : State) (touched : Nat → Bool) (k : Fin 4) (l : Fin 3) : Bool :=
  match (s.ramp k).laneConfig l with
  | none => false
  | some c =>
    match c.demand with
    | none => false
    | some i => s.concerns touched i

/-- R18, R135: the demand of each concerned lane of ramp `k`, in rotation order. -/
def State.deriveDemands (touched : Nat → Bool) (k : Fin 4) (s : State) : State :=
  (s.ramp k).rotation.foldl (fun s l => if s.demandConcerned touched k l then s.deriveDemand k l else s) s

/-- R18: every used lane of ramp `k` has its demand derived and delivered. -/
def State.deriveAllDemands (k : Fin 4) (s : State) : State :=
  (s.ramp k).rotation.foldl (fun s l => s.deriveDemand k l) s

/-! ## Passages (R19) -/

/-- R19: the event count of a source's record under a passage edge. -/
def passageCount (departure : Bool) (source : Detector) (r : ScanRecord) : Nat :=
  if departure then r.arrivals + bitValue source.previous 1 - r.presence else r.arrivals

/-- R19: the passage events of one lane at a scan frame, the entries as they stood before it. -/
def State.lanePassages (s : State) (src : Nat) (screened : List ScanRecord) (k : Fin 4) (l : Fin 3) : Nat :=
  match (s.ramp k).laneConfig l with
  | none => 0
  | some c =>
    match c.passage with
    | none => 0
    | some i =>
      match s.sourceEntry k .passage i with
      | none => 0
      | some d =>
        match matchRecord src screened d with
        | none => 0
        | some r => passageCount c.departure d r

/-- R19, R138: the passage arrivals of a ramp that is not DARK are delivered. -/
def State.deliverPassages (src : Nat) (screened : List ScanRecord) (k : Fin 4) (s : State) : State :=
  if (s.ramp k).state = .dark then s
  else s.updRamp k (fun r =>
    { r with lanes := Three.tabulate (fun l => (r.lane l).passages (s.lanePassages src screened k l)) })

/-! ## Spill (R20) -/

/-- The enabled SPILL entries of ramp `k`, in ascending index. -/
def State.spillEntries (s : State) (k : Fin 4) : List Nat :=
  (s.detectors.rows.filter (fun p => decide (p.2.config.ramp = k) && decide (p.2.config.role = .spill))).map
    (fun p => p.1)

/-- R20: the sources of the ramp's SPILL entries. -/
def State.spillSources (s : State) (k : Fin 4) : List Detector :=
  (s.spillEntries k).filterMap (fun i => s.sourceEntry k .spill i)

/-- R20: the spill condition an evaluation with spill time `ms` gives. -/
def State.spillNow (s : State) (k : Fin 4) (ms : Nat) : Bool :=
  if (s.ramp k).spill then !(s.spillSources k).all (fun d => decide (ms ≤ d.absenceRun))
  else (s.spillSources k).any (fun d => decide (ms ≤ d.presenceRun))

/-- R20, R128, R130: spill of ramp `k` is evaluated, and a change is delivered to the Release Timing Unit.
While the ramp is DARK spill is not evaluated. -/
def State.evaluateSpill (k : Fin 4) (s : State) : State :=
  if (s.ramp k).state = .dark then s
  else
    match s.topPlan k with
    | none => s
    | some p =>
      let now := s.spillNow k (p.spillTime * 1000)
      if now = (s.ramp k).spill then s
      else s.updRamp k (fun r =>
        let r1 := { r with spill := now }
        if now then r1.flushStart p else r1.flushEnd p)

/-- R20: a scan frame that matched some entries concerns ramp `k`: it matched a SPILL entry of the ramp or
the substitute of one. -/
def State.spillConcerned (s : State) (touched : Nat → Bool) (k : Fin 4) : Bool :=
  (s.spillEntries k).any (s.concerns touched)

/-- R17, R20: an event that touched some entries changed the source of a SPILL entry of ramp `k`: the source that an
entry it concerns now has is not the one the entry had when last resolved. A FORCE OUT, a RESTORE or a health change in
between so takes effect here (R17); that the last resolved source is what R20's change is judged against is DEDUCED,
log 12. -/
def State.sourceChanged (s : State) (touched : Nat → Bool) (k : Fin 4) : Bool :=
  (s.spillEntries k).any (fun i =>
    s.concerns touched i && decide (s.lastSources.get i ≠ s.source k .spill i))

/-- R20: a write that led from `s0` to `s` took a SPILL entry from ramp `k`, or wrote as a SPILL entry of
ramp `k` one that was a SPILL entry of another ramp. -/
def State.spillMoved (s0 : State) (k : Fin 4) (s : State) : Bool :=
  (s0.spillEntries k).any (fun i => !(s.spillEntries k).contains i) ||
  (s.spillEntries k).any (fun i => allRamps.any (fun j => decide (j ≠ k) && (s0.spillEntries j).contains i))

/-! ## Sources as last resolved (R17, R20) -/

/-- R17: the source that entry `i` keeps as its last resolved one once those of `which` are resolved; none for an entry
that is no enabled SPILL entry. -/
def State.lastSource (s : State) (which : Fin 4 → Nat → Bool) (i : Nat) : Option Nat :=
  match s.detector i with
  | none => none
  | some d =>
    if d.config.role ≠ .spill then none
    else if which d.config.ramp i then s.source d.config.ramp .spill i
    else s.lastSources.get i

/-- R17: the sources of the SPILL entries that `which` holds of are resolved. -/
def State.resolveSources (which : Fin 4 → Nat → Bool) (s : State) : State :=
  { s with lastSources := s.detectors.collect (s.lastSource which) }

/-- R17, R20: the SPILL entries that an event resolves: those it concerns, and all of a ramp whose spill it has
evaluated, which no event does of a DARK ramp (log 12). -/
def State.resolves (s : State) (touched : Nat → Bool) (spillDue : Fin 4 → Bool) (k : Fin 4) (i : Nat) : Bool :=
  s.concerns touched i || (spillDue k && decide ((s.ramp k).state ≠ .dark))

/-! ## All triggers of an event -/

/-- R125: the demand of a READY lane of the ramp became present. -/
def demandArrived (r0 r : Ramp) : Bool :=
  allLanes.any (fun l => !(r0.lane l).demand && (r.lane l).demand && decide ((r.lane l).cycle = .ready))

/-- R17 to R20, R125: ramp `k`'s triggers at an event that touches some entries; `spillDue` says that the
event has the ramp's spill evaluated. -/
def State.deriveRamp (touched : Nat → Bool) (spillDue : Bool) (k : Fin 4) (s : State) : State :=
  let s1 := s.deriveDemands touched k
  let s2 := if spillDue then s1.evaluateSpill k else s1
  if demandArrived (s.ramp k) (s2.ramp k) then s2.rerunPick k else s2

/-- R17: the triggers of every ramp, ramps in ascending order, and the sources they were drawn from. -/
def State.deriveTriggers (touched : Nat → Bool) (spillDue : Fin 4 → Bool) (s : State) : State :=
  allRamps.foldl (fun s k => s.deriveRamp touched (spillDue k) k) (s.resolveSources (s.resolves touched spillDue))

end Sys2Proof.Machine
end

