-- ==== Sys2Proof/Machine/Measures.lean ====
section
/-! DEFINITION. The interval close (02_detector_health_and_substitution.md, 04_interval_measures.md): raw and smoothed
measures (R57 to R60), symptoms (R24, R25), health (R27 to R29), usability and held measures (R33 to R35), and
the group measures (R62). -/

namespace Sys2Proof.Machine

/-- An entry in its ramp's close: the entry with its accumulators taken, and the arrivals A and covered span
T_span that were taken (R57). -/
structure Closing where
  entry : Detector
  arrivals : Nat
  span : Nat
  deriving DecidableEq, Repr

/-! ## Step 1 -/

/-- R57 to R59: the raw measures of the totals taken; none where T_span is 0. -/
def rawMeasure (arrivals onTime span : Nat) : Option Measure :=
  if span = 0 then none
  else some ⟨saturate 9999 (halfUp (arrivals * 3600000) span), halfUp (onTime * 10000) span⟩

/-- R60: a smoothed value from the previous one and the raw one, weight `w` in 16ths. -/
def smoothValue (w previous raw : Nat) : Nat :=
  ((previous : Int) + halfAway (((raw : Int) - (previous : Int)) * (w : Int)) 16).toNat

/-- R60: the smoothed measures after a close with raw measures `raw`. Without a valid plan there is no weight
and the history stands (DESIGN CHOICE, log 14). -/
def smoothMeasure (w : Option Nat) (previous raw : Option Measure) : Option Measure :=
  match w, raw with
  | some w, some r =>
    (match previous with
     | none => some r
     | some p => some ⟨smoothValue w p.flow r.flow, smoothValue w p.occ r.occ⟩)
  | _, _ => previous

/-- R26 step 1, R57: the accumulators are taken and cleared, the measures formed. -/
def Detector.close (w : Option Nat) (d : Detector) : Closing :=
  let raw := rawMeasure d.arrivals d.onTime d.span
  { entry := { d with arrivals := 0, onTime := 0, span := 0, raw := raw,
                      smoothed := smoothMeasure w d.smoothed raw },
    arrivals := d.arrivals, span := d.span }

/-! ## Step 2 -/

/-- R24: coverage short, for an interval of `ms` milliseconds. -/
def Closing.short (ms : Nat) (c : Closing) : Bool := decide (c.span = 0) || decide (c.span * 2 < ms)

/-- R25: the silence check applies to the role. -/
def Role.silenceChecked (r : Role) : Bool :=
  match r with
  | .mainUp => true
  | .mainDown => true
  | .rampIn => true
  | _ => false

/-- R25: the smoothed flow that a peer of role `role` brings to the mean, none for an entry that is no peer. -/
def Closing.peerFlow (ms : Nat) (role : Role) (c : Closing) : Option Nat :=
  if c.entry.config.role = role ∧ c.entry.health.serves ∧ c.short ms = false then
    c.entry.smoothed.map (fun m => m.flow)
  else none

/-- R25: the flows of entry `i`'s peers. -/
def peerFlows (ms : Nat) (all : List (Nat × Closing)) (i : Nat) (role : Role) : List Nat :=
  (all.filter (fun p => p.1 != i)).filterMap (fun p => p.2.peerFlow ms role)

/-- The mean of some values, rounded half up (00_scope.md 5.3). -/
def meanHalfUp (values : List Nat) : Nat := halfUp values.sum values.length

/-- R25: entry `i` is found silent. -/
def foundSilent (floor ms : Nat) (all : List (Nat × Closing)) (i : Nat) (c : Closing) : Bool :=
  c.entry.config.role.silenceChecked && decide (c.arrivals = 0) &&
  (match peerFlows ms all i c.entry.config.role with
   | [] => false
   | flows => decide (floor ≤ meanHalfUp flows))

/-- R24, R9: the silent mark of ramp `k` in the record of the entry's station. -/
def State.silentMark (s : State) (k : Fin 4) (a : Nat) : Bool :=
  match s.stations.get a with
  | none => false
  | some st => st.marks.get k

/-- R26 step 2: an entry's symptom set with the findings of the close added. -/
def closeSymptoms (s : State) (k : Fin 4) (ms : Nat) (all : List (Nat × Closing)) (i : Nat) (c : Closing) :
    Closing :=
  let y := c.entry.symptoms
  { c with entry := { c.entry with symptoms := { y with
      stationSilent := y.stationSilent || s.silentMark k c.entry.config.station,
      coverageShort := y.coverageShort || c.short ms,
      silence := y.silence || foundSilent s.limits.floor ms all i c } } }

/-! ## Step 3 -/

/-- R27 to R29: an entry's health and counts after a symptomatic or clean interval. -/
def Detector.judge (lim : Limits) (symptomatic : Bool) (d : Detector) : Detector :=
  match d.health with
  | .good =>
    if symptomatic then { d with health := .suspect, symptomatic := 1 } else { d with symptomatic := 0 }
  | .suspect =>
    if symptomatic then
      (if d.symptomatic + 1 < lim.fail then { d with symptomatic := d.symptomatic + 1 }
       else { d with health := .failed, symptomatic := 0, clean := 0 })
    else { d with health := .good, symptomatic := 0 }
  | .failed =>
    if symptomatic then { d with clean := 0 }
    else
      let n := saturate 255 (d.clean + 1)
      if lim.recovery ≠ 0 ∧ lim.recovery ≤ n then { d with health := .good, symptomatic := 0, clean := 0 }
      else { d with clean := n }
  | .forcedOut => { d with symptomatic := 0, clean := 0 }

/-- R26 step 3: the entry judged on its symptom set, which is then emptied. -/
def closeHealth (lim : Limits) (c : Closing) : Closing :=
  { c with entry := { c.entry.judge lim c.entry.symptoms.any with symptoms := .none } }

/-- R32: the HEALTH notice of an entry that the close moved from the health in `before`. -/
def State.closeNotice (s : State) (before : Nat × Closing) (after : Nat × Closing) : State :=
  if before.2.entry.health = after.2.entry.health then s
  else s.offerHealth before.1 before.2.entry.config.ramp before.2.entry.health after.2.entry.health .close
    before.2.entry.symptoms

/-! ## Step 4 -/

/-- R34: a substitute's value times the scale over 64, rounded half up. -/
def scaledValue (scale v : Nat) : Nat := halfUp (v * scale) 64

/-- R34: the scaled measures of a substitute. -/
def scaledMeasure (scale : Nat) (m : Measure) : Measure :=
  ⟨saturate 9999 (scaledValue scale m.flow), saturate 10000 (scaledValue scale m.occ)⟩

/-- R33: an entry's own smoothed measures, where it may supply them. -/
def Closing.ownMeasure (ms : Nat) (c : Closing) : Option Measure :=
  if c.entry.health.serves ∧ c.short ms = false then c.entry.smoothed else none

/-- R34: the scaled measures of the entry's substitute, with its index, where it is usable as a substitute. -/
def substituteMeasure (ms : Nat) (all : List (Nat × Closing)) (c : Closing) : Option (Nat × Measure) :=
  if c.entry.health.serves then none
  else
    match c.entry.config.substitute with
    | none => none
    | some j =>
      match rowsGet all j with
      | none => none
      | some e => (e.ownMeasure ms).map (fun m => (j, scaledMeasure c.entry.config.scale m))

/-- R35: the held measures that an entry may spend. -/
def Closing.heldMeasure (c : Closing) : Option Held :=
  match c.entry.held with
  | none => none
  | some h => if c.entry.config.drop || decide (h.count = 0) then none else some h

/-- R33 to R35: an entry after its usability step, with what it supplies. -/
def closeUsability (hold ms : Nat) (all : List (Nat × Closing)) (c : Closing) : Detector × Option Measure :=
  match c.ownMeasure ms with
  | some m =>
    ({ c.entry with usability := some .own,
                    held := if c.entry.config.drop then none else some ⟨m.flow, m.occ, hold⟩ }, some m)
  | none =>
    match substituteMeasure ms all c with
    | some (j, m) => ({ c.entry with usability := some (.substitute j) }, some m)
    | none =>
      match c.heldMeasure with
      | some h =>
        ({ c.entry with usability := some .held,
                        held := if h.count ≤ 1 then none else some { h with count := h.count - 1 } },
         some ⟨h.flow, h.occ⟩)
      | none => ({ c.entry with usability := some .unusable }, none)

/-! ## Group measures (R62) -/

/-- R36, R62: the members of a role's group. -/
def members (role : Role) (supplied : List (Detector × Option Measure)) : List Measure :=
  supplied.filterMap (fun p => if p.1.config.role = role then p.2 else none)

/-- The largest of some values, 0 for none. -/
def largest (values : List Nat) : Nat := values.foldl max 0

/-- A measure formed over a group, none for an empty group. -/
def grouped (f : List Nat → Nat) (values : List Nat) : Option Nat :=
  match values with
  | [] => none
  | _ => some (f values)

/-- R62, R64: the close record of what the entries supply. -/
def closeRecord (supplied : List (Detector × Option Measure)) (spill : Bool) : CloseRecord :=
  { od := grouped meanHalfUp ((members .mainDown supplied).map (fun m => m.occ)),
    qu := grouped (fun v => saturate 30000 v.sum) ((members .mainUp supplied).map (fun m => m.flow)),
    qdem := grouped (fun v => saturate 30000 v.sum) ((members .rampIn supplied).map (fun m => m.flow)),
    qocc := grouped largest ((members .queue supplied).map (fun m => m.occ)),
    spill := spill }

/-! ## The close -/

/-- R26 step 1 over the enabled entries of ramp `k`. -/
def State.closeStep1 (s : State) (k : Fin 4) : List (Nat × Closing) :=
  (s.detectors.rows.filter (fun p => decide (p.2.config.ramp = k))).map
    (fun p => (p.1, p.2.close ((s.topPlan k).map (fun q => q.weight))))

/-- R26 step 2. -/
def State.closeStep2 (s : State) (k : Fin 4) (ms : Nat) : List (Nat × Closing) :=
  let all := s.closeStep1 k
  all.map (fun p => (p.1, closeSymptoms s k ms all p.1 p.2))

/-- R26 step 3. -/
def State.closeStep3 (s : State) (k : Fin 4) (ms : Nat) : List (Nat × Closing) :=
  (s.closeStep2 k ms).map (fun p => (p.1, closeHealth s.limits p.2))

/-- R26 step 4: each entry of the ramp with what it supplies. -/
def State.closeStep4 (s : State) (k : Fin 4) (ms : Nat) : List (Nat × Detector × Option Measure) :=
  let all := s.closeStep3 k ms
  all.map (fun p => (p.1, closeUsability s.limits.hold ms all p.2))

/-- R65, R66, R70: the INTERVAL job is appended, or, on an overrun, the overrun mark is set. -/
def State.offerIntervalJob (k : Fin 4) (c : CloseRecord) (s : State) : State :=
  if s.hasJob k then s.updRamp k (fun r => { r with overrun := true })
  else { s with jobs := s.jobs ++ [⟨k, .interval c⟩] }

/-- The entries of the table replaced by what a close made of them. -/
def State.storeClosed (s : State) (closed : List (Nat × Detector × Option Measure)) : State :=
  { s with detectors := s.detectors.map (fun i d =>
      match rowsGet closed i with
      | some x => x.1
      | none => d) }

/-- R26, R55, R64: the interval close of a ramp whose interval is `seconds` long. -/
def State.intervalClosed (k : Fin 4) (seconds : Nat) (s : State) : State :=
  let ms := seconds * 1000
  let before := s.closeStep2 k ms
  let after := s.closeStep3 k ms
  let closed := s.closeStep4 k ms
  let s1 := (s.storeClosed closed).resetMarks k
  let s2 := (before.zip after).foldl (fun s p => s.closeNotice p.1 p.2) s1
  let s3 := s2.offerIntervalJob k (closeRecord (closed.map (fun p => p.2)) (s.ramp k).spill)
  s3.updRamp k (fun r => { r with intervalTimer := some seconds })

end Sys2Proof.Machine
end

