-- ==== Sys2Proof/Machine/Resets.lean ====
section
/-! DEFINITION. The end of an event that may have moved a head's target (R147), and the ring reset (R166), block by block: R21,
R37, R51, R68, R71, R73, R104, R121, R144, R156, R167, R176. -/

namespace Sys2Proof.Machine

/-- R147: the end of an event that led from `s0` and made no head record not valid. -/
def State.settled (s0 s : State) : State := State.settleHeads s0 [] s

/-- R21: a station record after a ring reset. -/
def Station.restarted (timeout : Nat) : Station := { live := true, marks := .all false, timer := some timeout }

/-- R121, R51, R68, R73, R104, R144, R156: a ramp after a ring reset; its configuration record, its base
plan and its hold input's level are kept. -/
def Ramp.ringReset (site : Site) (r : Ramp) : Ramp :=
  ({ Ramp.reset r.holdInput with config := r.config, stack := [r.stack.headD 0] }).freshHeads site

/-- The blocks' state at a ring reset, before demand is derived and heads are offered; the own address, the
link, the line, the receive path and the settings are kept (R166, R167). So are the frames handed on to their
blocks and not yet acted on (`handed`): DESIGN CHOICE, log 28. -/
def State.ringCleared (s : State) : State :=
  { s with
    forward := [], urgent := [], normal := [], forwardDropped := false, urgentDropped := false,
    normalDropped := false, waitCount := 0, sequence := 0, jobs := [], rcu := .idle,
    detectors := s.detectors.map (fun _ d => .fresh d.config),
    stations := s.stations.map (fun _ _ => .restarted s.limits.timeout),
    ramps := s.ramps.map (Ramp.ringReset s.site) }

/-- R166, R18, R149: the ring reset takes effect: every block is reset, the demand of each configured lane is
derived afresh, and each used head is offered a command. That the sources of the SPILL entries are resolved afresh with
the demand is DEDUCED, log 12. -/
def State.ringReset (s : State) : State :=
  let s1 := (allRamps.foldl (fun s k => s.deriveAllDemands k) s.ringCleared).resolveSources (fun _ _ => true)
  State.settleHeads s1 allHeads s1

/-- R166: a reset reply waits: in the normal insert queue, or, being sent, on the line. That the one being sent counts
as waiting, so that a RING RESET taken then is answered without the mark and never resets at once, is DEDUCED
(log 27). -/
def State.resetAwaited (s : State) : Bool :=
  s.normal.any (fun o => o.resetReply) ||
  (match s.line with
   | some o => o.resetReply
   | none => false)

end Sys2Proof.Machine
end

