-- ==== Sys2Proof/Machine/RingPort.lean ====
section
/-! DEFINITION. The commands of the pins and of the Ring Port (10_the_cabinet_ring.md): hard reset, link, reception,
transmission, transmit-hold, and the ring reset. -/

namespace Sys2Proof.Machine

/-! ## Hard reset and link -/

/-- R157: the own address that a strap reading gives. -/
def strapAddress (straps : Nat) : Nat := if nodeOk straps then straps else 126

/-- HARD_RESET (R167, R157, R158): every block takes its hard reset values and the straps are read; with
signal on the line the link comes UP, and its link-up finds no head in use. The waiting commands, the free
value counter and the levels of the input pins are no state of a block (DESIGN CHOICE, log 20 and log 21). A frame
handed on to its block and not yet acted on is dropped (DESIGN CHOICE, log 28). -/
def execHardReset (straps : Nat) (signal : Bool) (s : State) : Host.Outcome State Fault Refusal :=
  .next { State.reset with
    pending := s.pending, freeCount := s.freeCount, ownAddress := strapAddress straps, linkUp := signal,
    txHold := s.txHold, ramps := s.ramps.map (fun r => Ramp.reset r.holdInput) }

/-- LINK_SIGNAL_LOST (R158): the link state becomes DOWN. -/
def execLinkSignalLost (s : State) : Host.Outcome State Fault Refusal := State.ends { s with linkUp := false }

/-- R149, R158: the link-up that the Head Link Controller receives. -/
def State.linkUpDelivered (s : State) : State :=
  State.settleHeads s allHeads { s with ramps := s.ramps.map Ramp.invalidateHeads }

/-- LINK_SIGNAL_REGAINED (R158): a link that is DOWN comes UP, with a link-up, and reception awaits the first
idle gap. -/
def execLinkSignalRegained (s : State) : Host.Outcome State Fault Refusal :=
  State.ends (if s.linkUp then s else { s with linkUp := true, awaitingGap := true }.linkUpDelivered)

/-- FIRST_IDLE_GAP (R158): framing begins. -/
def execFirstIdleGap (s : State) : Host.Outcome State Fault Refusal :=
  State.ends (if s.linkUp then { s with awaitingGap := false } else s)

/-! ## Reception -/

/-- R159, R160: what a frame that passes every test leads to: the command it hands on, and its forwarding. -/
def State.received (bytes : Frame) (s : State) : State :=
  let s1 := match handOn s.ownAddress bytes with
    | some c => { s with handed := s.handed ++ [c] }
    | none => s
  if frameDst bytes = s.ownAddress then s1 else s1.offerForward bytes

/-- R159: the frame is discarded (a test fails) or removed (its source is the own address). -/
def State.frameDropped (s : State) (bytes : Frame) : Bool :=
  !frameAccepted bytes || decide (frameSrc bytes = s.ownAddress)

/-- R158: frames arrive: the line carries signal and its first idle gap has been seen. -/
def State.receiving (s : State) : Bool := s.linkUp && !s.awaitingGap

/-- FRAME_RECEIVED (R159, R160; DESIGN CHOICE, log 3, DEDUCED, log 17). -/
def execFrameReceived (bytes : Frame) (s : State) : Host.Outcome State Fault Refusal :=
  State.ends (if s.receiving && !s.frameDropped bytes then s.received bytes else s)

/-! ## Transmission -/

/-- TRANSMIT_START (R162): the arbiter starts the frame it chooses. The event that brings the start due makes it itself
as it ends, so a run finds it made (DEDUCED, log 29). -/
def execTransmitStart (s : State) : Host.Outcome State Fault Refusal := s.ends

/-- The line carries the reset reply (R166). -/
def State.sendingReset (s : State) : Bool :=
  match s.line with
  | some o => o.resetReply
  | none => false

/-- R162, R166: the frame on the line has left it; at the end of the reset reply the ring reset takes effect
(DEDUCED, log 5). -/
def State.lineEnds (s : State) : State :=
  if s.sendingReset then { s with line := none }.ringReset else { s with line := none }

/-- TRANSMIT_END (R162): the line is free, and the arbiter makes its choice as the event ends. -/
def execTransmitEnd (s : State) : Host.Outcome State Fault Refusal := s.lineEnds.ends

/-- TXHOLD_ASSERTED (R163). -/
def execTxholdAsserted (s : State) : Host.Outcome State Fault Refusal := State.ends { s with txHold := true }

/-- TXHOLD_DEASSERTED (R163): on a free line the arbiter makes its choice as the event ends. -/
def execTxholdDeasserted (s : State) : Host.Outcome State Fault Refusal := State.ends { s with txHold := false }

/-! ## Ring status and ring reset -/

/-- R165, R180: the body of a RING STATUS reply. -/
def State.ringStatusBody (s : State) : List Byte :=
  [u8 s.forward.length, u8 s.urgent.length, u8 s.normal.length,
   u8 (bitValue s.forwardDropped 1 + bitValue s.urgentDropped 2 + bitValue s.normalDropped 4),
   u8 (bitValue s.linkUp 1), u8 (bitValue s.txHold 1)]

/-- R165: the three dropped indications are cleared. -/
def State.droppedCleared (s : State) : State :=
  { s with forwardDropped := false, urgentDropped := false, normalDropped := false }

/-- RING_STATUS (R165). -/
def execRingStatus (q : Request) (s : State) : Host.Outcome State Fault Refusal :=
  s.acting (.ringStatus q) (fun s => s.droppedCleared.reply q 0x50 .done s.ringStatusBody)

/-- R166, R175: RING RESET is taken. -/
def State.ringResetTaken (q : Request) (s : State) : State :=
  if s.resetAwaited then s.reply q 0x51 .done []
  else if s.normalRoom then s.offerNormal ⟨s.replyFrame q 0x51 .done [], true⟩
  else s.ringReset

/-- RING_RESET (R175, R166). -/
def execRingReset (q : Request) (s : State) : Host.Outcome State Fault Refusal :=
  s.acting (.ringReset q) (State.ringResetTaken q)

/-- RING_RESET_EFFECT (R166): the same event as the end of the reset reply's transmission (DEDUCED, log 5); nothing
where no reset reply is being sent. -/
def execRingResetEffect (s : State) : Host.Outcome State Fault Refusal :=
  State.ends (if s.sendingReset then { s with line := none }.ringReset else s)

end Sys2Proof.Machine
end

