-- ==== Sys2Proof/Machine/SiteRequests.lean ====
section
/-! DEFINITION. Requests of the Request Handler itself and of the settings records (11_management_requests_and_frame_layouts.md,
02 R22): format rejects, identity, site settings, health limits. -/

namespace Sys2Proof.Machine

/-- R169: the request code echoed to a payload; 0x00 for a payload shorter than one byte. -/
def echoedCode (payload : List Byte) : Nat := (payload.headD 0).toNat

/-- R42, R169: the ramp whose stack the reply to a refused request carries: that of a PUSH, POP or SET BASE with a subject
in 0-3. -/
def stackSubject (payload : List Byte) : Option (Fin 4) :=
  match byteValues payload with
  | code :: subject :: _ => if h : within 0x22 0x24 code = true ∧ subject < 4 then some ⟨subject, h.2⟩ else none
  | _ => none

/-- R169: the body of the BAD_FORMAT reply to a payload: none, but for a PUSH, POP or SET BASE with a subject in 0-3 the
stack. That R42's refused requests take in one of a wrong length is DEDUCED, log 30. -/
def State.formatBody (s : State) (payload : List Byte) : List Byte :=
  match stackSubject payload with
  | some k => stackBytes (s.ramp k).stack
  | none => []

/-- REQUEST_FORMAT_REJECT (R168 checks 1 to 3, R169): a payload with a format fault is answered BAD_FORMAT. -/
def execRequestFormatReject (src tag : Nat) (payload : List Byte) (s : State) : Host.Outcome State Fault Refusal :=
  s.acting (.requestFormatReject src tag payload) (fun s =>
    if formatFault payload then s.reply ⟨src, tag, 0⟩ (echoedCode payload) .badFormat (s.formatBody payload) else s)

/-- R170, R180: the body of an IDENTIFY reply. -/
def State.identity (s : State) : List Byte :=
  [u8 Config.vendorCode] ++ u16 Config.partCode ++
  [u8 Config.siliconRevision, u8 4, u8 3, u8 Config.detectorEntries, u8 Config.stationRecords,
   u8 Config.planRecords, u8 Config.stackDepth, u8 s.ownAddress, u8 s.site.report]

/-- IDENTIFY (R170). -/
def execIdentify (q : Request) (s : State) : Host.Outcome State Fault Refusal :=
  s.acting (.identify q) (fun s => s.reply q 0x01 .done s.identity)

/-- R171: the effect of SITE WRITE. -/
def State.siteWritten (q : Request) (rec : SiteRecord) (s : State) : State :=
  match siteFault rec with
  | some n => s.badValue q 0x02 n
  | none => { s with site := siteOf rec }.reply q 0x02 .done []

/-- SITE_WRITE (R171). -/
def execSiteWrite (q : Request) (rec : SiteRecord) (s : State) : Host.Outcome State Fault Refusal :=
  s.acting (.siteWrite q rec) (State.siteWritten q rec)

/-- SITE_READ (R171). -/
def execSiteRead (q : Request) (s : State) : Host.Outcome State Fault Refusal :=
  s.acting (.siteRead q) (fun s => s.reply q 0x03 .done s.site.bytes)

/-- R22: the effect of HEALTH LIMITS WRITE. -/
def State.limitsWritten (q : Request) (rec : LimitsRecord) (s : State) : State :=
  match limitsFault rec with
  | some n => s.badValue q 0x04 n
  | none => { s with limits := limitsOf rec }.reply q 0x04 .done []

/-- HEALTH_LIMITS_WRITE (R22). -/
def execHealthLimitsWrite (q : Request) (rec : LimitsRecord) (s : State) : Host.Outcome State Fault Refusal :=
  s.acting (.healthLimitsWrite q rec) (State.limitsWritten q rec)

/-- HEALTH_LIMITS_READ (R22). -/
def execHealthLimitsRead (q : Request) (s : State) : Host.Outcome State Fault Refusal :=
  s.acting (.healthLimitsRead q) (fun s => s.reply q 0x05 .done s.limits.bytes)

end Sys2Proof.Machine
end

