-- ==== Sys2Proof/Machine/DetectorRequests.lean ====
section
/-! DEFINITION. Commands of Scan Intake and the Detector Health Monitor (01_detector_channels_and_scan_intake.md,
02_detector_health_and_substitution.md): scan frames, station timers, the detector table's requests, FORCE OUT
and RESTORE, and the interval close. -/

namespace Sys2Proof.Machine

/-! ## Scan frames -/

/-- R10: the frame is acted on; a payload length that disagrees with the record count reaches here as a count
that disagrees with the records (R177). -/
def State.scanActedOn (s : State) (src span count : Nat) (records : List ScanRecord) : Bool :=
  (s.stations.get src).isSome && within 50 1000 span && within 1 8 count && decide (records.length = count)

/-- R8: the station's timer restarts and the station is LIVE; its silent marks stand. -/
def State.stationHeard (src : Nat) (s : State) : State :=
  match s.stations.get src with
  | none => s
  | some st => { s with stations := s.stations.insert src { st with live := true, timer := some s.limits.timeout } }

/-- R12: the entries matched by the screened records are processed. -/
def State.scanEntries (src span : Nat) (screened : List ScanRecord) (s : State) : State :=
  { s with detectors := s.detectors.map (fun _ d =>
      match matchRecord src screened d with
      | some r => d.scanned s.limits (decide ((s.ramp d.config.ramp).state = .dark)) span r
      | none => d) }

/-- R17: the entries that a scan frame matched. -/
def State.scanTouches (s : State) (src : Nat) (screened : List ScanRecord) (i : Nat) : Bool :=
  match s.detector i with
  | none => false
  | some d => (matchRecord src screened d).isSome

/-- R10 to R20: a scan frame that is acted on: passages drawn from the entries as the frame finds them, then
the entries, then demand and spill. -/
def State.scanned (src span : Nat) (records : List ScanRecord) (s : State) : State :=
  let screened := screenScan [] records
  let s1 := s.stationHeard src
  let s2 := allRamps.foldl (fun t k => t.deliverPassages src screened k) s1
  let s3 := s2.scanEntries src span screened
  let touched := s3.scanTouches src screened
  s3.deriveTriggers touched (s3.spillConcerned touched)

/-- SCAN_FRAME (R10). -/
def execScanFrame (src span count : Nat) (records : List ScanRecord) (s : State) : Host.Outcome State Fault Refusal :=
  s.acting (.scanFrame src span count records) (fun s =>
    if s.scanActedOn src span count records then State.settled s (s.scanned src span records) else s)

/-! ## Station timers -/

/-- The entry names station `a`. -/
def State.namesStation (s : State) (a i : Nat) : Bool :=
  match s.detector i with
  | none => false
  | some d => decide (d.config.station = a)

/-- R8: what the expiry of the timer of a record does to it. -/
def State.stationExpired (a : Nat) (s : State) : State :=
  let s1 := { s with stations := s.stations.insert a { live := false, marks := .all true, timer := none } }
  let touched := s1.namesStation a
  s1.deriveTriggers touched (s1.sourceChanged touched)

/-- R6, R8: the station has a record whose timer is running. -/
def State.stationTimed (s : State) (a : Nat) : Bool :=
  match s.stations.get a with
  | none => false
  | some st => st.timer.isSome

/-- STATION_TIMER_EXPIRY (R8). -/
def execStationTimerExpiry (address : Nat) (s : State) : Host.Outcome State Fault Refusal :=
  State.ends (if s.stationTimed address then State.settled s (s.stationExpired address) else s)

/-! ## DETECTOR WRITE and DETECTOR READ -/

/-- R172: the number of entries taken of a run of `count` from entry `i`. -/
def runTaken (i count : Nat) : Nat := min count (4 - i % 4)

/-- R172: entry `j` lies in the run taken. -/
def inRun (i n j : Nat) : Bool := decide (i ≤ j) && decide (j < i + n)

/-- R172, R7: the lowest invalid entry of a run that starts at `i`. -/
def invalidEntry (i : Nat) (run : List EntryRecord) : Option Nat :=
  match run with
  | [] => none
  | r :: rest => if entryValid i r then invalidEntry (i + 1) rest else some i

/-- R4, R5: a run written from entry `i` on: an enabled entry is set up afresh, a disabled one discarded. -/
def writeRun (i : Nat) (run : List EntryRecord) (t : Table Detector) : Table Detector :=
  match run with
  | [] => t
  | r :: rest =>
    writeRun (i + 1) rest
      (match entryConfig r with
       | some c => t.insert i (.fresh c)
       | none => t.erase i)

/-- R7: the stations named by the enabled entries of a table, each once. -/
def stationsNamed (t : Table Detector) : List Nat :=
  (t.rows.map (fun p => p.2.config.station)).eraseDups

/-- R6: the station list after a write that leaves detector table `t`: the records of stations no longer named
are removed, and a station that has no record gets one. -/
def stationList (timeout : Nat) (named : List Nat) (old : Table Station) : Table Station :=
  named.foldl (fun t a => if (t.get a).isSome then t else t.insert a (.restarted timeout))
    ⟨old.rows.filter (fun p => named.contains p.1)⟩

/-- R32: the HEALTH notices of a run rewritten over `s0`, in ascending index. -/
def State.writeNotices (s0 : State) (i : Nat) (run : List EntryRecord) (s : State) : State :=
  match run with
  | [] => s
  | r :: rest =>
    State.writeNotices s0 (i + 1) rest
      (match s0.detector i, entryConfig r with
       | some d, some c =>
         if d.health = .good then s else s.offerHealth i c.ramp d.health .good .write .none
       | _, _ => s)

/-- R4 to R6, R17, R20, R32: a run of entries from entry `i` on is written. That a write of disabled over a disabled entry,
which R5 says changes nothing, derives the triggers of what names the entry as its substitute, as R17 has any taken write
do, is DEDUCED, log 34. -/
def State.runWritten (i : Nat) (run : List EntryRecord) (s : State) : State :=
  let t := writeRun i run s.detectors
  let s1 := { s with detectors := t, stations := stationList s.limits.timeout (stationsNamed t) s.stations }
  let s2 := State.writeNotices s i run s1
  let touched := inRun i run.length
  s2.deriveTriggers touched (fun k => s2.sourceChanged touched k || s.spillMoved k s2)

/-- R172: the result of a run of which `n` entries were taken. -/
def runResult (n count : Nat) : Result := if n = count then .done else .partly

/-- R7, R172: the effect of DETECTOR WRITE; a count outside 1-4 is a format fault (R168). -/
def State.detectorsWritten (q : Request) (entries : List EntryRecord) (s : State) : State :=
  let count := entries.length
  if within 1 4 count = false then s.reply q 0x10 .badFormat []
  else if within 0 63 q.subject = false then s.badValue q 0x10 0xFF
  else
    let n := runTaken q.subject count
    let run := entries.take n
    match invalidEntry q.subject run with
    | some j => s.badValue q 0x10 j
    | none =>
      if Config.stationRecords < (stationsNamed (writeRun q.subject run s.detectors)).length then
        s.reply q 0x10 .noRoom []
      else (State.settled s (s.runWritten q.subject run)).reply q 0x10 (runResult n count) [u8 n]

/-- DETECTOR_WRITE (R7). -/
def execDetectorWrite (q : Request) (entries : List EntryRecord) (s : State) : Host.Outcome State Fault Refusal :=
  s.acting (.detectorWrite q entries) (State.detectorsWritten q entries)

/-- R172, R181: the record of entry `i` in a view; `free` stands for a byte the manual does not state. -/
def State.entryView (s : State) (view i : Nat) (free : Byte) : List Byte :=
  match view with
  | 0 => configView free (s.detector i)
  | 1 => healthView (s.detector i)
  | _ => measuresView (s.detector i)

/-- R172: the records of a run of `n` entries. -/
def State.runRecords (s : State) (i n view : Nat) : List Byte :=
  (List.range n).flatMap (fun j => s.entryView view (i + j) (Config.unstatedByte (s.freeCount + j)))

/-- R172: the effect of DETECTOR READ. -/
def State.detectorsRead (q : Request) (count view : Nat) (s : State) : State :=
  if within 0 63 q.subject = false then s.badValue q 0x11 0xFF
  else if within 1 4 count = false ∨ within 0 2 view = false then s.badValue q 0x11 0xFF
  else
    let n := runTaken q.subject count
    let s1 := s.reply q 0x11 (runResult n count) ([u8 n, u8 view] ++ s.runRecords q.subject n view)
    if view = 0 then s1.drew n else s1

/-- DETECTOR_READ (R172). -/
def execDetectorRead (q : Request) (count view : Nat) (s : State) : Host.Outcome State Fault Refusal :=
  s.acting (.detectorRead q count view) (State.detectorsRead q count view)

/-! ## FORCE OUT and RESTORE -/

/-- R30, R31: an entry's health set by request, with its HEALTH notice. -/
def State.healthSet (i : Nat) (d : Detector) (h : Health) (cause : HealthCause) (s : State) : State :=
  { s with detectors := s.detectors.insert i { d with health := h, symptomatic := 0, clean := 0 } }.offerHealth
    i d.config.ramp d.health h cause .none

/-- R30: the effect of FORCE OUT. -/
def State.forcedOut (q : Request) (s : State) : State :=
  if within 0 63 q.subject = false then s.badValue q 0x12 0xFF
  else
    match s.detector q.subject with
    | none => s.reply q 0x12 .wrongState []
    | some d =>
      if d.health = .forcedOut then s.reply q 0x12 .done []
      else (s.healthSet q.subject d .forcedOut .forceOut).reply q 0x12 .done []

/-- FORCE_OUT (R30). -/
def execForceOut (q : Request) (s : State) : Host.Outcome State Fault Refusal :=
  s.acting (.forceOut q) (State.forcedOut q)

/-- R31: the effect of RESTORE. -/
def State.restored (q : Request) (s : State) : State :=
  if within 0 63 q.subject = false then s.badValue q 0x13 0xFF
  else
    match s.detector q.subject with
    | none => s.reply q 0x13 .wrongState []
    | some d =>
      if d.health.serves then s.reply q 0x13 .wrongState []
      else (s.healthSet q.subject d .good .restore).reply q 0x13 .done []

/-- RESTORE (R31). -/
def execRestore (q : Request) (s : State) : Host.Outcome State Fault Refusal :=
  s.acting (.restore q) (State.restored q)

/-! ## The interval close -/

/-- R52, R55: the length that the interval timer restarts with; the record's, or, where no record is present
(no run reaches that), the length the timer held. -/
def Ramp.intervalLength (r : Ramp) (held : Nat) : Nat :=
  match r.config with
  | some c => c.interval
  | none => held

/-- INTERVAL_CLOSE (R55): the running interval timer of ramp `k` expires. -/
def execIntervalClose (k : Fin 4) (s : State) : Host.Outcome State Fault Refusal :=
  State.ends (match (s.ramp k).intervalTimer with
    | some held => s.intervalClosed k ((s.ramp k).intervalLength held)
    | none => s)

end Sys2Proof.Machine
end

