-- ==== Sys2Proof/Machine/PlanRequests.lean ====
section
/-! DEFINITION. Requests of the plan table and the plan stacks (03_metering_plans_and_the_plan_stack.md). -/

namespace Sys2Proof.Machine

/-- R125: a waiting pick of each ramp whose top plan is `p` is made again. -/
def State.rerunPlan (p : Nat) (s : State) : State :=
  allRamps.foldl (fun s k => if (s.ramp k).top = p then s.rerunPick k else s) s

/-- R40, R41: the effect of PLAN WRITE. -/
def State.planWritten (q : Request) (rec : PlanRecord) (s : State) : State :=
  if within 0 15 q.subject = false then s.badValue q 0x20 0
  else
    match planFault rec with
    | some n => s.badValue q 0x20 n
    | none =>
      let s1 := { s with plans := s.plans.insert q.subject (planOf rec) }
      (State.settled s (s1.rerunPlan q.subject)).reply q 0x20 .done []

/-- PLAN_WRITE (R41). -/
def execPlanWrite (q : Request) (rec : PlanRecord) (s : State) : Host.Outcome State Fault Refusal :=
  s.acting (.planWrite q rec) (State.planWritten q rec)

/-- R38: the effect of PLAN READ. -/
def State.planRead (q : Request) (s : State) : State :=
  if within 0 15 q.subject = false then s.badValue q 0x21 0
  else
    match s.plans.get q.subject with
    | none => s.reply q 0x21 .wrongState []
    | some p => s.reply q 0x21 .done p.record.bytes

/-- PLAN_READ (R38). -/
def execPlanRead (q : Request) (s : State) : Host.Outcome State Fault Refusal :=
  s.acting (.planRead q) (State.planRead q)

/-- R42: the reply to PUSH, POP and SET BASE carries the stack as it stands. -/
def State.stackReply (q : Request) (code : Nat) (k : Fin 4) (result : Result) (s : State) : State :=
  s.reply q code result (stackBytes (s.ramp k).stack)

/-- R47: STACK enters both flag sets. -/
def Ramp.recordStack (r : Ramp) : Ramp :=
  { r with sticky := { r.sticky with stack := true }, last := { r.last with stack := true } }

/-- R47: the STACK flag is raised for ramp `k`. -/
def State.stackFlag (k : Fin 4) (s : State) : State :=
  let s1 := s.updRamp k Ramp.recordStack
  match s.topPlan k with
  | none => s1
  | some p =>
    if p.unmasked.stack && (s.ramp k).state.active then
      (s1.updRamp k Ramp.setFaultPending).offerFault k .stack .onlyStack .onlyStack (s.ramp k).top
    else s1

/-- R43, R125: a taken change of ramp `k`'s stack, with its pick re-run and its reply. -/
def State.stackTaken (q : Request) (code : Nat) (k : Fin 4) (stack : List Nat) (s : State) : State :=
  let s1 := s.updRamp k (fun r => { r with stack := stack })
  (State.settled s (s1.rerunPick k)).stackReply q code k .done

/-- R44: the effect of PUSH. -/
def State.pushed (q : Request) (plan : Nat) (k : Fin 4) (s : State) : State :=
  if within 0 15 plan = false ∨ s.planValid plan = false then s.stackReply q 0x22 k .badValue
  else if Config.stackDepth ≤ (s.ramp k).stack.length then (s.stackFlag k).stackReply q 0x22 k .stackFault
  else s.stackTaken q 0x22 k ((s.ramp k).stack ++ [plan])

/-- PUSH (R44). -/
def execPush (q : Request) (plan : Nat) (s : State) : Host.Outcome State Fault Refusal :=
  s.acting (.push q plan) (State.onRamp q 0x22 (State.pushed q plan))

/-- R45: the plan that a POP would expose. -/
def Ramp.exposed (r : Ramp) : Nat := r.stack.dropLast.getLast?.getD 0

/-- R45: the effect of POP. -/
def State.popped (q : Request) (k : Fin 4) (s : State) : State :=
  let r := s.ramp k
  if r.stack.length ≤ 1 then (s.stackFlag k).stackReply q 0x23 k .stackFault
  else if s.planValid r.exposed = false ∧ r.state ≠ .dark then s.stackReply q 0x23 k .badValue
  else s.stackTaken q 0x23 k r.stack.dropLast

/-- POP (R45). -/
def execPop (q : Request) (s : State) : Host.Outcome State Fault Refusal :=
  s.acting (.pop q) (State.onRamp q 0x23 (State.popped q))

/-- R46: a stack with its bottom entry replaced. -/
def rebased (plan : Nat) (stack : List Nat) : List Nat := plan :: stack.drop 1

/-- R46: the effect of SET BASE. -/
def State.baseSet (q : Request) (plan : Nat) (k : Fin 4) (s : State) : State :=
  if within 0 15 plan = false ∨ s.planValid plan = false then s.stackReply q 0x24 k .badValue
  else s.stackTaken q 0x24 k (rebased plan (s.ramp k).stack)

/-- SET_BASE (R46). -/
def execSetBase (q : Request) (plan : Nat) (s : State) : Host.Outcome State Fault Refusal :=
  s.acting (.setBase q plan) (State.onRamp q 0x24 (State.baseSet q plan))

end Sys2Proof.Machine
end

