-- ==== Sys2Proof/Machine/RateJobs.lean ====
section
/-! DEFINITION. The RCU's job queue (05_rate_computation.md): a job's start and its snapshot, and the delivery of an
INTERVAL job (R85 to R88, R79, R94, R98, R99) and of a START job (R90, R103, R126). -/

namespace Sys2Proof.Machine

/-! ## Job start -/

/-- JOB_START (R71): with the RCU idle, the job at the head of the queue starts. The event that brings the start due
makes it itself as it ends, so a run finds it made (DEDUCED, log 29). -/
def execJobStart (s : State) : Host.Outcome State Fault Refusal := s.ends

/-! ## What a completion hands over -/

/-- R85: a job's flag set is recorded. -/
def Ramp.recordFlags (r : Ramp) (f : Flags) : Ramp := { r with last := f, sticky := r.sticky.union f }

/-- R85, R94, R102: a completion leaves a fault pending, with its FAULT notice. -/
def State.jobFault (k : Fin 4) (cause : FaultCause) (x : Snapshot) (f : Flags) (s : State) : State :=
  (s.updRamp k Ramp.setFaultPending).offerFault k cause f (f.inter x.plan.unmasked) x.number

/-- R98, R99: an accepted job counts toward recovery in FALLBACK, and may stage its period with the RETURN
mark. -/
def Ramp.countClean (r : Ramp) (p : Plan) (period : Nat) : Ramp :=
  let n := saturate 15 (r.recovery + 1)
  let r1 := { r with recovery := n }
  if p.recoveryIntervals ≠ 0 ∧ p.recoveryIntervals ≤ n then { (r1.stage period .returning) with faultPending := false }
  else r1

/-- R86, R91: an accepted INTERVAL job's delivery to a ramp that is STARTING, METERING, FALLBACK or
SUSPENDED. -/
def Ramp.deliverInterval (r : Ramp) (p : Plan) (x : JobResult) : Ramp :=
  let r1 := { r.recordComputed x.period with rPrev := some x.rate, lastResult := .accepted }
  if r.state.fallbackOrHeld then r1.countClean p x.period else r1.stageComputed x.period

/-- R79: the share record that the job read has its lifetime lowered by 1, and is absent at 0. -/
def Ramp.countShare (r : Ramp) : Ramp :=
  match r.share with
  | none => r
  | some x =>
    if x.read then
      { r with share := if x.lifetime ≤ 1 then none else some { x with lifetime := x.lifetime - 1, read := false } }
    else r

/-! ## Interval reports -/

/-- R182: a measure of the close record, 0xFFFF for an empty group. -/
def groupBytes (v : Option Nat) : List Byte := u16 (v.getD 0xFFFF)

/-- R139, R182: what lane `l` hands to a report: greens, served, violations; zeros for a lane not used. -/
def Ramp.laneBytes (r : Ramp) (l : Fin 3) : List Byte :=
  if r.used l then [u8 (r.lane l).greens, u8 (r.lane l).served, u8 (r.lane l).violations] else [u8 0, u8 0, u8 0]

/-- R139: the extra counts of the used lanes summed, saturating at 255. -/
def Ramp.extraSum (r : Ramp) : Nat :=
  saturate 255 ((allLanes.map (fun l => if r.used l then (r.lane l).extra else 0)).sum)

/-- R182: the report's active period: 0 while the clock is STOPPED. -/
def Ramp.reportedPeriod (r : Ramp) : Nat := if r.clock.state = .stopped then 0 else r.clock.active.getD 0

/-- R182: the payload of an interval report. -/
def reportPayload (k : Fin 4) (r : Ramp) (flags : Flags) (c : CloseRecord) (number : Nat) : List Byte :=
  [u8 k.val, u8 (r.state.code + bitValue c.spill 64 + bitValue r.overrun 128), u8 flags.code] ++
  u16 (r.rPrev.getD 0) ++ u16 r.reportedPeriod ++ groupBytes c.od ++ groupBytes c.qu ++ groupBytes c.qdem ++
  groupBytes c.qocc ++ [u8 r.extraSum, u8 number] ++ allLanes.flatMap r.laneBytes

/-- R88, R67, R139: the interval report is built and offered; the overrun mark and the lane counts go with
it. -/
def State.offerReport (k : Fin 4) (flags : Flags) (c : CloseRecord) (number : Nat) (s : State) : State :=
  (s.offerSequenced Config.kindReport (reportPayload k (s.ramp k) flags c number)).updRamp k
    (fun r => { r.clearCounts with overrun := false })

/-! ## Completions -/

/-- R85 to R87: step 8 of an INTERVAL job of a ramp that is not DARK. -/
def State.resultDelivered (k : Fin 4) (x : Snapshot) (res : JobResult) (s : State) : State :=
  let s1 := s.updRamp k (fun r => r.recordFlags res.flags)
  if (s.ramp k).state = .clearing then s1
  else if (res.flags.inter x.plan.unmasked).any then
    (s1.updRamp k (fun r => { r with lastResult := .withheld })).jobFault k .withheld x res.flags
  else s1.updRamp k (fun r => r.deliverInterval x.plan res)

/-- R71, R87: an INTERVAL job's outcome reaches its ramp; in DARK, or for a job that read no plan, nothing
does. -/
def State.intervalDelivered (k : Fin 4) (x : Option Snapshot) (c : CloseRecord) (s : State) : State :=
  match x with
  | none => s
  | some x =>
    if (s.ramp k).state = .dark then s
    else
      let res := computeInterval x c
      ((s.resultDelivered k x res).updRamp k Ramp.countShare).offerReport k res.flags c x.number

/-- R71: the completed job leaves the queue and the RCU is idle. -/
def State.jobLeft (s : State) : State := { s with jobs := s.jobs.drop 1, rcu := .idle }

/-- INTERVAL_JOB_COMPLETION (R85): the running job, an INTERVAL job, completes. -/
def execIntervalJobCompletion (s : State) : Host.Outcome State Fault Refusal :=
  State.ends (match s.rcu, s.jobs with
    | .busy x, ⟨k, .interval c⟩ :: _ => (s.intervalDelivered k x c).jobLeft
    | _, _ => s)

/-- R90, R73: the ramp keeps a START job's rate and its period. -/
def Ramp.deliverStart (r : Ramp) (x : JobResult) : Ramp :=
  { (r.recordComputed x.period).stageComputed x.period with rPrev := some x.rate, lastResult := .accepted }

/-- R90: the ramp states in which a START job delivers; FALLBACK, which a START job never finds, is not among
them. -/
def RampState.takesStart (st : RampState) : Bool := st.active && !st.fallbackOrHeld

/-- R126: the delivery of a first period to a METERING ramp that awaits it brings the clock to DUE. -/
def State.firstPeriod (k : Fin 4) (s : State) : State :=
  if (s.ramp k).state = .metering ∧ (s.ramp k).clock.awaiting then s.comeDue k else s

/-- R90, R103: a START job's outcome reaches its ramp. -/
def State.startDelivered (k : Fin 4) (x : Option Snapshot) (carried : Option Nat) (s : State) : State :=
  match x with
  | none => s
  | some x =>
    if (s.ramp k).state = .dark then s
    else
      let res := computeStart x carried
      let s1 := s.updRamp k (fun r => r.recordFlags res.flags)
      if (s.ramp k).state.takesStart then
        let s2 := if (res.flags.inter x.plan.unmasked).any then s1.jobFault k .start x res.flags else s1
        (s2.updRamp k (fun r => r.deliverStart res)).firstPeriod k
      else s1

/-- START_JOB_COMPLETION (R90): the running job, a START job, completes. -/
def execStartJobCompletion (s : State) : Host.Outcome State Fault Refusal :=
  State.ends (match s.rcu, s.jobs with
    | .busy x, ⟨k, .start carried⟩ :: _ => State.settled s (s.startDelivered k x carried).jobLeft
    | _, _ => s)

end Sys2Proof.Machine
end

