-- ==== Sys2Proof/Machine/RampRequests.lean ====
section
/-! DEFINITION. Commands of the Ramp State Controller (07_ramp_control_states.md): the configuration record, START and
STOP, holds, the warning and clear timers, and the share record. -/

namespace Sys2Proof.Machine

/-! ## Configuration -/

/-- The heads of ramp `k`, in the order of R146. -/
def rampHeads (k : Fin 4) : List (Fin 4 × Fin 3) := allLanes.map (fun l => (k, l))

/-- R106: a used lane made open. -/
def Lane.opened (x : Lane) : Lane := { x with isOpen := true, closePending := false }

/-- R106, R145: a ramp's record replaced: its used lanes are open and not disabled, its head records fresh. -/
def Ramp.configured (site : Site) (c : RampConfig) (r : Ramp) : Ramp :=
  let r1 := { r with config := some c }
  { r1 with lanes := Three.tabulate (fun l => if r1.used l then (r1.lane l).opened else r1.lane l) }.freshHeads site

/-- R106: a RAMP CONFIG WRITE that passes its checks: the ramp's demands are derived and its SPILL entries' sources
resolved (R17); its spill, clear in DARK, is not evaluated (R20). -/
def State.configTaken (k : Fin 4) (c : RampConfig) (s : State) : State :=
  State.settleHeads s (rampHeads k)
    (((s.updRamp k (Ramp.configured s.site c)).deriveAllDemands k).resolveSources (fun j _ => decide (j = k)))

/-- R106: the effect of RAMP CONFIG WRITE. -/
def State.configWritten (q : Request) (rec : ConfigRecord) (k : Fin 4) (s : State) : State :=
  if (s.ramp k).state ≠ .dark then s.reply q 0x30 .wrongState []
  else
    match s.configFault k rec with
    | some n => s.badValue q 0x30 n
    | none => (s.configTaken k (configOf rec)).reply q 0x30 .done []

/-- RAMP_CONFIG_WRITE (R106). -/
def execRampConfigWrite (q : Request) (rec : ConfigRecord) (s : State) : Host.Outcome State Fault Refusal :=
  s.acting (.rampConfigWrite q rec) (State.onRamp q 0x30 (State.configWritten q rec))

/-- R106: the effect of RAMP CONFIG READ. -/
def State.configRead (q : Request) (k : Fin 4) (s : State) : State :=
  match (s.ramp k).config with
  | none => s.reply q 0x31 .wrongState []
  | some c => s.reply q 0x31 .done c.record.bytes

/-- RAMP_CONFIG_READ (R106). -/
def execRampConfigRead (q : Request) (s : State) : Host.Outcome State Fault Refusal :=
  s.acting (.rampConfigRead q) (State.onRamp q 0x31 (State.configRead q))

/-! ## START -/

/-- R108: the checks of a START of ramp `k` after the subject's; none where every check holds. -/
def State.startRefusal (s : State) (k : Fin 4) : Option Result :=
  let r := s.ramp k
  if r.state ≠ .dark then some .wrongState
  else if r.config.isNone then some .wrongState
  else if (s.topPlan k).isNone then some .wrongState
  else if r.inService = false then some .wrongState
  else if s.hasJob k then some .busy
  else none

/-- R109, R153, R154: a head record at START: its lane enabled, its silence timer started. -/
def Head.started (timeout : Nat) (h : Head) : Head := { h with disabled := none, silence := some timeout }

/-- R109 items 1 to 4: what START does to the ramp itself. -/
def Ramp.started (c : RampConfig) (r : Ramp) : Ramp :=
  { r with
    state := .starting, carriedRate := none, intervalTimer := some c.interval, warningTimer := some c.warning,
    heads := Three.tabulate (fun l => (r.head l).map (Head.started c.headTimeout)) }

/-- R115: START reads the hold input as it stands. -/
def Ramp.heldAtStart (r : Ramp) : Bool :=
  r.holdInput && (match r.holdMode with
    | some .level => true
    | some .latched => true
    | _ => false)

/-- R109 item 5, R115, R116: the hold sources at START. -/
def State.holdAtStart (k : Fin 4) (s : State) : State :=
  if (s.ramp k).heldAtStart then (s.updRamp k (fun r => { r with inputHold := true })).holdSet k else s

/-- R102: the flags of a loaded start fault that are UNMASKED in the top plan as it stands; none where the
fault was loaded by its field alone. -/
def StartFault.shown (f : StartFault) (p : Option Plan) : Flags :=
  match p with
  | some p => if f.judged then f.flags.inter p.unmasked else .none
  | none => .none

/-- R109 item 6, R101, R102: a set start fault becomes fault pending, with a FAULT notice of cause LOAD. -/
def State.loadFault (k : Fin 4) (s : State) : State :=
  match (s.ramp k).startFault with
  | none => s
  | some f =>
    (s.updRamp k (fun r => { r.setFaultPending with startFault := none })).offerFault k .load f.flags
      (f.shown (s.topPlan k)) (s.ramp k).top

/-- R109, R89, R9: START of ramp `k`, whose configuration is `c`, is taken. -/
def State.startTaken (k : Fin 4) (c : RampConfig) (s : State) : State :=
  let s1 : State := { s with jobs := s.jobs ++ [⟨k, .start (s.ramp k).carriedRate⟩] }
  let s2 := ((s1.updRamp k (Ramp.started c)).resetMarks k).offerRamp k .dark .start
  (s2.holdAtStart k).loadFault k

/-- R108, R109: the effect of START. -/
def State.started (q : Request) (k : Fin 4) (s : State) : State :=
  match s.startRefusal k, (s.ramp k).config with
  | some r, _ => s.reply q 0x32 r []
  | none, none => s.reply q 0x32 .wrongState []
  | none, some c => (State.settled s (s.startTaken k c)).reply q 0x32 .done []

/-- START (R109). -/
def execStart (q : Request) (s : State) : Host.Outcome State Fault Refusal :=
  s.acting (.start q) (State.onRamp q 0x32 (State.started q))

/-! ## STOP -/

/-- R111, R112: the clear timer starts at entry to CLEARING; with a clear time of 0 the ramp goes on to
DARK. -/
def State.clearStarted (k : Fin 4) (clear : Nat) (s : State) : State :=
  if (s.ramp k).state ≠ .clearing then s
  else if clear = 0 then (s.enterDark k).rampChanged k .clearing .clearEnd
  else s.updRamp k (fun r => { r with clearTimer := some clear })

/-- The clear time of the ramp's record. -/
def Ramp.clearTime (r : Ramp) : Nat :=
  match r.config with
  | some c => c.clear
  | none => 0

/-- R111: a ramp that is STARTING, METERING, FALLBACK or SUSPENDED is stopped. -/
def State.stopTaken (k : Fin 4) (s : State) : State :=
  let s1 := (s.updRamp k Ramp.toClearing).rampChanged k (s.ramp k).state .stop
  (State.landed k s s1).clearStarted k (s.ramp k).clearTime

/-- R111: the effect of STOP. -/
def State.stopped (q : Request) (k : Fin 4) (s : State) : State :=
  if (s.ramp k).state.active then (State.settled s (s.stopTaken k)).reply q 0x33 .done []
  else s.reply q 0x33 .done []

/-- STOP (R111). -/
def execStop (q : Request) (s : State) : Host.Outcome State Fault Refusal :=
  s.acting (.stop q) (State.onRamp q 0x33 (State.stopped q))

/-! ## Holds -/

/-- R114: the effect of HOLD. -/
def State.held (q : Request) (k : Fin 4) (s : State) : State :=
  if (s.ramp k).state.active then
    (State.settled s ((s.updRamp k (fun r => { r with requestHold := true })).holdSet k)).reply q 0x34 .done []
  else s.reply q 0x34 .wrongState []

/-- HOLD (R114). -/
def execHold (q : Request) (s : State) : Host.Outcome State Fault Refusal :=
  s.acting (.hold q) (State.onRamp q 0x34 (State.held q))

/-- R114: RELEASE clears the request hold, and a LATCHED input hold. -/
def Ramp.released (r : Ramp) : Ramp :=
  { r with requestHold := false, inputHold := if r.holdMode = some .latched then false else r.inputHold }

/-- R114, R117: the effect of RELEASE. -/
def State.released (q : Request) (k : Fin 4) (s : State) : State :=
  (State.settled s ((s.updRamp k Ramp.released).holdEnded k)).reply q 0x35 .done []

/-- RELEASE (R114). -/
def execRelease (q : Request) (s : State) : Host.Outcome State Fault Refusal :=
  s.acting (.release q) (State.onRamp q 0x35 (State.released q))

/-- R115: the input hold at an assertion of the input. -/
def State.inputAsserted (k : Fin 4) (s : State) : State :=
  let r := s.ramp k
  if r.state.active then
    match r.holdMode with
    | some .level => (s.updRamp k (fun r => { r with inputHold := true })).holdSet k
    | some .latched => (s.updRamp k (fun r => { r with inputHold := true })).holdSet k
    | _ => s
  else s

/-- RAMP_HOLD_INPUT_ASSERTED (R115); an assertion of an asserted input is no event (DESIGN CHOICE, log 20). -/
def execRampHoldInputAsserted (k : Fin 4) (s : State) : Host.Outcome State Fault Refusal :=
  State.ends (if (s.ramp k).holdInput then s
    else State.settled s ((s.updRamp k (fun r => { r with holdInput := true })).inputAsserted k))

/-- R115: the input hold at a deassertion of the input. -/
def State.inputDeasserted (k : Fin 4) (s : State) : State :=
  let r := s.ramp k
  if r.state.active then
    match r.holdMode with
    | some .level => (s.updRamp k (fun r => { r with inputHold := false })).holdEnded k
    | _ => s
  else s

/-- RAMP_HOLD_INPUT_DEASSERTED (R115). -/
def execRampHoldInputDeasserted (k : Fin 4) (s : State) : Host.Outcome State Fault Refusal :=
  State.ends (if (s.ramp k).holdInput then
      State.settled s ((s.updRamp k (fun r => { r with holdInput := false })).inputDeasserted k)
    else s)

/-! ## Warning and clear timers -/

/-- R110: the ramp enters METERING. -/
def State.warningEnded (k : Fin 4) (s : State) : State :=
  let s1 := (s.updRamp k (fun r => { r with state := .metering, warningTimer := none })).rampChanged k
    (s.ramp k).state .warningEnd
  s1.beginMetering k

/-- WARNING_TIMER_EXPIRY (R110). -/
def execWarningTimerExpiry (k : Fin 4) (s : State) : Host.Outcome State Fault Refusal :=
  State.ends (if (s.ramp k).state = .starting ∧ (s.ramp k).warningTimer.isSome then State.settled s (s.warningEnded k)
    else s)

/-- CLEAR_TIMER_EXPIRY (R112). -/
def execClearTimerExpiry (k : Fin 4) (s : State) : Host.Outcome State Fault Refusal :=
  State.ends (if (s.ramp k).state = .clearing ∧ (s.ramp k).clearTimer.isSome then
      State.settled s ((s.enterDark k).rampChanged k (s.ramp k).state .clearEnd)
    else s)

/-! ## The share record -/

/-- R118: the share record that a reduction and a lifetime give. -/
def shareOf (reduction lifetime : Nat) : Share := ⟨saturate 5400 reduction, lifetime, false⟩

/-- R118: the effect of SHARE; the item of a bad lifetime is not stated (DESIGN CHOICE, log 7). -/
def State.shared (q : Request) (reduction lifetime : Nat) (k : Fin 4) (s : State) : State :=
  if within 1 15 lifetime = false then s.badValueUnstated q 0x39
  else if (s.ramp k).state.active then
    (s.updRamp k (fun r => { r with share := some (shareOf reduction lifetime) })).reply q 0x39 .done
      (u16 (saturate 5400 reduction) ++ [u8 lifetime])
  else s.reply q 0x39 .wrongState []

/-- SHARE (R118). -/
def execShare (q : Request) (reduction lifetime : Nat) (s : State) : Host.Outcome State Fault Refusal :=
  s.acting (.share q reduction lifetime) (State.onRamp q 0x39 (State.shared q reduction lifetime))

end Sys2Proof.Machine
end

