-- ==== Sys2Proof/Machine/LaneCommands.lean ====
section
/-! DEFINITION. Commands of the Release Timing Unit (08_release_clock_and_lane_cycles.md): LANE CLOSE and LANE OPEN, the
release due, and the ends of a lane's timed states. -/

namespace Sys2Proof.Machine

/-! ## LANE CLOSE and LANE OPEN -/

/-- R140, R142: the first three checks of LANE CLOSE and LANE OPEN, then `f` on the lane; the item of a bad
lane number is not stated (DESIGN CHOICE, log 7). -/
def State.onLane (q : Request) (code lane : Nat) (k : Fin 4) (f : Fin 3 → State → State) (s : State) : State :=
  if h : lane < 3 then
    if (s.ramp k).config.isNone then s.reply q code .wrongState []
    else if (s.ramp k).used ⟨lane, h⟩ = false then s.badValueUnstated q code
    else f ⟨lane, h⟩ s
  else s.badValueUnstated q code

/-- R140: some used lane other than `l` is open and not close pending. -/
def Ramp.otherOpen (r : Ramp) (l : Fin 3) : Bool :=
  allLanes.any (fun j => j != l && r.used j && (r.lane j).isOpen && !(r.lane j).closePending)

/-- R141: a closure of lane `l` lands. -/
def Ramp.closeLane (r : Ramp) (l : Fin 3) : Ramp := (r.updLane l (fun x => { x with closePending := true })).laneOff l

/-- R140: a LANE CLOSE that passes: at once where the lane holds no green window, else close pending. -/
def State.closeTaken (k : Fin 4) (l : Fin 3) (s : State) : State :=
  if ((s.ramp k).lane l).cycle.busy then
    s.updRamp k (fun r => r.updLane l (fun x => { x with closePending := true }))
  else State.landed k s (s.updRamp k (fun r => r.closeLane l))

/-- R140: the last checks of LANE CLOSE, and its effect. -/
def State.laneClosed (q : Request) (k : Fin 4) (l : Fin 3) (s : State) : State :=
  let r := s.ramp k
  let x := r.lane l
  if x.isOpen = false ∨ x.closePending = true then s.reply q 0x37 .done []
  else if r.state ≠ .dark ∧ r.otherOpen l = false then s.reply q 0x37 .wrongState []
  else (State.settled s (s.closeTaken k l)).reply q 0x37 .done []

/-- LANE_CLOSE (R140). -/
def execLaneClose (q : Request) (lane : Nat) (s : State) : Host.Outcome State Fault Refusal :=
  s.acting (.laneClose q lane) (State.onRamp q 0x37 (fun k => State.onLane q 0x37 lane k (State.laneClosed q k)))

/-- R142: the lane is opened and enabled. -/
def Ramp.openLane (r : Ramp) (l : Fin 3) : Ramp :=
  (r.updLane l Lane.opened).updHead l (fun h => { h with disabled := none })

/-- R142: an OFF lane of a ramp that meters, or is held from metering, enters RED. -/
def Ramp.redAtOpen (r : Ramp) (l : Fin 3) (p : Plan) : Ramp :=
  if (r.lane l).cycle = .off ∧ r.state.metersOrHeld then r.updLane l (Lane.redFromOff p) else r

/-- R142: the effect of LANE OPEN; an open lane that is neither close pending nor disabled is left as it is. -/
def State.laneOpened (q : Request) (k : Fin 4) (l : Fin 3) (s : State) : State :=
  let x := (s.ramp k).lane l
  if x.isOpen = true ∧ x.closePending = false ∧ (s.ramp k).disabled l = false then s.reply q 0x38 .done []
  else
    let s1 := s.updRamp k (fun r => r.openLane l)
    (State.settled s (s1.withPlan k (fun p r => r.redAtOpen l p))).reply q 0x38 .done []

/-- LANE_OPEN (R142). -/
def execLaneOpen (q : Request) (lane : Nat) (s : State) : Host.Outcome State Fault Refusal :=
  s.acting (.laneOpen q lane) (State.onRamp q 0x38 (fun k => State.onLane q 0x38 lane k (State.laneOpened q k)))

/-! ## The release due -/

/-- R124: the clock is RUNNING and not frozen. -/
def Clock.counting (c : Clock) : Bool :=
  match c.state with
  | .running _ => !c.frozen
  | _ => false

/-- RELEASE_DUE (R124). -/
def execReleaseDue (k : Fin 4) (s : State) : Host.Outcome State Fault Refusal :=
  State.ends (if (s.ramp k).clock.counting then State.settled s (s.comeDue k) else s)

/-! ## The ends of timed states -/

/-- R132, R140, R125: after a lane of ramp `k` left a timed state since `s0`: the NO_LANE test of a closure
that landed, the waiting pick, and the heads. -/
def State.cycleMoved (k : Fin 4) (s0 s : State) : State := State.settled s0 (State.rerunFreed s0 (State.landed k s0 s))

/-- The lane is in GREEN. -/
def LaneCycle.isGreen (c : LaneCycle) : Bool :=
  match c with
  | .green _ => true
  | _ => false

/-- The lane is in AMBER. -/
def LaneCycle.isAmber (c : LaneCycle) : Bool :=
  match c with
  | .amber _ => true
  | _ => false

/-- The lane is in RED. -/
def LaneCycle.isRed (c : LaneCycle) : Bool :=
  match c with
  | .red _ => true
  | _ => false

/-- GREEN_END (R132). -/
def execGreenEnd (k : Fin 4) (l : Fin 3) (s : State) : Host.Outcome State Fault Refusal :=
  State.ends (if ((s.ramp k).lane l).cycle.isGreen then State.cycleMoved k s (s.updRamp k (fun r => r.endGreen l)) else s)

/-- AMBER_END (R132). -/
def execAmberEnd (k : Fin 4) (l : Fin 3) (s : State) : Host.Outcome State Fault Refusal :=
  State.ends (if ((s.ramp k).lane l).cycle.isAmber then State.cycleMoved k s (s.updRamp k (fun r => r.endWindow l)) else s)

/-- RED_END (R132, R135, R125): the lane enters READY and a waiting pick is made again. -/
def execRedEnd (k : Fin 4) (l : Fin 3) (s : State) : Host.Outcome State Fault Refusal :=
  State.ends (if ((s.ramp k).lane l).cycle.isRed then
      State.settled s ((s.updRamp k (fun r => r.enterReady l)).rerunPick k)
    else s)

/-- GRACE_TIME_EXPIRY (R132): the grace time becomes absent. -/
def execGraceTimeExpiry (k : Fin 4) (l : Fin 3) (s : State) : Host.Outcome State Fault Refusal :=
  State.ends (s.updRamp k (fun r => r.updLane l (fun x => { x with grace := none })))

end Sys2Proof.Machine
end

