-- ==== Sys2Proof/Machine/HeadCommands.lean ====
section
/-! DEFINITION. Commands of the Head Link Controller (09_signal_heads.md): head status frames and the refresh, confirm and
silence timers. -/

namespace Sys2Proof.Machine

/-! ## Head status frames -/

/-- The heads used at a driver, in the order of R146. -/
def State.headsAt (s : State) (driver : Nat) : List (Fin 4 × Fin 3) :=
  allHeads.filter (fun x =>
    match (s.ramp x.1).laneConfig x.2 with
    | some c => decide (c.driver = driver)
    | none => false)

/-- R151, R177: the frame is acted on. -/
def State.statusActedOn (s : State) (dst src count : Nat) (records : List StatusRecord) : Bool :=
  decide (dst = s.ownAddress) && within 1 8 count && decide (records.length = count) &&
  !(s.headsAt src).isEmpty

/-- R151 step 1: the silence timer of a head at the driver restarts, while its ramp is not DARK. -/
def Ramp.hear (r : Ramp) (l : Fin 3) : Ramp :=
  match r.config with
  | some c =>
    if r.state = .dark then r else r.updHead l (fun h => { h with silence := some c.headTimeout })
  | none => r

/-- R151 step 1, for every head used at the driver. -/
def State.driverHeard (src : Nat) (s : State) : State :=
  (s.headsAt src).foldl (fun t x => t.updRamp x.1 (fun r => r.hear x.2)) s

/-- R151 step 2: the record names a head used at the driver and one of the five aspects. -/
def State.statusRecordOk (s : State) (src : Nat) (r : StatusRecord) : Bool :=
  (Aspect.ofCode r.aspect).isSome && decide (r.output ≤ 3) &&
  (s.headsAt src).any (fun x =>
    match (s.ramp x.1).laneConfig x.2 with
    | some c => decide (c.output = r.output)
    | none => false)

/-- R151 step 2: the records that survive screening; `seen` holds the outputs of the earlier records. -/
def State.screenStatus (s : State) (src : Nat) (seen : List Nat) (records : List StatusRecord) : List StatusRecord :=
  match records with
  | [] => []
  | r :: rest =>
    if s.statusRecordOk src r && !seen.contains r.output then r :: s.screenStatus src (r.output :: seen) rest
    else s.screenStatus src (r.output :: seen) rest

/-- The screened record that reports the head of lane `x.2` of ramp `x.1`. -/
def State.reportOn (s : State) (src : Nat) (screened : List StatusRecord) (x : Fin 4 × Fin 3) :
    Option StatusRecord :=
  match (s.ramp x.1).laneConfig x.2 with
  | some c => if c.driver = src then screened.find? (fun r => r.output == c.output) else none
  | none => none

/-- R152: the judged heads with their records, in the order of R146. -/
def State.judged (s : State) (src : Nat) (screened : List StatusRecord) :
    List ((Fin 4 × Fin 3) × StatusRecord) :=
  allHeads.filterMap (fun x => (s.reportOn src screened x).map (fun r => (x, r)))

/-- R152 pass 1: each judged head's lamp fault set is replaced. -/
def State.lampsReported (judged : List ((Fin 4 × Fin 3) × StatusRecord)) (s : State) : State :=
  judged.foldl (fun s p => s.updRamp p.1.1 (fun r => r.updHead p.1.2 (fun h => { h with lamps := .ofCode p.2.lamps }))) s

/-- R152 pass 2: the ramps with a judged head that reports a red lamp fault. -/
def redRamps (judged : List ((Fin 4 × Fin 3) × StatusRecord)) : List (Fin 4) :=
  (judged.filter (fun p => (Lamps.ofCode p.2.lamps).red)).map (fun p => p.1.1)

/-- R152 pass 2: each such ramp that is not DARK goes DARK. -/
def State.redsTaken (reds : List (Fin 4)) (s : State) : State :=
  allRamps.foldl (fun s k => if reds.contains k && decide ((s.ramp k).state ≠ .dark) then s.enterDark k else s) s

/-- R152: the table of shown aspects; `sent` is the aspect last sent before the event. After a confirm expiry whose DARK
was queued the record is valid again (R147), and a frame is compared with that DARK, which it may confirm; only where the
queue turned the DARK away does it find no aspect last sent, as R150 says: DEDUCED, log 33. -/
def State.compareShown (x : Fin 4 × Fin 3) (shown : Option Aspect) (s : State) : State :=
  match (s.ramp x.1).head x.2 with
  | none => s
  | some h =>
    match h.sent with
    | none => s
    | some sent =>
      if shown = some sent then s.updRamp x.1 (fun r => r.updHead x.2 (fun h => { h with confirm := none }))
      else if h.confirm.isSome then s
      else (s.updRamp x.1 (fun r => r.updHead x.2 Head.invalid)).disableLane x.1 x.2 .confirm

/-- R152 pass 3 for one judged head. -/
def State.judgeHead (s : State) (p : (Fin 4 × Fin 3) × StatusRecord) : State :=
  let lamps := Lamps.ofCode p.2.lamps
  if (lamps.amber || lamps.green) && !(s.ramp p.1.1).disabled p.1.2 then s.disableLane p.1.1 p.1.2 .lamp
  else s.compareShown p.1 (Aspect.ofCode p.2.aspect)

/-- The heads whose record became not valid since `s0`. -/
def State.invalidated (s0 s : State) : List (Fin 4 × Fin 3) :=
  allHeads.filter (fun x =>
    match (s0.ramp x.1).head x.2, (s.ramp x.1).head x.2 with
    | some h0, some h => h0.sent.isSome && h.sent.isNone
    | _, _ => false)

/-- R155: the cause of the notice of a judged head, if one is due: RED_LAMP (3) before the cause of a
disable. A red fault counts where it took the ramp DARK or entered the set of a DARK ramp's head. -/
def judgedCause (s0 s : State) (p : (Fin 4 × Fin 3) × StatusRecord) : Option Nat :=
  let red := (Lamps.ofCode p.2.lamps).red
  let redBefore := match (s0.ramp p.1.1).head p.1.2 with
    | some h => h.lamps.red
    | none => false
  if red && (decide ((s0.ramp p.1.1).state ≠ .dark) || !redBefore) then some 3
  else (disabledSince s0 s p.1).map DisableCause.code

/-- R155: the HEAD notices of a status frame. -/
def State.statusNotices (s0 : State) (judged : List ((Fin 4 × Fin 3) × StatusRecord)) (s : State) : State :=
  judged.foldl (fun s p =>
    match judgedCause s0 s p with
    | some cause => s.offerHeadNotice p.1.1 p.1.2 cause (Aspect.ofCode p.2.aspect)
    | none => s) s

/-- R151, R152, R155, R113: a status frame that is acted on. -/
def State.statusTaken (src : Nat) (records : List StatusRecord) (s : State) : State :=
  let screened := s.screenStatus src [] records
  let judged := s.judged src screened
  let reds := redRamps judged
  let s1 := ((s.driverHeard src).lampsReported judged).redsTaken reds
  let s2 := judged.foldl State.judgeHead s1
  let s3 := State.rerunFreed s s2
  let s4 := State.settleHeads s (State.invalidated s s3) s3
  State.darkNotices s reds (State.statusNotices s judged s4)

/-- HEAD_STATUS (R151). -/
def execHeadStatus (dst src count : Nat) (records : List StatusRecord) (s : State) :
    Host.Outcome State Fault Refusal :=
  s.acting (.headStatus dst src count records) (fun s =>
    if s.statusActedOn dst src count records then s.statusTaken src records else s)

/-! ## Timers -/

/-- REFRESH_TIMER_EXPIRY (R148): a command with the target as it stands is offered, and the timer restarts. -/
def execRefreshTimerExpiry (k : Fin 4) (l : Fin 3) (s : State) : Host.Outcome State Fault Refusal :=
  State.ends ((s.offerHead k l).updRamp k (fun r => r.updHead l (fun h => { h with refresh := s.site.refresh })))

/-- After an event disabled lanes since `s0`: the waiting picks, the heads (those of `fresh` became not
valid), the HEAD notices and the RAMP notices (R154, R155, R113). -/
def State.disableEnds (s0 : State) (fresh : List (Fin 4 × Fin 3)) (s : State) : State :=
  State.darkNotices s0 [] (State.disableNotices s0 (State.settleHeads s0 fresh (State.rerunFreed s0 s)))

/-- R150: the driver has not confirmed in time. That a lane which is disabled already has its record made not valid and
DARK offered again too (R150, R149), each time with a new confirm timer, the disable alone being left out where R153 says
that the expiry changes nothing further, is DEDUCED, log 32. -/
def State.confirmFailed (k : Fin 4) (l : Fin 3) (s : State) : State :=
  State.disableEnds s [(k, l)] ((s.updRamp k (fun r => r.updHead l Head.invalid)).disableLane k l .confirm)

/-- The confirm timer of the head of lane `l` runs. -/
def Ramp.confirming (r : Ramp) (l : Fin 3) : Bool :=
  match r.head l with
  | some h => h.confirm.isSome
  | none => false

/-- CONFIRM_TIMER_EXPIRY (R150). -/
def execConfirmTimerExpiry (k : Fin 4) (l : Fin 3) (s : State) : Host.Outcome State Fault Refusal :=
  State.ends (if (s.ramp k).confirming l then s.confirmFailed k l else s)

/-- The silence timer of the head of lane `l` runs. -/
def Ramp.listening (r : Ramp) (l : Fin 3) : Bool :=
  match r.head l with
  | some h => h.silence.isSome
  | none => false

/-- The driver of lane `l`'s head. -/
def Ramp.driverOf (r : Ramp) (l : Fin 3) : Option Nat := (r.laneConfig l).map (fun c => c.driver)

/-- R153: the lanes of the ramp whose silence timers expire with that of lane `l`: those of its driver that
run. -/
def Ramp.silentWith (r : Ramp) (l : Fin 3) : List (Fin 3) :=
  allLanes.filter (fun j => r.listening j && decide (r.driverOf j = r.driverOf l))

/-- R153: the silence timers of the lanes expire, and the lanes are disabled. -/
def State.silenceExpired (k : Fin 4) (lanes : List (Fin 3)) (s : State) : State :=
  let s1 := s.updRamp k (fun r => lanes.foldl (fun r l => r.updHead l (fun h => { h with silence := none })) r)
  State.disableEnds s [] (lanes.foldl (fun s l => s.disableLane k l .silent) s1)

/-- SILENCE_TIMER_EXPIRY (R153). -/
def execSilenceTimerExpiry (k : Fin 4) (l : Fin 3) (s : State) : Host.Outcome State Fault Refusal :=
  State.ends (if (s.ramp k).listening l then s.silenceExpired k ((s.ramp k).silentWith l) else s)

end Sys2Proof.Machine
end

