-- ==== Sys2Proof/Machine/StatusRequests.lean ====
section
/-! DEFINITION. Requests of Status and Fault Logic (06_computation_status_and_faults.md) and the context transfer
(11 R173, R174): STATUS READ, STATUS CLEAR, RESUME, CONTEXT DUMP, CONTEXT LOAD. -/

namespace Sys2Proof.Machine

/-- R92, R180: the body of a STATUS READ reply. -/
def Ramp.statusBody (r : Ramp) : List Byte :=
  [u8 r.state.code, u8 r.state.returnCode, u8 r.sticky.code, u8 r.last.code, u8 r.lastResult.code,
   u8 (bitValue r.faultPending 1), u8 r.recovery, u8 (bitValue r.startFault.isSome 1)]

/-- STATUS_READ (R92). -/
def execStatusRead (q : Request) (s : State) : Host.Outcome State Fault Refusal :=
  s.acting (.statusRead q) (State.onRamp q 0x40 (fun k s => s.reply q 0x40 .done (s.ramp k).statusBody))

/-- R93: the effect of STATUS CLEAR. -/
def State.statusCleared (q : Request) (k : Fin 4) (s : State) : State :=
  (s.updRamp k (fun r => { r with sticky := .none })).reply q 0x41 .done []

/-- STATUS_CLEAR (R93). -/
def execStatusClear (q : Request) (s : State) : Host.Outcome State Fault Refusal :=
  s.acting (.statusClear q) (State.onRamp q 0x41 (State.statusCleared q))

/-! ## RESUME -/

/-- R100: the period that RESUME stages; the period converted from r_init also serves a ramp whose last
result is ACCEPTED and that holds no computed period, which no run reaches (DEDUCED, log 22). -/
def Ramp.resumeChoice (r : Ramp) (p : Plan) : Nat :=
  match r.lastResult, r.clock.computed with
  | .accepted, some c => c
  | _, _ => resumePeriod p r.openLanes

/-- R100: a RETURN period is staged and fault pending cleared. -/
def Ramp.resumed (p : Plan) (r : Ramp) : Ramp :=
  { (r.stage (r.resumeChoice p) .returning) with faultPending := false }

/-- R100: the effect of RESUME. -/
def State.resumed (q : Request) (k : Fin 4) (s : State) : State :=
  if (s.ramp k).state = .fallback then (s.withPlan k Ramp.resumed).reply q 0x36 .done []
  else s.reply q 0x36 .wrongState []

/-- RESUME (R100). -/
def execResume (q : Request) (s : State) : Host.Outcome State Fault Refusal :=
  s.acting (.resume q) (State.onRamp q 0x36 (State.resumed q))

/-! ## Context transfer -/

/-- R173, DESIGN CHOICE, log 7: two bytes the manual does not state, as the field they stand in. -/
def State.freeWord (s : State) : Nat :=
  (Config.unstatedByte s.freeCount).toNat * 256 + (Config.unstatedByte (s.freeCount + 1)).toNat

/-- R173: the effect of CONTEXT DUMP. -/
def State.contextDumped (q : Request) (k : Fin 4) (s : State) : State :=
  if s.hasJob k then s.reply q 0x42 .busy []
  else
    let s1 := s.reply q 0x42 .done ((s.ramp k).context s.freeWord).bytes
    if (s.ramp k).share.isNone then s1.drew 2 else s1

/-- CONTEXT_DUMP (R173). -/
def execContextDump (q : Request) (s : State) : Host.Outcome State Fault Refusal :=
  s.acting (.contextDump q) (State.onRamp q 0x42 (State.contextDumped q))

/-- R101: the start fault that a loaded record sets, judged against the loaded stack's top plan. -/
def loadedFault (rec : ContextRecord) (p : Option Plan) : Option StartFault :=
  let sticky := Flags.ofCode rec.sticky
  let judged := match p with
    | some p => (sticky.inter p.unmasked).any
    | none => false
  if rec.bits.testBit 1 || judged then some ⟨sticky, judged⟩ else none

/-- R174: the share record that a loaded record carries. -/
def loadedShare (rec : ContextRecord) : Option Share :=
  if rec.lifetime = 0 then none else some (shareOf rec.reduction rec.lifetime)

/-- R174: the starvation counts a loaded record carries, lane 0 first. -/
def loadedCount (rec : ContextRecord) (l : Fin 3) : Nat :=
  match l with
  | 0 => rec.starvation0
  | 1 => rec.starvation1
  | 2 => rec.starvation2

/-- R174, R101: what a taken CONTEXT LOAD writes into the ramp; `p` is the loaded stack's top plan. -/
def Ramp.loaded (rec : ContextRecord) (p : Option Plan) (r : Ramp) : Ramp :=
  { r with
    carriedRate := if rec.rPrev = 0xFFFF then none else some rec.rPrev,
    stack := contextStack rec, share := loadedShare rec, sticky := .ofCode rec.sticky,
    last := .ofCode rec.last, recovery := rec.recovery, lastResult := .none,
    startFault := loadedFault rec p,
    lanes := Three.tabulate (fun l => { r.lane l with starvation := loadedCount rec l }),
    pointer := Fin.ofNat 3 rec.pointer }

/-- R174: the record of the top plan of the stack a record carries. -/
def State.loadedPlan (s : State) (rec : ContextRecord) : Option Plan :=
  match (contextStack rec).getLast? with
  | some p => s.plans.get p
  | none => none

/-- R174: the effect of CONTEXT LOAD. -/
def State.contextLoaded (q : Request) (rec : ContextRecord) (k : Fin 4) (s : State) : State :=
  if (s.ramp k).state ≠ .dark then s.reply q 0x43 .wrongState []
  else if s.hasJob k then s.reply q 0x43 .busy []
  else
    match s.contextFault rec with
    | some n => s.badValue q 0x43 n
    | none => (s.updRamp k (Ramp.loaded rec (s.loadedPlan rec))).reply q 0x43 .done []

/-- CONTEXT_LOAD (R174). -/
def execContextLoad (q : Request) (rec : ContextRecord) (s : State) : Host.Outcome State Fault Refusal :=
  s.acting (.contextLoad q rec) (State.onRamp q 0x43 (State.contextLoaded q rec))

end Sys2Proof.Machine
end

