-- ==== Sys2Proof/Machine/Dispatch.lean ====
section
/-! DEFINITION. The meaning of each command: one arm per row of spec/opcode_table.json, one direct call each. -/

namespace Sys2Proof.Machine

def exec (i : Instr) (s : State) : Host.Outcome State Fault Refusal :=
  match i with
  | .hardReset straps signal => Sys2Proof.Machine.execHardReset straps signal s
  | .linkSignalLost => Sys2Proof.Machine.execLinkSignalLost s
  | .linkSignalRegained => Sys2Proof.Machine.execLinkSignalRegained s
  | .txholdAsserted => Sys2Proof.Machine.execTxholdAsserted s
  | .txholdDeasserted => Sys2Proof.Machine.execTxholdDeasserted s
  | .rampHoldInputAsserted k => Sys2Proof.Machine.execRampHoldInputAsserted k s
  | .rampHoldInputDeasserted k => Sys2Proof.Machine.execRampHoldInputDeasserted k s
  | .frameReceived bytes => Sys2Proof.Machine.execFrameReceived bytes s
  | .transmitStart => Sys2Proof.Machine.execTransmitStart s
  | .transmitEnd => Sys2Proof.Machine.execTransmitEnd s
  | .scanFrame src span count records => Sys2Proof.Machine.execScanFrame src span count records s
  | .headStatus dst src count records => Sys2Proof.Machine.execHeadStatus dst src count records s
  | .requestFormatReject src tag payload => Sys2Proof.Machine.execRequestFormatReject src tag payload s
  | .identify q => Sys2Proof.Machine.execIdentify q s
  | .siteWrite q rec => Sys2Proof.Machine.execSiteWrite q rec s
  | .siteRead q => Sys2Proof.Machine.execSiteRead q s
  | .healthLimitsWrite q rec => Sys2Proof.Machine.execHealthLimitsWrite q rec s
  | .healthLimitsRead q => Sys2Proof.Machine.execHealthLimitsRead q s
  | .detectorWrite q entries => Sys2Proof.Machine.execDetectorWrite q entries s
  | .detectorRead q count view => Sys2Proof.Machine.execDetectorRead q count view s
  | .forceOut q => Sys2Proof.Machine.execForceOut q s
  | .restore q => Sys2Proof.Machine.execRestore q s
  | .planWrite q rec => Sys2Proof.Machine.execPlanWrite q rec s
  | .planRead q => Sys2Proof.Machine.execPlanRead q s
  | .push q plan => Sys2Proof.Machine.execPush q plan s
  | .pop q => Sys2Proof.Machine.execPop q s
  | .setBase q plan => Sys2Proof.Machine.execSetBase q plan s
  | .rampConfigWrite q rec => Sys2Proof.Machine.execRampConfigWrite q rec s
  | .rampConfigRead q => Sys2Proof.Machine.execRampConfigRead q s
  | .start q => Sys2Proof.Machine.execStart q s
  | .stop q => Sys2Proof.Machine.execStop q s
  | .hold q => Sys2Proof.Machine.execHold q s
  | .release q => Sys2Proof.Machine.execRelease q s
  | .resume q => Sys2Proof.Machine.execResume q s
  | .laneClose q lane => Sys2Proof.Machine.execLaneClose q lane s
  | .laneOpen q lane => Sys2Proof.Machine.execLaneOpen q lane s
  | .share q reduction lifetime => Sys2Proof.Machine.execShare q reduction lifetime s
  | .statusRead q => Sys2Proof.Machine.execStatusRead q s
  | .statusClear q => Sys2Proof.Machine.execStatusClear q s
  | .contextDump q => Sys2Proof.Machine.execContextDump q s
  | .contextLoad q rec => Sys2Proof.Machine.execContextLoad q rec s
  | .ringStatus q => Sys2Proof.Machine.execRingStatus q s
  | .ringReset q => Sys2Proof.Machine.execRingReset q s
  | .ringResetEffect => Sys2Proof.Machine.execRingResetEffect s
  | .stationTimerExpiry address => Sys2Proof.Machine.execStationTimerExpiry address s
  | .intervalClose k => Sys2Proof.Machine.execIntervalClose k s
  | .jobStart => Sys2Proof.Machine.execJobStart s
  | .intervalJobCompletion => Sys2Proof.Machine.execIntervalJobCompletion s
  | .startJobCompletion => Sys2Proof.Machine.execStartJobCompletion s
  | .warningTimerExpiry k => Sys2Proof.Machine.execWarningTimerExpiry k s
  | .clearTimerExpiry k => Sys2Proof.Machine.execClearTimerExpiry k s
  | .releaseDue k => Sys2Proof.Machine.execReleaseDue k s
  | .greenEnd k l => Sys2Proof.Machine.execGreenEnd k l s
  | .amberEnd k l => Sys2Proof.Machine.execAmberEnd k l s
  | .redEnd k l => Sys2Proof.Machine.execRedEnd k l s
  | .graceTimeExpiry k l => Sys2Proof.Machine.execGraceTimeExpiry k l s
  | .refreshTimerExpiry k l => Sys2Proof.Machine.execRefreshTimerExpiry k l s
  | .confirmTimerExpiry k l => Sys2Proof.Machine.execConfirmTimerExpiry k l s
  | .silenceTimerExpiry k l => Sys2Proof.Machine.execSilenceTimerExpiry k l s
  | .firstIdleGap => Sys2Proof.Machine.execFirstIdleGap s

end Sys2Proof.Machine
end

