-- ==== Sys2Proof/Machine/Step.lean ====
section
/-! DEFINITION. One step of the block: the command at the front of the waiting commands; with none waiting, the part's own
next step that is due (DESIGN CHOICE, log 2), or nothing. -/

namespace Sys2Proof.Machine

/-- Log 2: the step that the part itself takes next: a command a received frame handed on (R160); else, in a state
that no event left, a start that is due (R71, R162). -/
def State.dueStep (s : State) : Option Instr :=
  match s.handed with
  | c :: _ => some c
  | [] =>
    if s.rcu = .idle ∧ s.jobs.isEmpty = false then some .jobStart
    else if s.mayStart then some .transmitStart
    else none

/-- One step: the command at the front of the queue runs with the queue's rest; on an empty queue the part's
own due step runs, and with none due the block idles. -/
def step (s : State) : Host.Outcome State Fault Refusal :=
  match s.pending with
  | c :: rest => exec c { s with pending := rest }
  | [] =>
    match s.dueStep with
    | some c => exec c s
    | none => .next s

/-- `s` with the command that a word of the opcode table spells put at the front of its queue; the table gives
no row any bits, so no word spells one. -/
def State.withFetchWord (s : State) (nbits w : Nat) : State :=
  match decodeTableWord nbits w with
  | some c => { s with pending := c :: s.pending }
  | none => s

end Sys2Proof.Machine
end

