-- ==== Sys2Proof/Safety.lean ====
section
/-! DEFINITION. What the manual says holds of the part at all times: predicates on states that the statements use. -/

namespace Sys2Proof.Machine

/-- R161, R162: no queue holds more frames than its capacity, and the wait count is at most 4. -/
def State.queuesBounded (s : State) : Prop :=
  s.forward.length ≤ Config.forwardCapacity ∧ s.urgent.length ≤ Config.urgentCapacity ∧
  s.normal.length ≤ Config.normalCapacity ∧ s.waitCount ≤ 4

/-- R38, R42: the plan table holds plans 0-15 in its one canonical form, and each stack holds one to four
entries, each a plan 0-15. -/
def State.stacksBounded (s : State) : Prop :=
  s.plans.wf Config.planRecords = true ∧
  ∀ k, 1 ≤ (s.ramp k).stack.length ∧ (s.ramp k).stack.length ≤ Config.stackDepth ∧
    ∀ p ∈ (s.ramp k).stack, p < Config.planRecords

/-- R42: every ramp that is not DARK has a valid plan on top of its stack, and every stack entry above the base is valid. -/
def State.plansHeld (s : State) : Prop :=
  ∀ k, ((s.ramp k).state ≠ .dark → (s.topPlan k).isSome = true) ∧
    ∀ n ∈ (s.ramp k).stack.drop 1, (s.plans.get n).isSome = true

/-- R134: no ramp has more than one lane in GREEN or AMBER. -/
def State.oneGreenWindow (s : State) : Prop :=
  ∀ k l m, ((s.ramp k).lane l).cycle.busy = true → ((s.ramp k).lane m).cycle.busy = true → l = m

/-- R69: the job queue holds at most one job of each ramp. -/
def State.oneJobEach (s : State) : Prop := (s.jobs.map (fun j => j.ramp)).Nodup

/-- R94, R122, R133, R135: outside metering a ramp's clock is STOPPED and holds no active period, every lane is
OFF and the wait order is empty; a DARK or CLEARING ramp has no staged period and no fault pending. -/
def Ramp.quiet (r : Ramp) : Prop :=
  (r.state.metersOrHeld = false →
    r.clock.state = .stopped ∧ r.clock.active = none ∧ r.clock.frozen = false ∧ r.waitOrder = [] ∧
    ∀ l, (r.lane l).cycle = .off) ∧
  (r.state.active = false → r.clock.staged = none ∧ r.clock.flush = none ∧ r.faultPending = false)

/-- R94: every ramp is quiet. -/
def State.quiet (s : State) : Prop := ∀ k, (s.ramp k).quiet

/-- R3, R6, R7: detector entries 0-63 and station records of node addresses, each table in its one canonical
form; on-time never exceeds the covered span; the station list has a record for exactly the stations that
enabled entries name, never more than 24; and a last resolved source stands for enabled SPILL entries alone (R17). -/
def State.detectorsKept (s : State) : Prop :=
  s.detectors.wf Config.detectorEntries = true ∧ s.stations.wf Config.broadcast = true ∧
  s.stations.rows.length ≤ Config.stationRecords ∧
  (∀ i d, s.detector i = some d → d.onTime ≤ d.span) ∧
  (∀ a, (s.stations.get a).isSome = true ↔ ∃ i d, s.detector i = some d ∧ d.config.station = a) ∧
  s.lastSources.wf Config.detectorEntries = true ∧
  (∀ i, (s.lastSources.get i).isSome = true → ∃ d, s.detector i = some d ∧ d.config.role = .spill)

/-- R105, R145: a head record stands for each used lane and for no other. -/
def State.headsKept (s : State) : Prop := ∀ k l, ((s.ramp k).head l).isSome = (s.ramp k).used l

/-- R147: every head's record is valid and names its target aspect. -/
def State.headsInStep (s : State) : Prop :=
  ∀ k l h, (s.ramp k).head l = some h → h.sent = some ((s.ramp k).target l)

/-- R114 to R117: a ramp is SUSPENDED exactly while one of its hold sources is set. -/
def State.holdsAgree (s : State) : Prop :=
  ∀ k, (s.ramp k).state.isSuspended = ((s.ramp k).requestHold || (s.ramp k).inputHold)

/-! ## What the statements say of a next state -/

/-- R164, R169: the REPLY frame of a request. -/
def replyOf (s : State) (q : Request) (code : Nat) (result : Result) (body : List Byte) : Outgoing :=
  ⟨mkFrame q.src s.ownAddress Config.kindReply q.tag (u8 code :: u8 result.code :: body), false⟩

/-- R164, R176: the REPORT and NOTICE frames of one event, given as kind and payload, from the `n`-th on: each
takes the next sequence number as its tag. -/
def noticeFrames (s : State) (n : Nat) (notices : List (Nat × List Byte)) : List Outgoing :=
  match notices with
  | [] => []
  | (kind, payload) :: rest =>
    ⟨mkFrame s.site.report s.ownAddress kind ((s.sequence + n) % 256) payload, false⟩ ::
      noticeFrames s (n + 1) rest

/-- R161, R169, R176: from `s` to `t` the event offered these notices and then these frames to the normal
insert queue, in this order: what finds no room is lost and sets the dropped indication, and each notice
advances the sequence number. -/
def State.tells (s t : State) (notices : List (Nat × List Byte)) (replies : List Outgoing) : Prop :=
  t.normal = s.normal ++ (noticeFrames s 0 notices ++ replies).take (Config.normalCapacity - s.normal.length) ∧
  t.normalDropped = (s.normalDropped ||
    decide (Config.normalCapacity - s.normal.length < (noticeFrames s 0 notices ++ replies).length)) ∧
  t.sequence = if notices = [] then s.sequence else (s.sequence + notices.length) % 256

/-- The event changed nothing but the normal insert queue, to which it offered one reply. -/
def State.repliesOnly (s t : State) (q : Request) (code : Nat) (result : Result) (body : List Byte) : Prop :=
  s.tells t [] [replyOf s q code result body] ∧ t = { s with normal := t.normal, normalDropped := t.normalDropped }

/-- A head record but for what sending a command changes (R147). -/
def Head.standing (h : Head) : Head := { h with sent := none, refresh := 0, confirm := none }

/-- A ramp but for what sending commands to its heads changes (R147). -/
def Ramp.apartFromCommands (r : Ramp) : Ramp :=
  { r with heads := Three.tabulate (fun l => (r.head l).map Head.standing) }

/-- A ramp but for what triggers, picks and head commands change. -/
def Ramp.apartFromRelease (r : Ramp) : Ramp :=
  { r.apartFromCommands with
    spill := false, clock := .reset, waitOrder := [], pointer := 0,
    lanes := Three.tabulate (fun l =>
      { Lane.reset with isOpen := (r.lane l).isOpen, closePending := (r.lane l).closePending }) }

/-- R120, R183: a RAMP notice; `holds` are the request hold and the input hold. -/
def rampNotice (k : Fin 4) (before after : RampState) (requestHold inputHold : Bool) (cause : RampCause) :
    Nat × List Byte :=
  (Config.kindNotice, [u8 4, u8 k.val, u8 before.code, u8 after.code, u8 after.enteredFromCode,
    u8 (bitValue requestHold 1 + bitValue inputHold 2), u8 cause.code])

/-- R102, R183: a FAULT notice. -/
def faultNotice (k : Fin 4) (cause : FaultCause) (state : RampState) (flags unmasked : Flags) (plan : Nat) :
    Nat × List Byte :=
  (Config.kindNotice, [u8 2, u8 k.val, u8 cause.code, u8 state.code, u8 flags.code, u8 unmasked.code, u8 plan])

/-- R32, R183: a HEALTH notice. -/
def healthNotice (entry : Nat) (ramp : Fin 4) (before after : Health) (cause : HealthCause)
    (symptoms : Symptoms) : Nat × List Byte :=
  (Config.kindNotice, [u8 1, u8 entry, u8 ramp.val, u8 before.code, u8 after.code, u8 cause.code,
    u8 symptoms.code])

/-- R155, R183: a HEAD notice. -/
def headNotice (k : Fin 4) (l : Fin 3) (c : LaneConfig) (cause : Nat) (lamps : Lamps) (sent reported : Option Aspect) :
    Nat × List Byte :=
  (Config.kindNotice, [u8 3, u8 k.val, u8 l.val, u8 c.driver, u8 c.output, u8 cause, u8 lamps.code,
    u8 (aspectCode sent), u8 (aspectCode reported)])

/-- R141: a lane at its entry to OFF: its state time and grace time are discarded, and a pending closure
lands. -/
def Lane.wentOff (x : Lane) : Lane :=
  { x with cycle := .off, grace := none, isOpen := x.isOpen && !x.closePending, closePending := false,
           starvation := if x.closePending then 0 else x.starvation }

/-- R106: the heads that the present configuration records name, over all ramps. -/
def State.namedHeads (s : State) : List (Nat × Nat) :=
  allRamps.flatMap (fun k =>
    match (s.ramp k).config with
    | some c => c.heads
    | none => [])

/-- R106: no head is named by two lanes. -/
def State.headsDistinct (s : State) : Prop := s.namedHeads.Nodup

/-- From `s` to `t` ramp `k` became `r`, these notices and frames were offered, and nothing else changed. -/
def State.rampSet (s t : State) (k : Fin 4) (r : Ramp) (notices : List (Nat × List Byte))
    (replies : List Outgoing) : Prop :=
  s.tells t notices replies ∧
  t = { s with ramps := s.ramps.set k r, normal := t.normal, normalDropped := t.normalDropped,
               sequence := t.sequence }

/-- R145: the used heads of some ramps, in the order of R146. -/
def State.usedHeads (s : State) (ramps : List (Fin 4)) : List (Fin 4 × Fin 3) :=
  allHeads.filter (fun x =>
    ramps.contains x.1 && ((s.ramp x.1).head x.2).isSome && ((s.ramp x.1).laneConfig x.2).isSome)

/-- R147, R179: the HEAD COMMAND frame with the target of the head of lane `x.2` of ramp `x.1`. -/
def State.headCommand (s : State) (x : Fin 4 × Fin 3) : Frame :=
  match (s.ramp x.1).laneConfig x.2 with
  | some c =>
    mkFrame c.driver s.ownAddress Config.kindHeadCommand 0
      [u8 c.output, u8 ((s.ramp x.1).target x.2).code, u8 (2 * s.site.refresh)]
  | none => []

/-- R147: the heads that are offered a command at the end of an event that led from `s0` to `s` and made the records of
`fresh` not valid, in the order of R146: the used heads whose target was decided in it, or whose record became not
valid, and whose target differs from the aspect last sent. -/
def State.headsDue (s0 s : State) (fresh : List (Fin 4 × Fin 3)) : List (Fin 4 × Fin 3) :=
  allHeads.filter (fun x =>
    ((s.ramp x.1).laneConfig x.2).isSome &&
    (fresh.contains x || decide ((s0.ramp x.1).headKey x.2 ≠ (s.ramp x.1).headKey x.2)) &&
    (((s.ramp x.1).head x.2).map (fun h => decide (h.sent ≠ some ((s.ramp x.1).target x.2)))).getD false)

/-- R147, R148, R150, R161: `s`, to which an event led from `s0` that made the records of `fresh` not valid, with those
heads told their targets: the urgent insert queue takes the commands it has room for; a head whose command it took
has the target as the aspect last sent and its refresh and confirm timers started. -/
def State.told (s0 s : State) (fresh : List (Fin 4 × Fin 3)) : State :=
  let due := s0.headsDue s fresh
  let room := 8 - s.urgent.length
  { s with
    urgent := s.urgent ++ (due.take room).map s.headCommand
    urgentDropped := s.urgentDropped || decide (room < due.length)
    ramps := Four.tabulate (fun k =>
      { s.ramp k with heads := Three.tabulate (fun l => ((s.ramp k).head l).map (fun h =>
        if (k, l) ∈ due.take room then
          { h with sent := some ((s.ramp k).target l), refresh := s.site.refresh, confirm := some s.site.confirm }
        else h)) }) }

/-- From `s` to `t` ramp `k` became `r`, in which the records of `fresh` are not valid, these notices and frames were
offered, the heads were told their targets, and nothing else changed. -/
def State.rampEventFresh (s t : State) (fresh : List (Fin 4 × Fin 3)) (k : Fin 4) (r : Ramp)
    (notices : List (Nat × List Byte)) (replies : List Outgoing) : Prop :=
  s.tells t notices replies ∧
  t = s.told { s with ramps := s.ramps.set k r, normal := t.normal, normalDropped := t.normalDropped,
                      sequence := t.sequence } fresh

/-- From `s` to `t` ramp `k` became `r`, these notices and frames were offered, the heads whose targets were decided were
told them, and nothing else changed. -/
def State.rampEvent (s t : State) (k : Fin 4) (r : Ramp) (notices : List (Nat × List Byte))
    (replies : List Outgoing) : Prop :=
  s.rampEventFresh t [] k r notices replies

/-- R149, R147, R161: from `s` to `t` the record of each used head of `ramps` became not valid and was offered a
command with its target in `s`: the first ones found room and are valid again, the rest stand not valid. -/
def State.headsRenewed (s t : State) (ramps : List (Fin 4)) : Prop :=
  let room := Config.urgentCapacity - s.urgent.length
  let heads := s.usedHeads ramps
  t.urgent = s.urgent ++ (heads.take room).map s.headCommand ∧
  t.urgentDropped = (s.urgentDropped || decide (room < heads.length)) ∧
  ∀ k ∈ ramps, ∀ l, (t.ramp k).head l = ((s.ramp k).head l).map (fun h =>
    if (k, l) ∈ heads.take room then
      { h with sent := some ((s.ramp k).target l), refresh := s.site.refresh, confirm := some s.site.confirm }
    else { h with sent := none, confirm := none })

/-- R124: ramp `r` with top plan `p` comes to a release due: the swap, the fault check and the pick. -/
def Ramp.due (p : Plan) (r : Ramp) : Ramp :=
  ((((r.updClock (fun c => { c with state := .due, frozen := false, awaiting := false })).swap).faultCheck p)).pick p

/-- R99, R97, R120: the RAMP notices of a release due: a return from FALLBACK, then a fault taken. -/
def dueNotices (k : Fin 4) (r : Ramp) : List (Nat × List Byte) :=
  if r.state = .fallback ∧ r.clock.returnStaged = true then
    rampNotice k .fallback .metering r.requestHold r.inputHold .returned ::
      (if r.faultPending then [rampNotice k .metering .fallback r.requestHold r.inputHold .fault] else [])
  else if r.state = .metering ∧ r.faultPending = true then
    [rampNotice k .metering .fallback r.requestHold r.inputHold .fault]
  else []

/-- R126: ramp `r`, METERING, begins to meter under top plan `p`: its lanes in service enter RED, and the clock comes
to DUE or, with no period staged, awaits its first one. -/
def Ramp.begun (p : Plan) (r : Ramp) : Ramp :=
  let r1 := { r with lanes := Three.tabulate (fun l =>
    if r.laneInService l then { r.lane l with cycle := .red p.minRed, minRed := some p.minRed, grace := none }
    else r.lane l) }
  if r.clock.staged.isSome then r1.due p else { r1 with clock := { r1.clock with awaiting := true } }

/-- R126: the notices that the start of metering brings. -/
def begunNotices (k : Fin 4) (r : Ramp) : List (Nat × List Byte) :=
  if r.clock.staged.isSome then dueNotices k r else []

/-- R18, R135: ramp `r` with the demand states that an event derived, none where it derived none: a lane whose demand
became absent leaves the wait order, and each READY lane whose demand became present joins its tail, in rotation
order. -/
def Ramp.demanding (r : Ramp) (demand : Fin 3 → Option Bool) : Ramp :=
  let before (l : Fin 3) : Bool := (r.lane l).demand
  let now (l : Fin 3) : Bool := (demand l).getD (before l)
  let stay := r.waitOrder.filter (fun l => now l || !before l)
  let join := [r.pointer + 1, r.pointer + 2, r.pointer].filter (fun l =>
    r.used l && now l && !before l && decide ((r.lane l).cycle = .ready) && decide (l ∉ stay))
  { r with
    lanes := Three.tabulate (fun l => { r.lane l with demand := now l })
    waitOrder := stay ++ join }

/-- R20, R128, R130: ramp `r` under top plan `p`, its spill condition evaluated to `now`: an assertion takes a flush where
the flush period is shorter than the active one; a clearing ends a flush and stages what the ramp's state gives. -/
def Ramp.spilling (r : Ramp) (p : Plan) (now : Bool) : Ramp :=
  let recovering := r.state = .fallback ∨ r.state = .suspended .fallback
  let meters := r.state = .metering ∨ r.state = .suspended .metering
  let returning := (r.clock.staged.map (fun x => x.mark)) = some .returning
  let keeps := returning ∨ (r.clock.staged.map (fun x =>
    decide (x.mark = .computed) && decide (x.period ≤ p.flushPeriod))) = some true
  let starts := now = true ∧ r.spill = false ∧ (meters ∨ recovering) ∧
    (r.clock.active.map (fun a => decide (p.flushPeriod < a))) = some true
  let ends := now = false ∧ r.spill = true ∧ r.clock.flush ≠ none
  { r with
    spill := now
    clock := { r.clock with
      flush := if starts then some p.flushPeriod else if ends then none else r.clock.flush
      staged :=
        if starts then (if keeps then r.clock.staged else some ⟨p.flushPeriod, .flush⟩)
        else if ends ∧ recovering ∧ ¬returning then some ⟨p.fallbackPeriod, .computed⟩
        else if ends ∧ meters ∧ r.clock.computed ≠ none then r.clock.computed.map (fun c => ⟨c, .computed⟩)
        else r.clock.staged } }

/-- R17 to R20, R125: ramp `r`, with top plan `plan`, at an event that derived these demand states and, unless none,
evaluated spill: the demand first, then spill, and, where the demand of a READY lane became present, the pick of a
clock that waits at DUE. -/
def Ramp.triggered (r : Ramp) (plan : Option Plan) (demand : Fin 3 → Option Bool) (spill : Option Bool) : Ramp :=
  let r1 := r.demanding demand
  let arrived := allLanes.any (fun l =>
    !(r.lane l).demand && (r1.lane l).demand && decide ((r.lane l).cycle = .ready))
  match plan with
  | none => r1
  | some p =>
    let r2 := (spill.map (fun now => r1.spilling p now)).getD r1
    if arrived then r2.pick p else r2

/-- R17: an event that touched some entries touched entry `i` or the substitute that the entry names. -/
def State.touches (s : State) (touched : Nat → Bool) (i : Nat) : Bool :=
  touched i || (((s.detector i).bind (fun d => d.config.substitute)).map touched).getD false

/-- R18: the demand state of lane `l` of ramp `k` that an event which touched some entries derives; none where it does not
concern the lane's demand reference. -/
def State.derivedDemand (s : State) (touched : Nat → Bool) (k : Fin 4) (l : Fin 3) : Option Bool :=
  ((s.ramp k).laneConfig l).bind (fun c => c.demand.bind (fun i =>
    if s.touches touched i then some (s.demandNow k c) else none))

/-- R20: the indices of the enabled SPILL entries of ramp `k`. -/
def State.spillRows (s : State) (k : Fin 4) : List Nat :=
  (s.detectors.rows.filter (fun p => decide (p.2.config.ramp = k ∧ p.2.config.role = .spill))).map (fun p => p.1)

/-- R20: the spill condition of ramp `k` evaluated under plan `p`, `before` its value so far: asserted by a source whose
presence run has reached the spill time, cleared when every source's absence run has. -/
def State.spillJudged (s : State) (k : Fin 4) (p : Plan) (before : Bool) : Bool :=
  let sources := (s.spillRows k).filterMap (fun i => (s.source k .spill i).bind s.detector)
  if before then sources.any (fun d => decide (d.absenceRun < p.spillTime * 1000))
  else sources.any (fun d => decide (p.spillTime * 1000 ≤ d.presenceRun))

/-- R17, R20: an event that touched some entries and left the tables as `s` has them changed the source of a SPILL entry
of ramp `k`: an entry that it concerns has another source than the one last resolved (DEDUCED, log 12). -/
def State.spillSourceMoved (s : State) (touched : Nat → Bool) (k : Fin 4) : Bool :=
  (s.spillRows k).any (fun i => s.touches touched i && decide (s.lastSources.get i ≠ s.source k .spill i))

/-- R17, R20: the source that an enabled SPILL entry has as its last resolved one after an event that touched some entries
and left the tables as `s` has them; `due` names the ramps whose spill was evaluated, unless they were DARK. The event
resolves the entries that it concerns and all those of a ramp that was evaluated (DEDUCED, log 12). -/
def State.resolvedSource (s : State) (touched : Nat → Bool) (due : Fin 4 → Bool) (i : Nat) : Option Nat :=
  (s.detector i).bind (fun d =>
    if d.config.role = .spill then
      (if s.touches touched i = true ∨ (due d.config.ramp = true ∧ (s.ramp d.config.ramp).state ≠ .dark) then
        s.source d.config.ramp .spill i
      else s.lastSources.get i)
    else none)

/-- R20: a DETECTOR WRITE that led from `s` to `t` disabled a SPILL entry of ramp `k` or wrote it otherwise, or wrote as a
SPILL entry of ramp `k` one of another ramp. -/
def State.spillEntryMoved (s t : State) (k : Fin 4) : Bool :=
  (s.spillRows k).any (fun i => decide (i ∉ t.spillRows k)) ||
  (t.spillRows k).any (fun i => allRamps.any (fun j => decide (j ≠ k) && decide (i ∈ s.spillRows j)))

/-- R17 to R20: what ramp `k` of `s`, `r` as the event's passages left it, becomes at an event that touched some entries
and left the tables as `s` has them; `due` says that spill is evaluated, which it is not in DARK. -/
def State.triggeredRamp (s : State) (touched : Nat → Bool) (due : Bool) (k : Fin 4) (r : Ramp) : Ramp :=
  r.triggered (s.topPlan k) (s.derivedDemand touched k)
    (if due = true ∧ r.state ≠ .dark then (s.topPlan k).map (fun p => s.spillJudged k p r.spill) else none)

/-- R112, R113: a closure has landed from `r0` to `r` and the ramp, not DARK, has no lane left in service. -/
def Ramp.landsDark (r0 r : Ramp) : Bool :=
  allLanes.any (fun l => (r0.lane l).isOpen && !(r.lane l).isOpen) && decide (r.state ≠ .dark) && !r.inService

/-- R15: the accumulators of ramp `k`'s entries are cleared where the ramp went DARK. -/
def State.darkened (k : Fin 4) (dark : Bool) (s : State) : State := if dark then s.clearAccumulators k else s

/-- R11: the first records of their channels, of those whose values let them be used. -/
def usableRecords (records : List ScanRecord) : List ScanRecord :=
  ((records.zipIdx).filter (fun p =>
    decide (p.1.presence ≤ 1) && decide (p.1.arrivals ≤ 15) && decide (p.1.channel ≤ 15) &&
    !(records.take p.2).any (fun e => e.channel == p.1.channel))).map (fun p => p.1)

/-- R12: the record of a scan frame from `src` that an entry is matched by. -/
def recordFor (src : Nat) (records : List ScanRecord) (d : Detector) : Option ScanRecord :=
  if d.config.station = src then (usableRecords records).find? (fun r => r.channel == d.config.channel) else none

/-- R132, R133, R140: a lane whose green ends: AMBER with its held A; where A is 0 RED with its held minimum red and its
grace time, or, with a closure pending, OFF. -/
def Lane.greenEnded (x : Lane) : Lane :=
  if x.heldAmber ≠ 0 then { x with cycle := .amber x.heldAmber }
  else if x.closePending then x.wentOff
  else { x with cycle := .red (x.minRed.getD 0), grace := x.graceStart }

/-- R132, R140: a lane whose amber ends. -/
def Lane.amberEnded (x : Lane) : Lane :=
  if x.closePending then x.wentOff else { x with cycle := .red (x.minRed.getD 0), grace := x.graceStart }

/-- A ramp with `f` run on the lanes of `which`; those of them that end OFF leave the wait order. -/
def Ramp.onLanes (r : Ramp) (which : List (Fin 3)) (f : Lane → Lane) : Ramp :=
  { r with
    lanes := Three.tabulate (fun l => if l ∈ which then f (r.lane l) else r.lane l)
    waitOrder := r.waitOrder.filter (fun l => !(decide (l ∈ which) && decide ((f (r.lane l)).cycle = .off))) }

/-- R154, R143: a ramp whose lanes `which` are disabled with a cause: those not OFF go OFF with starvation count 0, and
a lane already OFF stays as it is. -/
def Ramp.disabling (r : Ramp) (which : List (Fin 3)) (cause : DisableCause) : Ramp :=
  { r.onLanes (which.filter (fun l => decide ((r.lane l).cycle ≠ .off))) (fun x => { x.wentOff with starvation := 0 }) with
    heads := Three.tabulate (fun l =>
      if l ∈ which then (r.head l).map (fun h => { h with disabled := some cause }) else r.head l) }

/-- R116, R133, R127: a ramp in STARTING, METERING or FALLBACK that becomes SUSPENDED. -/
def Ramp.suspending (r : Ramp) : Ramp :=
  let greens := allLanes.filter (fun l => (r.lane l).cycle.isGreen)
  let r1 := r.onLanes greens Lane.greenEnded
  match r.state with
  | .starting => { r with state := .suspended .starting, warningTimer := none }
  | .metering => { r1 with
      state := .suspended .metering, clock := { r.clock with frozen := decide (r.clock.state ≠ .stopped) } }
  | .fallback => { r1 with
      state := .suspended .fallback, clock := { r.clock with frozen := decide (r.clock.state ≠ .stopped) } }
  | _ => r

/-- R112: a ramp at its entry to DARK. -/
def Ramp.darkening (r : Ramp) : Ramp :=
  { r with
    state := .dark, warningTimer := none, clearTimer := none, requestHold := false, inputHold := false,
    share := none, intervalTimer := none, overrun := false, spill := false, faultPending := false, recovery := 0,
    waitOrder := [],
    lanes := Three.tabulate (fun l =>
      { (r.lane l).wentOff with greens := 0, served := 0, violations := 0, extra := 0 }),
    clock := ⟨.stopped, false, false, none, none, none, r.clock.computed⟩,
    heads := Three.tabulate (fun l => (r.head l).map (fun h => { h with silence := none })) }

/-- R154, R143, R113: ramp `r` with lane `l` disabled, unless it is; a ramp that is not DARK and has no lane left in service
then goes DARK. -/
def Ramp.disablingOne (r : Ramp) (l : Fin 3) (cause : DisableCause) : Ramp :=
  let after := r.disabling [l] cause
  if r.disabled l = true then r
  else if r.state ≠ .dark ∧ after.inService = false then after.darkening
  else after

/-- R152 pass 3: ramp `r` once the head of lane `l`, if it is judged, is judged on its record. -/
def Ramp.judging (r : Ramp) (l : Fin 3) (report : Option StatusRecord) : Ramp :=
  match r.head l, report with
  | some h, some x =>
    if (x.lamps.testBit 1 ∨ x.lamps.testBit 2) ∧ h.disabled = none then r.disablingOne l .lamp
    else if h.sent = none then r
    else if h.sent = Aspect.ofCode x.aspect then { r with heads := r.heads.set l (some { h with confirm := none }) }
    else if h.confirm ≠ none then r
    else Ramp.disablingOne { r with heads := r.heads.set l (some { h with sent := none, confirm := none }) } l .confirm
  | _, _ => r

/-- R151 to R154, R113, R125: ramp `r` with top plan `plan` after an acted-on status frame; `at_` names the lanes whose heads
are at the frame's driver, `report` the record that judges a lane's head. In order: the silence timers, the lamp
fault sets, a red fault, the heads in lane order, and the waiting pick where a lane left GREEN or AMBER. -/
def Ramp.statusJudged (r : Ramp) (plan : Option Plan) (at_ : Fin 3 → Bool) (report : Fin 3 → Option StatusRecord) :
    Ramp :=
  let timeout := r.config.map (fun c => c.headTimeout)
  let hear (l : Fin 3) (h : Head) : Head := { h with
    silence := if r.state ≠ .dark ∧ at_ l = true then timeout else h.silence
    lamps := ((report l).map (fun x => Lamps.ofCode x.lamps)).getD h.lamps }
  let heard : Ramp := { r with heads := Three.tabulate (fun l => (r.head l).map (hear l)) }
  let red := allLanes.any (fun l => ((report l).map (fun x => x.lamps.testBit 0)).getD false)
  let r0 := if red = true ∧ r.state ≠ .dark then heard.darkening else heard
  let r3 := ((r0.judging 0 (report 0)).judging 1 (report 1)).judging 2 (report 2)
  if allLanes.any (fun l => (r.lane l).cycle.busy && !(r3.lane l).cycle.busy) then (plan.map (fun p => r3.pick p)).getD r3
  else r3

/-- R132: a lane is GREEN only while its ramp is METERING or FALLBACK and the lane is open and not disabled. -/
def State.greensServed (s : State) : Prop :=
  ∀ k l, ((s.ramp k).lane l).cycle.isGreen = true →
    (s.ramp k).state.meters = true ∧ (s.ramp k).laneInService l = true

/-- R38, R39, R40: a plan is one that a PLAN WRITE could have written. -/
def Plan.sound (p : Plan) : Prop := ∃ rec, planFault rec = none ∧ p = planOf rec

/-- R122, R73, R38: every valid plan, and the plan of the running job, is sound; every period a clock holds lies in 1-400
ds; every r_prev lies in 180-5400. -/
def State.periodsSound (s : State) : Prop :=
  (∀ n p, s.plans.get n = some p → p.sound) ∧
  (∀ x, s.rcu = .busy (some x) → x.plan.sound) ∧
  ∀ k,
    (∀ a, (s.ramp k).clock.active = some a → 1 ≤ a ∧ a ≤ 400) ∧
    (∀ x, (s.ramp k).clock.staged = some x → 1 ≤ x.period ∧ x.period ≤ 400) ∧
    (∀ f, (s.ramp k).clock.flush = some f → 1 ≤ f ∧ f ≤ 400) ∧
    (∀ c, (s.ramp k).clock.computed = some c → 1 ≤ c ∧ c ≤ 400) ∧
    (∀ r, (s.ramp k).rPrev = some r → 180 ≤ r ∧ r ≤ 5400)

end Sys2Proof.Machine
end

