-- ==== Sys2Proof/Certificates/Slice0/Obligations.lean ====
section
/-! DEFINITION. The statements for the provers, one definition each; OBLIGATIONS.json lists them. In every statement about a
command that a frame carries, `s.took c` is `s` with the command taken from the hand-over (DESIGN CHOICE, log 3): it differs
from `s` in the field `handed` alone. A command's next state is `t.withStarts`: `t` is what the command made, and the starts
that it brought due (R70, R71, R162, R163) are made as it ends (DEDUCED, log 29); what they are, the statements
TransmitterFollowsItsRules and JobStartReadsTheSnapshot say in full. -/

section Statements

open Sys2Proof Sys2Proof.Machine

/-! ## The machine -/

/-- One step with a command at the front of the queue runs it on the state with the queue's rest. -/
def Obligations.StepRunsFrontCommand : Prop :=
  ∀ (c : Instr) (rest : List Instr) (s : State),
    step { s with pending := c :: rest } = exec c { s with pending := rest }

/-- With no command waiting, the part takes its own due step, in the order chosen in log 2 (DESIGN CHOICE), or idles. A start
is never due in a state that an event left. -/
def Obligations.EmptyQueueStep : Prop :=
  ∀ s : State, s.pending = [] →
    (∀ c more, s.handed = c :: more → step s = exec c s) ∧
    (s.handed = [] → s.rcu = .idle → s.jobs ≠ [] → step s = exec .jobStart s) ∧
    (s.handed = [] → (s.rcu ≠ .idle ∨ s.jobs = []) → s.line = none → s.txHold = false →
      (s.forward ≠ [] ∨ s.urgent ≠ [] ∨ s.normal ≠ []) → step s = exec .transmitStart s) ∧
    (s.handed = [] → (s.rcu ≠ .idle ∨ s.jobs = []) →
      (s.line ≠ none ∨ s.txHold = true ∨ (s.forward = [] ∧ s.urgent = [] ∧ s.normal = [])) → step s = .next s)

/-- No command of the table stops the part, in any state (where its event cannot take place nothing happens: DEDUCED, log 4);
none touches the commands that wait behind it or the count of free values, a hard reset included (DESIGN CHOICE, log 21);
and none leaves a start due: no job heads the queue of an idle RCU (R70, R71), and no frame waits for a free line
that is not held (R162, R163). -/
def Obligations.NoCommandStops : Prop :=
  ∀ (c : Instr) (s : State), ∃ t, exec c s = .next t ∧ t.pending = s.pending ∧ s.freeCount ≤ t.freeCount ∧
    (t.rcu = .idle → t.jobs = []) ∧
    (t.line = none → t.txHold = true ∨ (t.forward = [] ∧ t.urgent = [] ∧ t.normal = []))

/-- R157, R163, R115, R171, R22, R38, R105, R106: each setting is changed by the commands that write it alone; and no
command but a hard reset makes a valid plan invalid or removes a configuration record. That neither reset moves the
level of an input pin is DESIGN CHOICE, log 20. -/
def Obligations.SettingsChangeByTheirWritersAlone : Prop :=
  ∀ (c : Instr) (s t : State), exec c s = .next t →
    (c ≠ .txholdAsserted → c ≠ .txholdDeasserted → t.txHold = s.txHold) ∧
    (∀ k, c ≠ .rampHoldInputAsserted k → c ≠ .rampHoldInputDeasserted k →
      (t.ramp k).holdInput = (s.ramp k).holdInput) ∧
    ((∀ straps signal, c ≠ .hardReset straps signal) →
      t.ownAddress = s.ownAddress ∧
      (c ≠ .linkSignalLost → c ≠ .linkSignalRegained → t.linkUp = s.linkUp) ∧
      ((∀ q rec, c ≠ .siteWrite q rec) → t.site = s.site) ∧
      ((∀ q rec, c ≠ .healthLimitsWrite q rec) → t.limits = s.limits) ∧
      ((∀ q rec, c ≠ .planWrite q rec) → t.plans = s.plans) ∧
      (∀ n, (s.plans.get n).isSome = true → (t.plans.get n).isSome = true) ∧
      ((∀ q rec, c ≠ .rampConfigWrite q rec) → ∀ k, (t.ramp k).config = (s.ramp k).config) ∧
      (∀ k, (s.ramp k).config.isSome = true → (t.ramp k).config.isSome = true) ∧
      ((∀ q entries, c ≠ .detectorWrite q entries) →
        ∀ i, (t.detector i).map (fun d => d.config) = (s.detector i).map (fun d => d.config)))

/-! ## Resets, pins and the line -/

/-- R167, R157, R171, R22, R21, R38, R51, R71, R104, R121, R144, R156: what HARD_RESET leaves. The waiting commands, the
counter of free values (DESIGN CHOICE, log 21) and the levels of the input pins (DESIGN CHOICE, log 20) are the model's to
keep; that a lane then holds no timings and no minimum red is DESIGN CHOICE, log 18; that the frames handed on and not
yet acted on are dropped is DESIGN CHOICE, log 28; that no SPILL entry then has a last resolved source follows from there
being no entry (log 12). -/
def Obligations.HardResetLeaves : Prop :=
  ∀ (straps : Nat) (signal : Bool) (s : State), ∃ t, exec (.hardReset straps signal) s = .next t ∧
    t.ownAddress = (if 1 ≤ straps ∧ straps ≤ 126 then straps else 126) ∧
    t.linkUp = signal ∧ t.awaitingGap = true ∧ t.line = none ∧ t.waitCount = 0 ∧ t.sequence = 0 ∧
    t.forward = [] ∧ t.urgent = [] ∧ t.normal = [] ∧
    t.forwardDropped = false ∧ t.urgentDropped = false ∧ t.normalDropped = false ∧
    t.site = ⟨127, 20, 10⟩ ∧ t.limits = ⟨120, 6, 3, 600, 3, 5, 4⟩ ∧
    t.jobs = [] ∧ t.rcu = .idle ∧
    (∀ i, t.detector i = none) ∧ (∀ i, t.lastSources.get i = none) ∧ (∀ a, t.stations.get a = none) ∧
    (∀ n, t.plans.get n = none) ∧ t.handed = [] ∧
    (∀ k, (t.ramp k).stack = [0] ∧ (t.ramp k).config = none ∧ (t.ramp k).state = .dark ∧
      (t.ramp k).intervalTimer = none ∧ (t.ramp k).overrun = false ∧ (t.ramp k).spill = false ∧
      (t.ramp k).rPrev = none ∧ (t.ramp k).sticky = .none ∧ (t.ramp k).last = .none ∧
      (t.ramp k).lastResult = .none ∧ (t.ramp k).faultPending = false ∧ (t.ramp k).recovery = 0 ∧
      (t.ramp k).startFault = none ∧ (t.ramp k).requestHold = false ∧ (t.ramp k).inputHold = false ∧
      (t.ramp k).warningTimer = none ∧ (t.ramp k).clearTimer = none ∧ (t.ramp k).share = none ∧
      (t.ramp k).carriedRate = none ∧ (t.ramp k).waitOrder = [] ∧ (t.ramp k).pointer = 2 ∧
      (t.ramp k).clock = ⟨.stopped, false, false, none, none, none, none⟩ ∧
      (∀ l, (t.ramp k).head l = none ∧
        (t.ramp k).lane l = ⟨.off, none, none, none, 0, true, false, false, 0, 0, 0, 0, 0⟩) ∧
      (t.ramp k).holdInput = (s.ramp k).holdInput) ∧
    t.pending = s.pending ∧ t.freeCount = s.freeCount ∧ t.txHold = s.txHold

/-- R158, R149, R147: the line loses and regains its signal. A link that comes UP makes every used head's record not
valid and offers it a fresh command; reception then waits for the first idle gap. A regained signal on a link
that is UP is no event (DEDUCED, log 4). -/
def Obligations.LinkFollowsTheLine : Prop :=
  ∀ s : State,
    (∃ t : State, exec .linkSignalLost s = .next t.withStarts ∧ t = { s with linkUp := false }) ∧
    (∃ t : State, exec .firstIdleGap s = .next t.withStarts ∧ t = { s with awaitingGap := s.awaitingGap && !s.linkUp }) ∧
    (∃ t : State, exec .linkSignalRegained s = .next t.withStarts ∧
      (s.linkUp = true → t = s) ∧
      (s.linkUp = false →
        s.headsRenewed t allRamps ∧
        (∀ k, t.ramp k = { s.ramp k with heads := (t.ramp k).heads }) ∧
        t = { s with linkUp := true, awaitingGap := true, urgent := t.urgent, urgentDropped := t.urgentDropped,
                     ramps := t.ramps }))

/-- R162, R163, R166: the transmit-hold input pauses the transmitter and does nothing else; the arbiter's choice, and
when it makes none; the end of a frame frees the line, and only the end of the reset reply does more. The starts that
end every event are the job's, then the arbiter's, which chooses among all the frames offered in the event (DEDUCED,
log 29). TRANSMIT_START where no start is due and TRANSMIT_END of a free line are no events (DEDUCED, log 4), and
RING_RESET_EFFECT is no event but at the end of the reset reply (DEDUCED, log 5). -/
def Obligations.TransmitterFollowsItsRules : Prop :=
  (∀ s : State,
    s.withStarts = s.startJob.startFrame ∧
    exec .txholdAsserted s = .next { s with txHold := true }.withStarts ∧
    ({ s with txHold := true } : State).startFrame = { s with txHold := true } ∧
    exec .txholdDeasserted s = .next { s with txHold := false }.withStarts ∧
    exec .transmitStart s = .next s.withStarts) ∧
  (∀ s : State,
    ((s.line ≠ none ∨ s.txHold = true ∨ (s.forward = [] ∧ s.urgent = [] ∧ s.normal = [])) → s.startFrame = s) ∧
    (s.line = none → s.txHold = false →
      (∀ o rest, s.normal = o :: rest → (s.waitCount = 4 ∨ (s.urgent = [] ∧ s.forward = [])) →
        s.startFrame = { s with line := some o, normal := rest, waitCount := 0 }) ∧
      (∀ f rest, s.urgent = f :: rest → (s.waitCount ≠ 4 ∨ s.normal = []) →
        s.startFrame = { s with line := some ⟨f, false⟩, urgent := rest }) ∧
      (∀ f rest, s.urgent = [] → s.forward = f :: rest → (s.waitCount ≠ 4 ∨ s.normal = []) →
        s.startFrame = { s with
          line := some ⟨f, false⟩, forward := rest,
          waitCount := if s.normal = [] then s.waitCount else s.waitCount + 1 }))) ∧
  (∀ s : State, ∃ t : State, exec .transmitEnd s = .next t.withStarts ∧ t.line = none ∧
    ((∀ o, s.line = some o → o.resetReply = false) →
      t = { s with line := none } ∧ exec .ringResetEffect s = .next s.withStarts))

/-- R166, R21, R37, R51, R68, R71, R104, R121, R144, R149, R156, R167: the ring reset at the end of the reset reply. That
RING_RESET_EFFECT is the same event as that end is DEDUCED, log 5; that the levels of the input pins stay is DESIGN CHOICE,
log 20; that a lane then holds no timings and no minimum red is DESIGN CHOICE, log 18; that the frames handed on and not
yet acted on stay is DESIGN CHOICE, log 28; that the source of each SPILL entry is resolved afresh is DEDUCED, log 12. -/
def Obligations.RingResetLeaves : Prop :=
  ∀ (s : State) (o : Outgoing), s.line = some o → o.resetReply = true →
    ∃ t : State, exec .transmitEnd s = .next t.withStarts ∧ exec .ringResetEffect s = .next t.withStarts ∧
      t.line = none ∧ t.forward = [] ∧ t.normal = [] ∧ t.forwardDropped = false ∧ t.normalDropped = false ∧
      t.waitCount = 0 ∧ t.sequence = 0 ∧ t.jobs = [] ∧ t.rcu = .idle ∧
      t.ownAddress = s.ownAddress ∧ t.linkUp = s.linkUp ∧ t.awaitingGap = s.awaitingGap ∧ t.site = s.site ∧
      t.limits = s.limits ∧ t.plans = s.plans ∧ t.txHold = s.txHold ∧ t.pending = s.pending ∧
      t.handed = s.handed ∧ t.freeCount = s.freeCount ∧
      (∀ i, t.detector i = (s.detector i).map (fun d =>
        { config := d.config, arrivals := 0, onTime := 0, span := 0, presence := false, previous := false,
          presenceRun := 0, absenceRun := 0, health := .good, symptomatic := 0, clean := 0, symptoms := .none,
          usability := none, raw := none, smoothed := none, held := none })) ∧
      (∀ i, t.lastSources.get i = (t.detector i).bind (fun d =>
        if d.config.role = .spill then t.source d.config.ramp .spill i else none)) ∧
      (∀ a, t.stations.get a = (s.stations.get a).map (fun _ => ⟨true, .all false, some s.limits.timeout⟩)) ∧
      (∀ k, { t.ramp k with lanes := .all .reset, heads := .all none } =
        { Ramp.reset (s.ramp k).holdInput with
          config := (s.ramp k).config, stack := [(s.ramp k).stack.headD 0] }) ∧
      (∀ k l, (t.ramp k).lane l =
        { Lane.reset with demand := ((s.ramp k).laneConfig l).elim false (fun c => t.demandNow k c) }) ∧
      t.urgent = ((t.usedHeads allRamps).take 8).map t.headCommand ∧
      t.urgentDropped = decide (8 < (t.usedHeads allRamps).length) ∧
      (∀ k l, (t.ramp k).head l = ((s.ramp k).laneConfig l).map (fun _ =>
        let sent := decide ((k, l) ∈ (t.usedHeads allRamps).take 8)
        { sent := if sent then some ((t.ramp k).target l) else none, refresh := s.site.refresh,
          confirm := if sent then some s.site.confirm else none, silence := none, lamps := .none,
          disabled := none }))

/-- R166, R175: RING RESET. With no reset reply waiting its reply carries the mark; with one waiting it is answered
unmarked; with no room for the reply the reset takes effect at once and the frame being sent goes on. That a reset reply
being sent counts as waiting is DEDUCED, log 27. -/
def Obligations.RingResetIsTaken : Prop :=
  ∀ (q : Request) (s : State), ∃ t : State, exec (.ringReset q) s = .next t.withStarts ∧
    let u := s.took (.ringReset q)
    let reply := mkFrame q.src u.ownAddress 0x41 q.tag [u8 0x51, u8 0]
    if u.normal.any (fun o => o.resetReply) ∨ (u.line.map (fun o => o.resetReply)) = some true then
      u.repliesOnly t q 0x51 .done []
    else if u.normal.length < 16 then t = { u with normal := u.normal ++ [⟨reply, true⟩] }
    else t.line = u.line ∧
      exec .ringResetEffect { u with line := some ⟨reply, true⟩ } = .next { t with line := none }.withStarts

/-- R165: RING STATUS. -/
def Obligations.RingStatusReadsAndClears : Prop :=
  ∀ (q : Request) (s : State), ∃ t : State, exec (.ringStatus q) s = .next t.withStarts ∧
    let u := s.took (.ringStatus q)
    let bit (b : Bool) (n : Nat) : Nat := if b then n else 0
    { u with forwardDropped := false, urgentDropped := false, normalDropped := false }.repliesOnly t q 0x50 .done
      [u8 u.forward.length, u8 u.urgent.length, u8 u.normal.length,
       u8 (bit u.forwardDropped 1 + bit u.urgentDropped 2 + bit u.normalDropped 4), u8 (bit u.linkUp 1),
       u8 (bit u.txHold 1)]

/-- R159, R160, R161: a complete frame is discarded, removed, or disposed of by its destination and kind. -/
def Obligations.ReceivedFramesAreDisposedOf : Prop :=
  ∀ (bytes : Frame) (s : State), s.linkUp = true → s.awaitingGap = false →
    ∃ t : State, exec (.frameReceived bytes) s = .next t.withStarts ∧
      let n := frameLength bytes
      let passes := 7 ≤ bytes.length ∧ n ≤ 56 ∧ bytes.length = n + 7 ∧
        bytes.drop (5 + n) = u16 (crc (bytes.take (5 + n))).toNat ∧ frameDst bytes ≠ 0 ∧
        1 ≤ frameSrc bytes ∧ frameSrc bytes ≤ 126 ∧ frameSrc bytes ≠ s.ownAddress
      let onward := frameDst bytes ≠ s.ownAddress
      let acted := frameKind bytes = 0x21 ∨ (frameDst bytes = s.ownAddress ∧
        (frameKind bytes = 0x40 ∨ frameKind bytes = 0x31))
      (¬passes → t = s) ∧
      (passes →
        (¬acted → t.handed = s.handed) ∧
        (acted → ∃ c, t.handed = s.handed ++ [c] ∧ handOn s.ownAddress bytes = some c) ∧
        t = { s with
          handed := t.handed,
          forward := if onward ∧ s.forward.length < 8 then s.forward ++ [bytes] else s.forward,
          forwardDropped := s.forwardDropped || decide (onward ∧ 8 ≤ s.forward.length) })

/-- R178, R179, R180, R181, R168, R160, R177: the REQUEST frame that spells a request, the SCAN frame that spells a scan
frame, whatever its destination, and the HEAD STATUS frame that spells a head status pass the part's tests and hand on
exactly that command, every operand at every value its bytes can carry. A SCAN or HEAD STATUS payload whose length
disagrees with its record count hands on a command with no record, which is not acted on where the count is 1-8, no more
than any command whose count is not (R10, R151). -/
def Obligations.RequestFramesSpellTheirCommands : Prop :=
  (∀ (own : Nat) (i : Instr) (f : Frame), nodeOk own = true → i.wf = true → i.requestFrame own = some f →
    frameAccepted f = true ∧ handOn own f = some i) ∧
  (∀ (own dst tag src span count : Nat) (records : List ScanRecord), 1 ≤ dst → dst < 256 → tag < 256 →
    (Instr.scanFrame src span count records).wf = true → records.length = count →
    let f := mkFrame dst src 0x21 tag ([u8 (span / 256), u8 span, u8 count] ++ records.flatMap (fun r =>
      [u8 r.channel, u8 r.presence, u8 r.arrivals, u8 (r.onTime / 256), u8 r.onTime]))
    frameAccepted f = true ∧ handOn own f = some (.scanFrame src span count records)) ∧
  (∀ (own tag src count : Nat) (records : List StatusRecord), nodeOk own = true → tag < 256 →
    (Instr.headStatus own src count records).wf = true → records.length = count →
    let f := mkFrame own src 0x31 tag (u8 count :: records.flatMap (fun r => [u8 r.output, u8 r.aspect, u8 r.lamps]))
    frameAccepted f = true ∧ handOn own f = some (.headStatus own src count records)) ∧
  (∀ (own dst src tag : Nat) (payload : List Byte), nodeOk own = true → 1 ≤ dst → dst < 256 → nodeOk src = true →
    tag < 256 → payload.length ≤ 56 →
    let byte (i : Nat) : Nat := (payload.getD i 0).toNat
    (payload.length ≠ 3 + 5 * byte 2 → handOn own (mkFrame dst src 0x21 tag payload) =
      some (.scanFrame src (byte 0 * 256 + byte 1) (byte 2) [])) ∧
    (payload.length ≠ 1 + 3 * byte 0 → handOn own (mkFrame own src 0x31 tag payload) =
      some (.headStatus own src (byte 0) [])))

/-- R164, R178, R159: every frame the part builds for a node or for the broadcast address reads back as built and passes
the tests of the next node. -/
def Obligations.BuiltFramesPassTheTests : Prop :=
  ∀ (dst src kind tag : Nat) (payload : List Byte), 1 ≤ dst → dst < 256 → nodeOk src = true → kind < 256 →
    tag < 256 → payload.length ≤ 56 →
    let f := mkFrame dst src kind tag payload
    frameAccepted f = true ∧ f.length = payload.length + 7 ∧ frameDst f = dst ∧ frameSrc f = src ∧
    frameKind f = kind ∧ frameTag f = tag ∧ framePayload f = payload

/-! ## Requests of the Request Handler, settings and limits -/

/-- R168, R169, R172, R40: a payload shorter than two bytes, with a code that is not in the table, or of the wrong length
for its code is answered BAD_FORMAT; a subject that is no ramp, no plan or no detector index is answered BAD_VALUE
with item 0 or 0xFF. Nothing changes. The BAD_FORMAT reply has no body, but for PUSH, POP and SET BASE with a subject in 0-3 the
stack (R42: that its refused requests take in those of a wrong length is DEDUCED, log 30), its unused places 0 (DEDUCED,
log 8). -/
def Obligations.BadRequestsAreRefused : Prop :=
  (∀ (src tag : Nat) (payload : List Byte) (s : State),
    (payload.length < 2 ∨
      bodyLength (field8 (byteValues payload) 0) ((byteValues payload).drop 2) ≠ some (payload.length - 2)) →
    requestCommand src tag payload = .requestFormatReject src tag payload ∧
    ∃ t : State, exec (.requestFormatReject src tag payload) s = .next t.withStarts ∧
      (s.took (.requestFormatReject src tag payload)).repliesOnly t ⟨src, tag, 0⟩
        (if payload.length < 1 then 0 else field8 (byteValues payload) 0) .badFormat
        (let code := field8 (byteValues payload) 0
         let subject := field8 (byteValues payload) 1
         if 2 ≤ payload.length ∧ 0x22 ≤ code ∧ code ≤ 0x24 ∧ subject ≤ 3 then
           stackBytes (s.ramp (Fin.ofNat 4 subject)).stack
         else [])) ∧
  (∀ (q : Request) (plan lane reduction lifetime count view : Nat) (config : ConfigRecord) (context : ContextRecord)
    (record : PlanRecord) (entries : List EntryRecord) (s : State),
    (4 ≤ q.subject → ∀ x ∈ ([(.push q plan, 0x22), (.pop q, 0x23), (.setBase q plan, 0x24),
        (.rampConfigWrite q config, 0x30), (.rampConfigRead q, 0x31), (.start q, 0x32), (.stop q, 0x33),
        (.hold q, 0x34), (.release q, 0x35), (.resume q, 0x36), (.laneClose q lane, 0x37), (.laneOpen q lane, 0x38),
        (.share q reduction lifetime, 0x39), (.statusRead q, 0x40), (.statusClear q, 0x41), (.contextDump q, 0x42),
        (.contextLoad q context, 0x43)] : List (Instr × Nat)),
      ∃ t : State, exec x.1 s = .next t.withStarts ∧ (s.took x.1).repliesOnly t q x.2 .badValue [u8 0]) ∧
    (16 ≤ q.subject → ∀ x ∈ ([(.planWrite q record, 0x20), (.planRead q, 0x21)] : List (Instr × Nat)),
      ∃ t : State, exec x.1 s = .next t.withStarts ∧ (s.took x.1).repliesOnly t q x.2 .badValue [u8 0]) ∧
    (64 ≤ q.subject → 1 ≤ entries.length → entries.length ≤ 4 →
      ∀ x ∈ ([(.detectorWrite q entries, 0x10), (.detectorRead q count view, 0x11), (.forceOut q, 0x12),
        (.restore q, 0x13)] : List (Instr × Nat)),
      ∃ t : State, exec x.1 s = .next t.withStarts ∧ (s.took x.1).repliesOnly t q x.2 .badValue [u8 0xFF]))

/-- R170: IDENTIFY. -/
def Obligations.IdentifyAnswersTheIdentity : Prop :=
  ∀ (q : Request) (s : State), ∃ t : State, exec (.identify q) s = .next t.withStarts ∧
    (s.took (.identify q)).repliesOnly t q 0x01 .done
      [0x48#8, 9#8, 112#8, 1#8, 4#8, 3#8, 64#8, 24#8, 16#8, 4#8, u8 s.ownAddress, u8 s.site.report]

/-- R171, R22: SITE WRITE, SITE READ, HEALTH LIMITS WRITE and HEALTH LIMITS READ. That a HEALTH LIMITS WRITE with several
fields out of range names the lowest is DEDUCED, log 26. -/
def Obligations.SettingsRecordsAreWrittenWhole : Prop :=
  (∀ (q : Request) (rec : SiteRecord) (s : State),
    (∃ t : State, exec (.siteWrite q rec) s = .next t.withStarts ∧
      let u := s.took (.siteWrite q rec)
      if rec.report < 1 ∨ 127 < rec.report then u.repliesOnly t q 0x02 .badValue [u8 1]
      else if rec.refresh < 5 ∨ 50 < rec.refresh then u.repliesOnly t q 0x02 .badValue [u8 2]
      else if rec.confirm < 5 ∨ 50 < rec.confirm then u.repliesOnly t q 0x02 .badValue [u8 3]
      else { u with site := ⟨rec.report, rec.refresh, rec.confirm⟩ }.repliesOnly t q 0x02 .done []) ∧
    (∃ t : State, exec (.siteRead q) s = .next t.withStarts ∧
      (s.took (.siteRead q)).repliesOnly t q 0x03 .done [u8 s.site.report, u8 s.site.refresh, u8 s.site.confirm])) ∧
  (∀ (q : Request) (rec : LimitsRecord) (s : State),
    (∃ t : State, exec (.healthLimitsWrite q rec) s = .next t.withStarts ∧
      let u := s.took (.healthLimitsWrite q rec)
      let out (lo hi n : Nat) : Prop := n < lo ∨ hi < n
      if out 10 600 rec.stuckOn then u.repliesOnly t q 0x04 .badValue [u8 1]
      else if out 2 15 rec.chatter then u.repliesOnly t q 0x04 .badValue [u8 2]
      else if out 1 30 rec.timeout then u.repliesOnly t q 0x04 .badValue [u8 3]
      else if out 100 3000 rec.floor then u.repliesOnly t q 0x04 .badValue [u8 4]
      else if out 1 15 rec.fail then u.repliesOnly t q 0x04 .badValue [u8 5]
      else if out 0 255 rec.recovery then u.repliesOnly t q 0x04 .badValue [u8 6]
      else if out 1 20 rec.hold then u.repliesOnly t q 0x04 .badValue [u8 7]
      else
        { u with limits := ⟨rec.stuckOn, rec.chatter, rec.timeout, rec.floor, rec.fail, rec.recovery, rec.hold⟩ }.repliesOnly
          t q 0x04 .done []) ∧
    (∃ t : State, exec (.healthLimitsRead q) s = .next t.withStarts ∧
      (s.took (.healthLimitsRead q)).repliesOnly t q 0x05 .done
        [u8 (s.limits.stuckOn / 256), u8 s.limits.stuckOn, u8 s.limits.chatter, u8 s.limits.timeout,
         u8 (s.limits.floor / 256), u8 s.limits.floor, u8 s.limits.fail, u8 s.limits.recovery, u8 s.limits.hold]))

/-! ## Detectors -/

/-- R1, R4 to R7, R32, R172, R6, R17, R18, R20, R125, R135: DETECTOR WRITE of a count of 1-4 from entry `q.subject`, and the
triggers that it derives: the demand of each lane whose reference, or whose reference's substitute, was written, and the
spill of each ramp whose SPILL entries' sources it changed from those last resolved (DEDUCED, log 12) or whose SPILL
entries it moved. That a ramp's demands all come first, then its spill, then one waiting pick is DEDUCED, log 24; that a ramp
without a valid top plan skips what reads one is DESIGN CHOICE, log 14; that a HEALTH notice of cause WRITE carries the
entry's new ramp is DEDUCED, log 25; that a write of disabled over a disabled entry derives triggers too is DEDUCED,
log 34. -/
def Obligations.DetectorWriteSetsEntriesUp : Prop :=
  ∀ (q : Request) (entries : List EntryRecord) (s : State), q.subject < 64 → 1 ≤ entries.length → entries.length ≤ 4 →
    ∃ t : State, exec (.detectorWrite q entries) s = .next t.withStarts ∧
      let u := s.took (.detectorWrite q entries)
      let i := q.subject
      let n := min entries.length (4 - i % 4)
      let run := entries.take n
      let valid (j : Nat) (r : EntryRecord) : Bool := !r.flags.testBit 0 ||
        (decide (1 ≤ r.station ∧ r.station ≤ 126 ∧ r.channel ≤ 15 ∧ r.role ≤ 6 ∧ r.ramp ≤ 3 ∧ 32 ≤ r.scale ∧
          r.scale ≤ 255) && (!r.flags.testBit 1 || decide (r.substitute ≤ 63 ∧ r.substitute ≠ j)))
      let bad := (run.zipIdx.filter (fun p => !valid (i + p.2) p.1)).map (fun p => i + p.2)
      let written (j : Nat) : Bool := decide (i ≤ j ∧ j < i + n)
      if bad ≠ [] then u.repliesOnly t q 0x10 .badValue [u8 (bad.headD 0)]
      else if 24 < (stationsNamed (writeRun i run u.detectors)).length then u.repliesOnly t q 0x10 .noRoom []
      else
        (∀ j, t.detector j = if written j then (run[j - i]?.bind entryConfig).map Detector.fresh else u.detector j) ∧
        (∀ a, t.stations.get a = if t.detectors.rows.any (fun p => p.2.config.station == a) then
            some ((u.stations.get a).getD ⟨true, .all false, some u.limits.timeout⟩) else none) ∧
        u.tells t
          (run.zipIdx.flatMap (fun p => match u.detector (i + p.2), entryConfig p.1 with
            | some d, some c => if d.health = .good then [] else [healthNotice (i + p.2) c.ramp d.health .good .write .none]
            | _, _ => []))
          [replyOf u q 0x10 (if n = entries.length then .done else .partly) [u8 n]] ∧
        (let v : State := { u with detectors := t.detectors, stations := t.stations }
         let due (k : Fin 4) : Bool := v.spillSourceMoved written k || u.spillEntryMoved v k
         (∀ j, t.lastSources.get j = v.resolvedSource written due j) ∧
         t = u.told { v with
           lastSources := t.lastSources
           normal := t.normal, normalDropped := t.normalDropped, sequence := t.sequence
           ramps := Four.tabulate (fun k => v.triggeredRamp written (due k) k (u.ramp k)) } [])

/-- R172, R181, R1: DETECTOR READ, the length of each record and a disabled entry's record; and the configuration view
is the entry as a DETECTOR WRITE would carry it. The substitute byte of an entry whose substitute is absent is a
free value (DESIGN CHOICE, log 7). -/
def Obligations.DetectorReadReturnsTheRun : Prop :=
  (∀ (q : Request) (count view : Nat) (s : State), q.subject < 64 →
    ∃ t : State, exec (.detectorRead q count view) s = .next t.withStarts ∧
      let u := s.took (.detectorRead q count view)
      let n := min count (4 - q.subject % 4)
      if count < 1 ∨ 4 < count ∨ 2 < view then u.repliesOnly t q 0x11 .badValue [u8 0xFF]
      else
        (∃ records, u.tells t [] [replyOf u q 0x11 (if n = count then .done else .partly) ([u8 n, u8 view] ++ records)] ∧
          let size := if view = 0 then 7 else if view = 1 then 6 else 13
          records.length = n * size ∧
          ∀ j < n,
            let record := (records.drop (j * size)).take size
            (u.detector (q.subject + j) = none → record = List.replicate size (if view = 0 then 0#8 else 0xFF#8)) ∧
            (∀ d, u.detector (q.subject + j) = some d →
              (view = 0 → record = configView (Config.unstatedByte (u.freeCount + j)) (some d)) ∧
              (view = 1 → record = [u8 d.health.code, u8 d.symptomatic, u8 d.clean, u8 d.symptoms.code,
                u8 (usabilityCode d.usability), u8 (substituteUsedCode d.usability)]) ∧
              (view = 2 → record = measureBytes d.raw ++ measureBytes d.smoothed ++ heldBytes d.held))) ∧
        t = { u with normal := t.normal, normalDropped := t.normalDropped,
                     freeCount := if view = 0 then u.freeCount + n else u.freeCount }) ∧
  (∀ (free : Byte) (d : Detector), 1 ≤ d.config.station → d.config.station ≤ 126 → d.config.channel ≤ 15 →
    32 ≤ d.config.scale → d.config.scale ≤ 255 → (∀ j, d.config.substitute = some j → j < 64) →
    ∃ r, entryRecords (byteValues (configView free (some d))) = [r] ∧ entryConfig r = some d.config ∧
      (∀ i, d.config.substitute ≠ some i → entryValid i r = true))

/-- R30, R31, R32, R169: FORCE OUT and RESTORE of entry `q.subject`, and of an index outside 0-63. -/
def Obligations.ForceOutAndRestore : Prop :=
  (∀ (q : Request) (s : State), 64 ≤ q.subject →
    (∃ t : State, exec (.forceOut q) s = .next t.withStarts ∧ (s.took (.forceOut q)).repliesOnly t q 0x12 .badValue [u8 0xFF]) ∧
    (∃ t : State, exec (.restore q) s = .next t.withStarts ∧ (s.took (.restore q)).repliesOnly t q 0x13 .badValue [u8 0xFF])) ∧
  (∀ (q : Request) (s : State), q.subject < 64 →
    (∃ t : State, exec (.forceOut q) s = .next t.withStarts ∧
      let u := s.took (.forceOut q)
      (u.detector q.subject = none → u.repliesOnly t q 0x12 .wrongState []) ∧
      (∀ d, u.detector q.subject = some d →
        if d.health = .forcedOut then u.repliesOnly t q 0x12 .done []
        else
          (∀ j, t.detector j =
            if j = q.subject then some { d with health := .forcedOut, symptomatic := 0, clean := 0 } else u.detector j) ∧
          u.tells t [healthNotice q.subject d.config.ramp d.health .forcedOut .forceOut .none] [replyOf u q 0x12 .done []] ∧
          t = { u with detectors := t.detectors, normal := t.normal, normalDropped := t.normalDropped,
                       sequence := t.sequence })) ∧
    (∃ t : State, exec (.restore q) s = .next t.withStarts ∧
      let u := s.took (.restore q)
      (u.detector q.subject = none → u.repliesOnly t q 0x13 .wrongState []) ∧
      (∀ d, u.detector q.subject = some d →
        if d.health = .good ∨ d.health = .suspect then u.repliesOnly t q 0x13 .wrongState []
        else
          (∀ j, t.detector j =
            if j = q.subject then some { d with health := .good, symptomatic := 0, clean := 0 } else u.detector j) ∧
          u.tells t [healthNotice q.subject d.config.ramp d.health .good .restore .none] [replyOf u q 0x13 .done []] ∧
          t = { u with detectors := t.detectors, normal := t.normal, normalDropped := t.normalDropped,
                       sequence := t.sequence })))

/-- R10 to R16, R8: a scan frame's effect on the stations and the entries; a frame that is not acted on changes
nothing. What it does to the ramps and to the last resolved sources, ScanFramesDriveTriggers says. -/
def Obligations.ScanFramesUpdateTheirEntries : Prop :=
  ∀ (src span count : Nat) (records : List ScanRecord) (s : State),
    ∃ t : State, exec (.scanFrame src span count records) s = .next t.withStarts ∧
      let u := s.took (.scanFrame src span count records)
      ((u.stations.get src = none ∨ span < 50 ∨ 1000 < span ∨ count < 1 ∨ 8 < count ∨ records.length ≠ count) → t = u) ∧
      (∀ st, u.stations.get src = some st → 50 ≤ span → span ≤ 1000 → 1 ≤ count → count ≤ 8 → records.length = count →
        (∀ a, t.stations.get a =
          if a = src then some { st with live := true, timer := some u.limits.timeout } else u.stations.get a) ∧
        (∀ i d, u.detector i = some d → recordFor src records d = none → t.detector i = some d) ∧
        (∀ i d r, u.detector i = some d → recordFor src records d = some r →
          let dark := (u.ramp d.config.ramp).state = .dark
          let on := min r.onTime span
          let run := if r.presence = 1 then min 3600000 (if on = span then d.presenceRun + span else on) else 0
          t.detector i = some { d with
            arrivals := if dark then d.arrivals else min 65535 (d.arrivals + r.arrivals)
            onTime := if dark then d.onTime else min 655350 (d.onTime + on)
            span := if dark then d.span else min 655350 (d.span + span)
            presence := decide (r.presence = 1)
            previous := decide (r.presence = 1)
            presenceRun := run
            absenceRun := if r.presence = 1 then 0
              else min 3600000 (if on = 0 then d.absenceRun + span else span - on)
            symptoms := if dark then d.symptoms else { d.symptoms with
              chatter := d.symptoms.chatter || decide (u.limits.chatter ≤ r.arrivals)
              stuckOn := d.symptoms.stuckOn || decide (u.limits.stuckOn * 1000 ≤ run) } }) ∧
        (∀ i, (t.detector i).isSome = (u.detector i).isSome) ∧
        (∀ k, (t.ramp k).apartFromRelease = (u.ramp k).apartFromRelease) ∧
        t = { u with detectors := t.detectors, stations := t.stations, lastSources := t.lastSources, ramps := t.ramps,
                     urgent := t.urgent, urgentDropped := t.urgentDropped })

/-- R17, R18, R19, R20, R125, R128, R130, R135, R138, R15, R147: the triggers of a scan frame that is acted on: what each ramp
becomes. Each lane's passage events are counted; each concerned lane's demand is derived from its source, with what that
does to the wait order; each concerned ramp's spill is evaluated, with what that does to its flush; a waiting pick is
made again; the sources of the concerned SPILL entries and of the evaluated ramps' are resolved (DEDUCED, log 12); and the
heads whose targets changed are told them. That a ramp's demands all come first, then its spill, then one waiting pick is
DEDUCED, log 24; that a ramp without a valid top plan skips what reads one is DESIGN CHOICE, log 14. -/
def Obligations.ScanFramesDriveTriggers : Prop :=
  ∀ (src span count : Nat) (records : List ScanRecord) (s : State),
    ∃ t : State, exec (.scanFrame src span count records) s = .next t.withStarts ∧
      let u := s.took (.scanFrame src span count records)
      ((u.stations.get src).isSome = true → 50 ≤ span → span ≤ 1000 → 1 ≤ count → count ≤ 8 → records.length = count →
        let touched (i : Nat) : Bool := ((u.detector i).bind (recordFor src records)).isSome
        let heard : State := { u with stations := t.stations }
        let v : State := { u with detectors := t.detectors, stations := t.stations }
        let events (k : Fin 4) (l : Fin 3) : Nat :=
          match (((u.ramp k).laneConfig l).bind (fun c => c.passage.bind (fun i =>
              ((heard.source k .passage i).bind u.detector).map (fun d => (c.departure, d))))) with
          | some (departure, d) =>
            ((recordFor src records d).map (fun r =>
              if departure then r.arrivals + (if d.previous then 1 else 0) - r.presence else r.arrivals)).getD 0
          | none => 0
        let passed (k : Fin 4) : Ramp := if (u.ramp k).state = .dark then u.ramp k else { u.ramp k with
          lanes := Three.tabulate (fun l => ((u.ramp k).lane l).passages (events k l)) }
        let due (k : Fin 4) : Bool := (v.spillRows k).any (v.touches touched)
        (∀ i, t.lastSources.get i = v.resolvedSource touched due i) ∧
        t = u.told { v with
          lastSources := t.lastSources
          ramps := Four.tabulate (fun k => v.triggeredRamp touched (due k) k (passed k)) } [])

/-- R138: one passage event counts as served or as a violation by the lane's state, and the extra count by the release
size held; a lane that is OFF counts nothing. -/
def Obligations.PassagesAreCounted : Prop :=
  ∀ (x : Lane) (n : Nat), x.served ≤ 255 → x.window ≤ 255 → x.extra ≤ 255 → x.violations ≤ 255 → x.heldSize ≤ 2 →
    let y := x.passages n
    (x.cycle = .off → y = x) ∧
    (x.cycle = .ready → y = { x with violations := min 255 (x.violations + n) }) ∧
    (∀ m, x.cycle = .red m → x.grace = none → y = { x with violations := min 255 (x.violations + n) }) ∧
    (x.windowOpen = true → y = { x with
      served := min 255 (x.served + n), window := min 255 (x.window + n),
      extra := min 255 (x.extra + (n - (x.heldSize - x.window))) }) ∧
    (x.windowOpen = true ↔ (∃ m, x.cycle = .green m) ∨ (∃ m, x.cycle = .amber m) ∨
      (∃ m, x.cycle = .red m ∧ x.grace ≠ none))

/-- R8, R17, R18, R20, R125, R128, R130, R135: STATION_TIMER_EXPIRY: a running timer's expiry silences the station, derives the
demand of each lane whose reference, or whose reference's substitute, names it, and has the spill of each ramp
evaluated whose SPILL entries' sources it changed from those last resolved, be it that a FORCE OUT, a RESTORE or a health
change came in between (DEDUCED, log 12); of a station whose timer does not run it is no event (DEDUCED, log 4). That a
ramp's demands all come first, then its spill, then one waiting pick is DEDUCED, log 24; that a ramp without a valid top plan
skips what reads one is DESIGN CHOICE, log 14. A trigger's source is the named entry, else its substitute, else none; and
the demand that follows. -/
def Obligations.StationTimersAndTriggerSources : Prop :=
  (∀ (address : Nat) (s : State), ∃ t : State, exec (.stationTimerExpiry address) s = .next t.withStarts ∧
    ((s.stations.get address).bind (fun st => st.timer) = none → t = s) ∧
    ((s.stations.get address).bind (fun st => st.timer) ≠ none →
      (∀ a, t.stations.get a = if a = address then some ⟨false, .all true, none⟩ else s.stations.get a) ∧
      (let v : State := { s with stations := t.stations }
       let named (i : Nat) : Bool := decide ((s.detector i).map (fun d => d.config.station) = some address)
       let due (k : Fin 4) : Bool := v.spillSourceMoved named k
       (∀ i, t.lastSources.get i = v.resolvedSource named due i) ∧
       t = s.told { v with
         lastSources := t.lastSources
         ramps := Four.tabulate (fun k => v.triggeredRamp named (due k) k (s.ramp k)) } []))) ∧
  (∀ (s : State) (k : Fin 4) (role : Role) (i : Nat),
    let sound (d : Detector) : Prop :=
      (d.health = .good ∨ d.health = .suspect) ∧ (s.stations.get d.config.station).map (fun st => st.live) = some true
    (s.detector i = none → s.source k role i = none) ∧
    (∀ d, s.detector i = some d → (d.config.ramp ≠ k ∨ d.config.role ≠ role) → s.source k role i = none) ∧
    (∀ d, s.detector i = some d → d.config.ramp = k → d.config.role = role →
      (sound d → s.source k role i = some i) ∧
      (¬sound d → ∀ j e, d.config.substitute = some j → s.detector j = some e → e.config.ramp = k → sound e →
        s.source k role i = some j) ∧
      (¬sound d → (d.config.substitute = none ∨ ∃ j, d.config.substitute = some j ∧
        ∀ e, s.detector j = some e → e.config.ramp ≠ k ∨ ¬sound e) → s.source k role i = none)) ∧
    (∀ j, s.source k role i = some j → ∃ d e, s.detector i = some d ∧ d.config.ramp = k ∧ d.config.role = role ∧
      s.detector j = some e ∧ e.config.ramp = k ∧ sound e ∧ (j ≠ i → ¬sound d ∧ d.config.substitute = some j)) ∧
    (∀ c : LaneConfig, c.demand = none → s.demandNow k c = true) ∧
    (∀ c : LaneConfig, c.demand = some i → s.source k .demand i = none → s.demandNow k c = true) ∧
    (∀ (c : LaneConfig) j e, c.demand = some i → s.source k .demand i = some j → s.detector j = some e →
      s.demandNow k c = if c.inverted then !e.presence else e.presence))

/-! ## The interval close -/

/-- R27, R28, R29: the health update of one entry. -/
def Obligations.HealthUpdateFollowsTheTables : Prop :=
  ∀ (lim : Limits) (d : Detector),
    (d.health = .good → d.judge lim false = { d with symptomatic := 0 }) ∧
    (d.health = .good → d.judge lim true = { d with health := .suspect, symptomatic := 1 }) ∧
    (d.health = .suspect → d.judge lim false = { d with health := .good, symptomatic := 0 }) ∧
    (d.health = .suspect → d.symptomatic + 1 < lim.fail →
      d.judge lim true = { d with symptomatic := d.symptomatic + 1 }) ∧
    (d.health = .suspect → lim.fail ≤ d.symptomatic + 1 →
      d.judge lim true = { d with health := .failed, symptomatic := 0, clean := 0 }) ∧
    (d.health = .failed → d.judge lim true = { d with clean := 0 }) ∧
    (d.health = .failed → (lim.recovery = 0 ∨ min 255 (d.clean + 1) < lim.recovery) →
      d.judge lim false = { d with clean := min 255 (d.clean + 1) }) ∧
    (d.health = .failed → lim.recovery ≠ 0 → lim.recovery ≤ min 255 (d.clean + 1) →
      d.judge lim false = { d with health := .good, symptomatic := 0, clean := 0 }) ∧
    (d.health = .forcedOut → ∀ b, d.judge lim b = { d with symptomatic := 0, clean := 0 })

/-- R57 to R60: the raw measures are the quotients rounded half up, the flow saturating at 9999, the occupancy never above
10000, and none without covered span; a smoothed value moves toward the raw one by the weighted difference, rounded
half away from zero, and lies between the previous value and the raw one; an entry without history takes the raw
measures, and a close without raw measures keeps the history. That the history stands where the top plan is invalid is
DESIGN CHOICE, log 14. -/
def Obligations.MeasuresOfOneEntry : Prop :=
  (∀ arrivals onTime span : Nat,
    (span = 0 → rawMeasure arrivals onTime span = none) ∧
    (span ≠ 0 → ∃ m v, rawMeasure arrivals onTime span = some m ∧ m.flow = min 9999 v ∧
      2 * span * v ≤ 2 * (arrivals * 3600000) + span ∧ 2 * (arrivals * 3600000) + span < 2 * span * (v + 1) ∧
      2 * span * m.occ ≤ 2 * (onTime * 10000) + span ∧ 2 * (onTime * 10000) + span < 2 * span * (m.occ + 1) ∧
      (onTime ≤ span → m.occ ≤ 10000))) ∧
  (∀ w previous raw : Nat, 1 ≤ w → w ≤ 16 →
    let v := smoothValue w previous raw
    min previous raw ≤ v ∧ v ≤ max previous raw ∧ (w = 16 → v = raw) ∧
    (previous ≤ raw → v - previous = (2 * ((raw - previous) * w) + 16) / 32) ∧
    (raw ≤ previous → previous - v = (2 * ((previous - raw) * w) + 16) / 32)) ∧
  (∀ (w : Option Nat) (n : Nat) (previous : Option Measure) (p m : Measure),
    smoothMeasure w previous none = previous ∧ smoothMeasure none previous (some m) = previous ∧
    smoothMeasure (some n) none (some m) = some m ∧
    smoothMeasure (some n) (some p) (some m) = some ⟨smoothValue n p.flow m.flow, smoothValue n p.occ m.occ⟩)

/-- R55, R26, R57 to R60, R24, R25, R9, R32, R64 to R66, R70: the interval close of ramp `k`: what it does to the entries,
to the marks, to the job queue and to the timer. -/
def Obligations.IntervalCloseJudgesTheEntries : Prop :=
  ∀ (k : Fin 4) (s : State) (held : Nat) (c : RampConfig), s.detectors.wf 64 = true →
    (s.ramp k).intervalTimer = some held → (s.ramp k).config = some c →
    ∃ t : State, exec (.intervalClose k) s = .next t.withStarts ∧
      let ms := c.interval * 1000
      let raw (d : Detector) := rawMeasure d.arrivals d.onTime d.span
      let smoothed (d : Detector) := smoothMeasure ((s.topPlan k).map (fun p => p.weight)) d.smoothed (raw d)
      let short (d : Detector) : Bool := decide (2 * d.span < ms) || decide (d.span = 0)
      let peers (i : Nat) (d : Detector) : List Nat :=
        (s.detectors.rows.filter (fun p => decide (p.1 ≠ i ∧ p.2.config.ramp = k ∧ p.2.config.role = d.config.role ∧
          (p.2.health = .good ∨ p.2.health = .suspect)) && !short p.2)).filterMap
            (fun p => (smoothed p.2).map (fun m => m.flow))
      let silent (i : Nat) (d : Detector) : Bool :=
        decide (d.config.role = .mainUp ∨ d.config.role = .mainDown ∨ d.config.role = .rampIn) &&
        decide (d.arrivals = 0) && decide (peers i d ≠ []) &&
        decide (s.limits.floor ≤ (2 * (peers i d).sum + (peers i d).length) / (2 * (peers i d).length))
      let mark (d : Detector) : Bool := ((s.stations.get d.config.station).map (fun st => st.marks.get k)).getD false
      let found (i : Nat) (d : Detector) : Symptoms := { d.symptoms with
        stationSilent := d.symptoms.stationSilent || mark d
        coverageShort := d.symptoms.coverageShort || short d
        silence := d.symptoms.silence || silent i d }
      let judged (i : Nat) (d : Detector) := d.judge s.limits (found i d).any
      let closing (i : Nat) (d : Detector) : Closing := {
        entry := { d with arrivals := 0, onTime := 0, span := 0, raw := raw d, smoothed := smoothed d, symptoms := .none,
                          health := (judged i d).health, symptomatic := (judged i d).symptomatic,
                          clean := (judged i d).clean },
        arrivals := d.arrivals, span := d.span }
      let all := (s.detectors.rows.filter (fun p => decide (p.2.config.ramp = k))).map (fun p => (p.1, closing p.1 p.2))
      let supplied := all.map (fun p => (p.1, closeUsability s.limits.hold ms all p.2))
      (∀ i d, s.detector i = some d → d.config.ramp ≠ k → t.detector i = some d) ∧
      (∀ i d, s.detector i = some d → d.config.ramp = k →
        t.detector i = some (closeUsability s.limits.hold ms all (closing i d)).1) ∧
      (∀ i, s.detector i = none → t.detector i = none) ∧
      (∀ a, t.stations.get a = (s.stations.get a).map (fun st => { st with marks := st.marks.set k (!st.live) })) ∧
      t.jobs = (if s.jobs.any (fun j => j.ramp == k) then s.jobs
        else s.jobs ++ [⟨k, .interval (closeRecord (supplied.map (fun p => p.2)) (s.ramp k).spill)⟩]) ∧
      s.tells t (s.detectors.rows.flatMap (fun p =>
        if p.2.config.ramp = k ∧ (judged p.1 p.2).health ≠ p.2.health then
          [healthNotice p.1 k p.2.health (judged p.1 p.2).health .close (found p.1 p.2)] else [])) [] ∧
      t = { s with detectors := t.detectors, stations := t.stations, jobs := t.jobs, normal := t.normal,
                   normalDropped := t.normalDropped, sequence := t.sequence,
                   ramps := s.ramps.set k { s.ramp k with
                     intervalTimer := some c.interval,
                     overrun := (s.ramp k).overrun || s.jobs.any (fun j => j.ramp == k) } }

/-- R33 to R36, R62, R64: the usability step of one entry, `c` after the health update: the outcome, what it supplies and
what becomes of its held measures; and the group measures, each from the members of its role alone, empty without
a member. -/
def Obligations.UsabilityAndGroupMeasures : Prop :=
  (∀ (hold ms : Nat) (all : List (Nat × Closing)) (c : Closing),
    let serves (d : Detector) : Prop := d.health = .good ∨ d.health = .suspect
    let covered (x : Closing) : Prop := x.span ≠ 0 ∧ ms ≤ 2 * x.span
    let out := closeUsability hold ms all c
    (serves c.entry → covered c → ∀ m, c.entry.smoothed = some m →
      out.2 = some m ∧ out.1 = { c.entry with
        usability := some .own, held := if c.entry.config.drop then none else some ⟨m.flow, m.occ, hold⟩ }) ∧
    (¬serves c.entry → ∀ j e m, c.entry.config.substitute = some j → rowsGet all j = some e → serves e.entry →
      covered e → e.entry.smoothed = some m →
      out.1 = { c.entry with usability := some (.substitute j) } ∧
      out.2 = some ⟨min 9999 ((2 * (m.flow * c.entry.config.scale) + 64) / 128),
                    min 10000 ((2 * (m.occ * c.entry.config.scale) + 64) / 128)⟩) ∧
    ((serves c.entry ∧ (¬covered c ∨ c.entry.smoothed = none)) ∨
      (¬serves c.entry ∧ (c.entry.config.substitute = none ∨ ∃ j, c.entry.config.substitute = some j ∧
        ((rowsGet all j).map (fun e => decide (serves e.entry ∧ covered e ∧ e.entry.smoothed ≠ none))).getD false =
          false)) →
      (∀ h, c.entry.held = some h → c.entry.config.drop = false → 1 ≤ h.count →
        out.2 = some ⟨h.flow, h.occ⟩ ∧ out.1 = { c.entry with
          usability := some .held, held := if h.count = 1 then none else some { h with count := h.count - 1 } }) ∧
      ((c.entry.held = none ∨ c.entry.config.drop = true) →
        out.2 = none ∧ out.1 = { c.entry with usability := some .unusable }))) ∧
  (∀ (supplied : List (Detector × Option Measure)) (spill : Bool),
    let r := closeRecord supplied spill
    let group (role : Role) := supplied.filterMap (fun p => if p.1.config.role = role then p.2 else none)
    let occ (role : Role) := (group role).map (fun m => m.occ)
    let flow (role : Role) := (group role).map (fun m => m.flow)
    (r.od = none ↔ occ .mainDown = []) ∧ (r.qu = none ↔ flow .mainUp = []) ∧
    (r.qdem = none ↔ flow .rampIn = []) ∧ (r.qocc = none ↔ occ .queue = []) ∧ r.spill = spill ∧
    (∀ v, r.od = some v → v = (2 * (occ .mainDown).sum + (occ .mainDown).length) / (2 * (occ .mainDown).length)) ∧
    (∀ v, r.qu = some v → v = min 30000 (flow .mainUp).sum) ∧
    (∀ v, r.qdem = some v → v = min 30000 (flow .rampIn).sum) ∧
    (∀ v, r.qocc = some v → v ∈ occ .queue ∧ ∀ w ∈ occ .queue, w ≤ v))

/-! ## Plans and stacks -/

/-- R38 to R41, R125, R177, R181: PLAN WRITE and PLAN READ of a plan 0-15: a read returns the bytes that were written, but for
the two bits of the mask that name no flag; and the lowest field that fails its range or cross check. -/
def Obligations.PlanWriteReplacesTheRecord : Prop :=
  (∀ (q : Request) (rec : PlanRecord) (s : State), q.subject < 16 →
    ∃ t : State, exec (.planWrite q rec) s = .next t.withStarts ∧
      let u := s.took (.planWrite q rec)
      (∀ n, planFault rec = some n → u.repliesOnly t q 0x20 .badValue [u8 n]) ∧
      (planFault rec = none →
        (∀ n, t.plans.get n = if n = q.subject then some (planOf rec) else u.plans.get n) ∧
        u.tells t [] [replyOf u q 0x20 .done []] ∧
        t = u.told { u with
          plans := t.plans, normal := t.normal, normalDropped := t.normalDropped
          ramps := Four.tabulate (fun k =>
            if (u.ramp k).top = q.subject then (u.ramp k).pick (planOf rec) else u.ramp k) } [])) ∧
  (∀ (q : Request) (s : State), q.subject < 16 → ∃ t : State, exec (.planRead q) s = .next t.withStarts ∧
    let u := s.took (.planRead q)
    (u.plans.get q.subject = none → u.repliesOnly t q 0x21 .wrongState []) ∧
    (∀ p, u.plans.get q.subject = some p → u.repliesOnly t q 0x21 .done p.record.bytes)) ∧
  (∀ rec : PlanRecord, rec.wf = true → planFault rec = none →
    (planOf rec).record.bytes = { rec with mask := rec.mask % 64 }.bytes) ∧
  (∀ rec : PlanRecord,
    let out (lo hi n : Nat) : Bool := decide (n < lo) || decide (hi < n)
    let checks : List (Nat × Bool) := [(1, out 180 3600 rec.rMin), (2, out rec.rMin 5400 rec.rMax),
      (3, out rec.rMin rec.rMax rec.rInit), (4, out 500 4000 rec.target), (5, out 0 255 rec.gain),
      (6, out 0 9999 rec.capacity), (7, out 0 5400 rec.stepLimit), (8, out 0 10000 rec.queueThreshold),
      (9, out 0 2000 rec.queueBoost), (10, out 1000 10000 rec.occCeiling), (11, out 1000 30000 rec.flowCeiling),
      (12, out 1 16 rec.weight), (13, out 5 50 rec.green), (14, out 0 30 rec.amber), (15, out 10 100 rec.minRed),
      (16, out 0 20 rec.grace), (17, out 1 2 rec.size), (18, out 0 2 rec.rounding), (19, out 0 1 rec.gating),
      (20, out 0 2 rec.leveling), (21, out 1 15 rec.starvationLimit), (22, out 2 60 rec.spillTime),
      (23, out 5 400 rec.flushPeriod), (24, out 10 400 rec.fallbackPeriod), (25, out 0 15 rec.recoveryIntervals)]
    planFault rec = ((checks.filter (fun x => x.2)).map (fun x => x.1)).head?)

/-- R47, R94: what raises STACK, and what setting fault pending does to a ramp that is, or is held from, FALLBACK. -/
def Obligations.StackFlagAndFaultPending : Prop :=
  (∀ r : Ramp,
    let recovering := r.state = .fallback ∨ r.state = .suspended .fallback
    r.setFaultPending = { r with
      faultPending := true
      recovery := if recovering then 0 else r.recovery
      clock := { r.clock with
        staged := if recovering ∧ (r.clock.staged.map (fun x => x.mark)) = some .returning then none
          else r.clock.staged } }) ∧
  (∀ (k : Fin 4) (s : State),
    let r := s.ramp k
    let flagged := { r with sticky := { r.sticky with stack := true }, last := { r.last with stack := true } }
    let only : Flags := ⟨false, false, false, false, false, true⟩
    if (s.topPlan k).map (fun p => p.unmasked.stack) = some true ∧ r.state ≠ .dark ∧ r.state ≠ .clearing then
      s.rampSet (s.stackFlag k) k flagged.setFaultPending [faultNotice k .stack r.state only only r.top] []
    else s.rampSet (s.stackFlag k) k flagged [] [])

/-- R44, R45, R46, R42, R43, R125: PUSH, POP and SET BASE of a ramp 0-3. The places of the stack in a reply that are not
used hold 0 (DEDUCED, log 8). -/
def Obligations.StackRequestsChangeTheStack : Prop :=
  ∀ (q : Request) (plan : Nat) (k : Fin 4) (s : State), q.subject = k.val →
    let picked (s : State) (r : Ramp) : Ramp := ((s.plans.get r.top).map (fun p => r.pick p)).getD r
    (∃ t : State, exec (.push q plan) s = .next t.withStarts ∧
      let u := s.took (.push q plan)
      let st := (u.ramp k).stack
      if 15 < plan ∨ u.plans.get plan = none then u.repliesOnly t q 0x22 .badValue (stackBytes st)
      else if 4 ≤ st.length then (u.stackFlag k).repliesOnly t q 0x22 .stackFault (stackBytes st)
      else u.rampEvent t k (picked u { u.ramp k with stack := st ++ [plan] }) []
        [replyOf u q 0x22 .done (stackBytes (st ++ [plan]))]) ∧
    (∃ t : State, exec (.pop q) s = .next t.withStarts ∧
      let u := s.took (.pop q)
      let st := (u.ramp k).stack
      if st.length ≤ 1 then (u.stackFlag k).repliesOnly t q 0x23 .stackFault (stackBytes st)
      else if u.plans.get (st.dropLast.getLast?.getD 0) = none ∧ (u.ramp k).state ≠ .dark then
        u.repliesOnly t q 0x23 .badValue (stackBytes st)
      else u.rampEvent t k (picked u { u.ramp k with stack := st.dropLast }) []
        [replyOf u q 0x23 .done (stackBytes st.dropLast)]) ∧
    (∃ t : State, exec (.setBase q plan) s = .next t.withStarts ∧
      let u := s.took (.setBase q plan)
      let st := (u.ramp k).stack
      if 15 < plan ∨ u.plans.get plan = none then u.repliesOnly t q 0x24 .badValue (stackBytes st)
      else u.rampEvent t k (picked u { u.ramp k with stack := plan :: st.drop 1 }) []
        [replyOf u q 0x24 .done (stackBytes (plan :: st.drop 1))])

/-! ## Rate computation -/

/-- R75 to R78, R80, R81, R72, R89, R90: the terms of an INTERVAL job, step by step, and the value that reaches the clamp:
an implausible job holds r_prev; a START job takes its carried rate, or r_init, with no step limit. -/
def Obligations.RateTermsFollowTheSteps : Prop :=
  (∀ (x : Snapshot) (c : CloseRecord) (pre : Int),
    let p := x.plan
    let prev : Int := x.prev
    (prev = ((x.rPrev.getD p.rInit : Nat) : Int)) ∧
    (implausible p c = true ↔
      (∃ o, c.od = some o ∧ p.occCeiling < o) ∨ (∃ v, c.qu = some v ∧ p.flowCeiling < v)) ∧
    (c.od = none → feedbackRate x c = prev) ∧
    (∀ o, c.od = some o →
      let num := (p.gain : Int) * ((p.target : Int) - (o : Int))
      let term := feedbackRate x c - prev
      (0 ≤ num → 100 * (2 * term - 1) ≤ 2 * num ∧ 2 * num < 100 * (2 * term + 1)) ∧
      (num < 0 → 100 * (2 * term - 1) < 2 * num ∧ 2 * num ≤ 100 * (2 * term + 1))) ∧
    ((p.capacity = 0 ∨ c.qu = none) → localRate x c = feedbackRate x c) ∧
    (p.capacity ≠ 0 → ∀ v, c.qu = some v →
      localRate x c = min (feedbackRate x c) (max 0 ((p.capacity : Int) - (v : Int)))) ∧
    ((x.share = none ∨ c.qdem = none) → coordinatedRate x c = localRate x c) ∧
    (∀ reduction v, x.share = some reduction → c.qdem = some v →
      coordinatedRate x c = min (localRate x c) (max 0 ((v : Int) - (reduction : Int)))) ∧
    (overrideInForce p c = true ↔
      c.spill = true ∨ (p.queueThreshold ≠ 0 ∧ ∃ v, c.qocc = some v ∧ p.queueThreshold ≤ v)) ∧
    (overriddenRate x c = if overrideInForce p c = true then
      max (coordinatedRate x c) ((c.qdem.getD 0 : Nat) + (p.queueBoost : Nat) : Int) else coordinatedRate x c) ∧
    (missing x c = true ↔ c.od = none ∨ (p.capacity ≠ 0 ∧ c.qu = none) ∨ (x.share ≠ none ∧ c.qdem = none) ∨
      (p.queueThreshold ≠ 0 ∧ c.qocc = none)) ∧
    (p.stepLimit = 0 → ∀ b, stepLimited p prev pre b = pre) ∧
    (p.stepLimit ≠ 0 →
      (prev + (p.stepLimit : Int) < pre →
        stepLimited p prev pre false = prev + (p.stepLimit : Int) ∧ stepLimited p prev pre true = pre) ∧
      (pre < prev - (p.stepLimit : Int) → ∀ b, stepLimited p prev pre b = prev - (p.stepLimit : Int)) ∧
      (prev - (p.stepLimit : Int) ≤ pre → pre ≤ prev + (p.stepLimit : Int) → ∀ b, stepLimited p prev pre b = pre))) ∧
  (∀ (x : Snapshot) (c : CloseRecord) (carried : Option Nat),
    (implausible x.plan c = true → computeInterval x c = finishRate x.plan x.lanes x.prev false true) ∧
    (implausible x.plan c = false → computeInterval x c =
      finishRate x.plan x.lanes (stepLimited x.plan x.prev (overriddenRate x c) (overrideInForce x.plan c))
        (missing x c) false) ∧
    computeStart x carried = finishRate x.plan x.lanes ((carried.getD x.plan.rInit : Nat) : Int) false false)

/-- R82, R83, R84, R90, R39: the clamp, the conversion and the lane floor, with their flags: the rate lies in the plan's
band, the period is the quotient rounded by the mode, never below the least period that the lanes can carry, and,
for a valid plan, the quotient lies in 6-400 ds, the floor in 5-180 ds and the period in 5-400 ds. -/
def Obligations.PeriodsAreConvertedAndFloored : Prop :=
  ∀ (p : Plan) (n : Nat) (v : Int) (m i : Bool), 1 ≤ p.rMin → p.rMin ≤ p.rMax →
    let res := finishRate p n v m i
    let r := res.rate
    let whole := 36000 * p.size
    let lanes := if n = 0 then 1 else n
    let quotient := convertRate p r
    ((p.rMax : Int) < v → r = p.rMax) ∧ (v < (p.rMin : Int) → r = p.rMin) ∧
    ((p.rMin : Int) ≤ v → v ≤ (p.rMax : Int) → (r : Int) = v) ∧ p.rMin ≤ r ∧ r ≤ p.rMax ∧
    (p.rounding = .nearest → 2 * r * quotient ≤ 2 * whole + r ∧ 2 * whole + r < 2 * r * (quotient + 1)) ∧
    (p.rounding = .short → r * quotient ≤ whole ∧ whole < r * (quotient + 1)) ∧
    (p.rounding = .long → whole ≤ r * quotient ∧ r * quotient < whole + r) ∧
    p.green + p.amber ≤ laneFloor p n ∧ p.green + p.amber + p.minRed ≤ laneFloor p n * lanes ∧
    (∀ f, p.green + p.amber ≤ f → p.green + p.amber + p.minRed ≤ f * lanes → laneFloor p n ≤ f) ∧
    res.period = max quotient (laneFloor p n) ∧
    res.flags = { miss := m, impl := i, high := decide ((p.rMax : Int) < v) || decide (quotient < laneFloor p n),
                  low := decide (v < (p.rMin : Int)), round := decide (¬ r ∣ whole), stack := false } ∧
    (∀ rec, planFault rec = none → p = planOf rec →
      6 ≤ quotient ∧ quotient ≤ 400 ∧ 5 ≤ laneFloor p n ∧ laneFloor p n ≤ 180 ∧ 5 ≤ res.period ∧ res.period ≤ 400)

/-- R70, R71, R72, R79, R89: a job starts when it heads the queue of an idle RCU, at the end of the event that brought that
about (DEDUCED, log 29), and reads its snapshot; a START job reads no share record and no r_prev. JOB_START where no start is due is no event (DEDUCED, log 4); which job's read
marks the share record is DEDUCED, log 13. -/
def Obligations.JobStartReadsTheSnapshot : Prop :=
  ∀ s : State,
    exec .jobStart s = .next s.withStarts ∧ s.withStarts = s.startJob.startFrame ∧
    ((s.rcu ≠ .idle ∨ s.jobs = []) → s.startJob = s) ∧
    (∀ j rest, s.rcu = .idle → s.jobs = j :: rest →
      let r := s.ramp j.ramp
      (s.topPlan j.ramp = none → s.startJob = { s with rcu := .busy none }) ∧
      (∀ p, s.topPlan j.ramp = some p → s.startJob = { s with
        rcu := .busy (some {
          number := r.top, plan := p
          share := if j.isInterval then r.share.map (fun y => y.reduction) else none
          rPrev := if j.isInterval then r.rPrev else none
          lanes := (allLanes.filter (fun l => r.used l && (r.lane l).isOpen && !r.disabled l)).length }),
        ramps := s.ramps.set j.ramp
          (if j.isInterval then { r with share := r.share.map (fun y => { y with read := true }) } else r) }))

/-- R71, R72, R85, R86, R87, R88, R91, R94, R98, R99, R79, R129, R139: the completion of an INTERVAL job; one that read no
plan, as its ramp's top plan was invalid, is discarded. -/
def Obligations.IntervalJobsDeliver : Prop :=
  (∀ (s : State) (c : CloseRecord) (k : Fin 4) (rest : List Job),
    s.rcu = .busy none → s.jobs = ⟨k, .interval c⟩ :: rest →
    exec .intervalJobCompletion s = .next { s with jobs := rest, rcu := .idle }.withStarts) ∧
  (∀ (s : State) (x : Snapshot) (c : CloseRecord) (k : Fin 4) (rest : List Job),
    s.rcu = .busy (some x) → s.jobs = ⟨k, .interval c⟩ :: rest →
    ∃ t : State, exec .intervalJobCompletion s = .next t.withStarts ∧
      let base := { s with jobs := rest, rcu := .idle }
      let r := s.ramp k
      let res := computeInterval x c
      let flagged := { r with last := res.flags, sticky := r.sticky.union res.flags }
      let withheld := (res.flags.inter x.plan.unmasked).any
      let used := { flagged with
        rPrev := some res.rate, lastResult := .accepted, clock := { r.clock with computed := some res.period } }
      let clean := min 15 (r.recovery + 1)
      let returns := x.plan.recoveryIntervals ≠ 0 ∧ x.plan.recoveryIntervals ≤ clean
      let filtered := (r.clock.flush.map (fun f => decide (f < res.period))).getD false
      let delivered : Ramp :=
        if r.state = .clearing then flagged
        else if withheld then { flagged with lastResult := .withheld }.setFaultPending
        else if r.state = .fallback ∨ r.state = .suspended .fallback then
          { used with
            recovery := clean
            faultPending := if returns then false else r.faultPending
            clock := { used.clock with
              staged := if returns then some ⟨res.period, .returning⟩ else r.clock.staged } }
        else { used with clock := { used.clock with
          staged := if filtered then r.clock.staged else some ⟨res.period, .computed⟩ } }
      let counted := { delivered with share := r.share.bind (fun y =>
        if y.read then (if y.lifetime ≤ 1 then none else some { y with lifetime := y.lifetime - 1, read := false })
        else some y) }
      let notices := (if r.state ≠ .clearing ∧ withheld = true then
          [faultNotice k .withheld r.state res.flags (res.flags.inter x.plan.unmasked) x.number] else []) ++
        [(Config.kindReport, reportPayload k counted res.flags c x.number)]
      if r.state = .dark then t = base
      else base.rampSet t k { counted with
        overrun := false
        lanes := Three.tabulate (fun l =>
          { r.lane l with greens := 0, served := 0, violations := 0, extra := 0 }) } notices [])

/-- R182, R139, R88: the 26 bytes of an interval report. -/
def Obligations.ReportsAreLaidOut : Prop :=
  ∀ (k : Fin 4) (r : Ramp) (flags : Flags) (c : CloseRecord) (number : Nat),
    let b := reportPayload k r flags c number
    let word (i v : Nat) : Prop := b[i]? = some (u8 (v / 256)) ∧ b[i + 1]? = some (u8 v)
    b.length = 26 ∧ b[0]? = some (u8 k.val) ∧
    b[1]? = some (u8 (r.state.code + (if c.spill then 64 else 0) + (if r.overrun then 128 else 0))) ∧
    b[2]? = some (u8 flags.code) ∧ word 3 (r.rPrev.getD 0) ∧
    word 5 (if r.clock.state = .stopped then 0 else r.clock.active.getD 0) ∧
    word 7 (c.od.getD 0xFFFF) ∧ word 9 (c.qu.getD 0xFFFF) ∧ word 11 (c.qdem.getD 0xFFFF) ∧
    word 13 (c.qocc.getD 0xFFFF) ∧
    b[15]? = some (u8 (min 255 ((allLanes.filter r.used).map (fun l => (r.lane l).extra)).sum)) ∧
    b[16]? = some (u8 number) ∧
    (∀ l, r.used l = true → b[17 + 3 * l.val]? = some (u8 (r.lane l).greens) ∧
      b[18 + 3 * l.val]? = some (u8 (r.lane l).served) ∧ b[19 + 3 * l.val]? = some (u8 (r.lane l).violations)) ∧
    (∀ l, r.used l = false → b[17 + 3 * l.val]? = some 0#8 ∧ b[18 + 3 * l.val]? = some 0#8 ∧
      b[19 + 3 * l.val]? = some 0#8)

/-- R71, R72, R90, R91, R94, R102, R103, R126, R129, R87: the completion of a START job; one that read no plan, as its
ramp's top plan was invalid, is discarded. -/
def Obligations.StartJobsDeliver : Prop :=
  (∀ (s : State) (carried : Option Nat) (k : Fin 4) (rest : List Job),
    s.rcu = .busy none → s.jobs = ⟨k, .start carried⟩ :: rest →
    exec .startJobCompletion s = .next { s with jobs := rest, rcu := .idle }.withStarts) ∧
  (∀ (s : State) (x : Snapshot) (carried : Option Nat) (k : Fin 4) (rest : List Job),
    s.rcu = .busy (some x) → s.jobs = ⟨k, .start carried⟩ :: rest →
    ∃ t : State, exec .startJobCompletion s = .next t.withStarts ∧
      let base := { s with jobs := rest, rcu := .idle }
      let r := s.ramp k
      let res := computeStart x carried
      let unmasked := res.flags.inter x.plan.unmasked
      let flagged := { r with last := res.flags, sticky := r.sticky.union res.flags }
      let faulted := if unmasked.any then flagged.setFaultPending else flagged
      let filtered := (r.clock.flush.map (fun f => decide (f < res.period))).getD false
      let delivered := { faulted with
        rPrev := some res.rate, lastResult := .accepted,
        clock := { faulted.clock with
          computed := some res.period
          staged := if filtered then faulted.clock.staged else some ⟨res.period, .computed⟩ } }
      let notices := if unmasked.any then [faultNotice k .start r.state res.flags unmasked x.number] else []
      if r.state = .dark then t = base
      else if r.state = .clearing then base.rampSet t k flagged [] []
      else if r.state = .fallback ∨ r.state = .suspended .fallback then base.rampSet t k flagged [] []
      else if r.state = .metering ∧ r.clock.awaiting = true then
        ∀ p, s.topPlan k = some p → base.rampEvent t k (delivered.due p) (notices ++ dueNotices k delivered) []
      else base.rampSet t k delivered notices [])

/-! ## Status, RESUME and the context -/

/-- R92, R93, R107: STATUS READ and STATUS CLEAR. -/
def Obligations.StatusIsReadAndCleared : Prop :=
  (∀ (q : Request) (s : State), 4 ≤ q.subject →
    (∃ t : State, exec (.statusRead q) s = .next t.withStarts ∧ (s.took (.statusRead q)).repliesOnly t q 0x40 .badValue [u8 0]) ∧
    (∃ t : State, exec (.statusClear q) s = .next t.withStarts ∧ (s.took (.statusClear q)).repliesOnly t q 0x41 .badValue [u8 0])) ∧
  (∀ (q : Request) (k : Fin 4) (s : State), q.subject = k.val →
    (∃ t : State, exec (.statusRead q) s = .next t.withStarts ∧
      let r := s.ramp k
      (s.took (.statusRead q)).repliesOnly t q 0x40 .done
        [u8 r.state.code, u8 (if r.state = .suspended .fallback then 3 else if r.state.isSuspended then 2 else 0xFF),
         u8 r.sticky.code, u8 r.last.code, u8 r.lastResult.code, u8 (if r.faultPending then 1 else 0), u8 r.recovery,
         u8 (if r.startFault = none then 0 else 1)]) ∧
    (∃ t : State, exec (.statusClear q) s = .next t.withStarts ∧
      let u := s.took (.statusClear q)
      u.rampSet t k { u.ramp k with sticky := ⟨false, false, false, false, false, false⟩ } []
        [replyOf u q 0x41 .done []]))

/-- R100, R84: RESUME of a ramp 0-3. The period of a ramp whose last result is ACCEPTED and that holds no computed period,
which no run reaches, is DEDUCED, log 22. -/
def Obligations.ResumeStagesAReturn : Prop :=
  ∀ (q : Request) (k : Fin 4) (s : State), q.subject = k.val →
    ∃ t : State, exec (.resume q) s = .next t.withStarts ∧
      let u := s.took (.resume q)
      let r := u.ramp k
      (r.state ≠ .fallback → u.repliesOnly t q 0x36 .wrongState []) ∧
      (r.state = .fallback → ∀ p, u.topPlan k = some p →
        let converted := max (convertRate p p.rInit) (laneFloor p r.openLanes)
        let period := if r.lastResult = .accepted then r.clock.computed.getD converted else converted
        u.rampSet t k { r with faultPending := false, clock := { r.clock with staged := some ⟨period, .returning⟩ } } []
          [replyOf u q 0x36 .done []])

/-- R173, R174, R181, R101, R118, R119: CONTEXT DUMP and CONTEXT LOAD of a ramp 0-3. The reduction of an absent share
record in a dump is two free values (DESIGN CHOICE, log 7). -/
def Obligations.ContextIsDumpedAndLoaded : Prop :=
  (∀ (q : Request) (k : Fin 4) (s : State), q.subject = k.val →
    ∃ t : State, exec (.contextDump q) s = .next t.withStarts ∧
      let u := s.took (.contextDump q)
      let r := u.ramp k
      let bit (b : Bool) (n : Nat) : Nat := if b then n else 0
      let place (l : Fin 3) : Byte := u8 (if l ∈ r.waitOrder then r.waitOrder.idxOf l + 1 else 0)
      if u.jobs.any (fun j => j.ramp == k) then u.repliesOnly t q 0x42 .busy []
      else
        u.tells t [] [replyOf u q 0x42 .done
          (u16 (r.rPrev.getD 0xFFFF) ++ u16 ((r.clock.staged.map (fun x => x.period)).getD 0) ++
           [u8 ((r.clock.staged.map (fun x => x.mark.code)).getD 0)] ++ u16 (r.clock.active.getD 0) ++
           [u8 (bit r.clock.staged.isSome 1 + bit (if r.state = .dark then r.startFault.isSome else r.faultPending) 2),
            u8 r.sticky.code, u8 r.last.code, u8 r.recovery] ++ stackBytes r.stack ++
           (r.share.map (fun x => u16 x.reduction)).getD
             [Config.unstatedByte u.freeCount, Config.unstatedByte (u.freeCount + 1)] ++
           [u8 ((r.share.map (fun x => x.lifetime)).getD 0), place 0, place 1, place 2, u8 (r.lane 0).starvation,
            u8 (r.lane 1).starvation, u8 (r.lane 2).starvation, u8 r.pointer.val])] ∧
        t = { u with normal := t.normal, normalDropped := t.normalDropped,
                     freeCount := if r.share.isNone then u.freeCount + 2 else u.freeCount }) ∧
  (∀ (q : Request) (rec : ContextRecord) (k : Fin 4) (s : State), q.subject = k.val →
    ∃ t : State, exec (.contextLoad q rec) s = .next t.withStarts ∧
      let u := s.took (.contextLoad q rec)
      let r := u.ramp k
      let stack := [rec.stack0, rec.stack1, rec.stack2, rec.stack3].take rec.stackCount
      let bad : List Nat := (([(1, decide (9999 < rec.rPrev ∧ rec.rPrev ≠ 0xFFFF)), (8, decide (15 < rec.recovery)),
        (9, decide (rec.stackCount < 1 ∨ 4 < rec.stackCount)), (10, stack.any (fun n => (u.plans.get n).isNone)),
        (12, decide (15 < rec.lifetime)),
        (14, decide (15 < rec.starvation0 ∨ 15 < rec.starvation1 ∨ 15 < rec.starvation2)),
        (15, decide (2 < rec.pointer))] : List (Nat × Bool)).filter (fun x => x.2)).map (fun x => x.1)
      let sticky := Flags.ofCode rec.sticky
      let judged := (((stack.getLast?.bind u.plans.get).map (fun p => (sticky.inter p.unmasked).any))).getD false
      if r.state ≠ .dark then u.repliesOnly t q 0x43 .wrongState []
      else if u.jobs.any (fun j => j.ramp == k) then u.repliesOnly t q 0x43 .busy []
      else if bad ≠ [] then u.repliesOnly t q 0x43 .badValue [u8 (bad.headD 0)]
      else u.rampSet t k { r with
        carriedRate := if rec.rPrev = 0xFFFF then none else some rec.rPrev
        stack := stack
        share := if rec.lifetime = 0 then none else some ⟨min 5400 rec.reduction, rec.lifetime, false⟩
        sticky := sticky
        last := Flags.ofCode rec.last
        recovery := rec.recovery
        lastResult := .none
        startFault := if rec.bits.testBit 1 ∨ judged = true then some ⟨sticky, judged⟩ else none
        lanes := ⟨{ r.lane 0 with starvation := rec.starvation0 }, { r.lane 1 with starvation := rec.starvation1 },
          { r.lane 2 with starvation := rec.starvation2 }⟩
        pointer := Fin.ofNat 3 rec.pointer } [] [replyOf u q 0x43 .done []])

/-! ## Ramps -/

/-- R105, R106, R145, R147, R17, R18, R181: RAMP CONFIG WRITE and RAMP CONFIG READ of a ramp 0-3: the checks field by field; and
a read returns the bytes that were written, zeros for the lanes that are not kept. That a write resolves the sources of
all the ramp's SPILL entries, its spill, clear in DARK, not being evaluated, is DEDUCED, log 12. -/
def Obligations.ConfigurationIsWrittenInDark : Prop :=
  ∀ (q : Request) (rec : ConfigRecord) (k : Fin 4) (s : State), q.subject = k.val →
    (∃ t : State, exec (.rampConfigWrite q rec) s = .next t.withStarts ∧
      let u := s.took (.rampConfigWrite q rec)
      let r := u.ramp k
      let aspect : Aspect := if rec.offAspect = 1 then .green else .dark
      let lanes := [rec.lane0, rec.lane1, rec.lane2].take rec.lanesUsed
      let room := 8 - u.urgent.length
      let out (lo hi n : Nat) : Bool := decide (n < lo) || decide (hi < n)
      let reference (n : Nat) : Bool := decide (n ≠ 0xFF ∧ 63 < n)
      let elsewhere (x : LaneRecord) : Bool := allRamps.any (fun j => decide (j ≠ k) &&
        ((u.ramp j).config.map (fun c =>
          c.lanes.any (fun y => decide (y.driver = x.driver ∧ y.output = x.output)))).getD false)
      let checks : List (Nat × Bool) := [(1, out 1 3 rec.lanesUsed), (2, out 10 120 rec.interval), (3, out 0 1 rec.offAspect),
          (4, out 0 2 rec.holdMode), (5, out 10 100 rec.headTimeout), (6, out 5 60 rec.warning), (7, out 0 60 rec.clear)] ++
        lanes.zipIdx.flatMap (fun p =>
          let x := p.1
          let n := 8 + 6 * p.2
          [(n, out 1 126 x.driver || decide (x.driver = u.ownAddress) || elsewhere x ||
              (lanes.take p.2).any (fun y => decide (y.driver = x.driver ∧ y.output = x.output))),
           (n + 1, out 0 3 x.output), (n + 2, reference x.demand), (n + 3, out 0 1 x.sense),
           (n + 4, reference x.passage), (n + 5, out 0 1 x.edge)])
      u.configFault k rec = ((checks.filter (fun x => x.2)).map (fun x => x.1)).head? ∧
      (r.state ≠ .dark → u.repliesOnly t q 0x30 .wrongState []) ∧
      (r.state = .dark → ∀ n, u.configFault k rec = some n → u.repliesOnly t q 0x30 .badValue [u8 n]) ∧
      (r.state = .dark → u.configFault k rec = none →
        t.urgent = u.urgent ++ (lanes.take room).map (fun x =>
          mkFrame x.driver u.ownAddress 0x30 0 [u8 x.output, u8 aspect.code, u8 (2 * u.site.refresh)]) ∧
        t.urgentDropped = (u.urgentDropped || decide (room < lanes.length)) ∧
        (∀ l, (t.ramp k).head l = (lanes[l.val]?).map (fun _ =>
          { sent := if l.val < room then some aspect else none, refresh := u.site.refresh,
            confirm := if l.val < room then some u.site.confirm else none, silence := none, lamps := .none,
            disabled := none })) ∧
        (∀ l, (t.ramp k).lane l = ((lanes[l.val]?).map (fun x =>
          { r.lane l with isOpen := true, closePending := false, demand := t.demandNow k (laneConfigOf x) })).getD
            (r.lane l)) ∧
        { t.ramp k with lanes := r.lanes, heads := r.heads, waitOrder := r.waitOrder } =
          { r with config := some (configOf rec) } ∧
        (r.waitOrder = [] → (∀ l, (r.lane l).cycle = .off) → (t.ramp k).waitOrder = []) ∧
        (configOf rec).record = { rec with
          lane0 := lanes[0]?.getD ⟨0, 0, 0, 0, 0, 0⟩, lane1 := lanes[1]?.getD ⟨0, 0, 0, 0, 0, 0⟩,
          lane2 := lanes[2]?.getD ⟨0, 0, 0, 0, 0, 0⟩ } ∧
        (∀ i, t.lastSources.get i = (u.detector i).bind (fun d =>
          if d.config.role ≠ .spill then none
          else if d.config.ramp = k then u.source k .spill i else u.lastSources.get i)) ∧
        t = { u with ramps := u.ramps.set k (t.ramp k), urgent := t.urgent, urgentDropped := t.urgentDropped,
                     normal := t.normal, normalDropped := t.normalDropped, lastSources := t.lastSources } ∧
        u.tells t [] [replyOf u q 0x30 .done []])) ∧
    (∃ t : State, exec (.rampConfigRead q) s = .next t.withStarts ∧
      let u := s.took (.rampConfigRead q)
      ((u.ramp k).config = none → u.repliesOnly t q 0x31 .wrongState []) ∧
      (∀ c, (u.ramp k).config = some c → u.repliesOnly t q 0x31 .done c.record.bytes))

/-- R108, R109, R89, R9, R101, R102, R115, R116, R153, R154: START of a ramp 0-3. -/
def Obligations.StartChecksAndStarts : Prop :=
  ∀ (q : Request) (k : Fin 4) (s : State), q.subject = k.val →
    ∃ t : State, exec (.start q) s = .next t.withStarts ∧
      let u := s.took (.start q)
      let r := u.ramp k
      if r.state ≠ .dark ∨ r.config = none ∨ u.topPlan k = none ∨ r.inService = false then
        u.repliesOnly t q 0x32 .wrongState []
      else if u.jobs.any (fun j => j.ramp == k) then u.repliesOnly t q 0x32 .busy []
      else
        ∀ c p, r.config = some c → u.topPlan k = some p →
        let held := r.holdInput && decide (c.holdMode ≠ .ignored)
        let state : RampState := if held then .suspended .starting else .starting
        let base : State := { u with
          jobs := u.jobs ++ [⟨k, .start r.carriedRate⟩],
          stations := u.stations.map (fun _ st => { st with marks := st.marks.set k (!st.live) }) }
        base.rampEvent t k
          { r with
            state := state
            carriedRate := none
            intervalTimer := some c.interval
            warningTimer := if held then none else some c.warning
            inputHold := r.inputHold || held
            heads := Three.tabulate (fun l =>
              (r.head l).map (fun h => { h with disabled := none, silence := some c.headTimeout }))
            faultPending := r.faultPending || r.startFault.isSome
            startFault := none }
          ([rampNotice k .dark .starting r.requestHold r.inputHold .start] ++
           (if held then [rampNotice k .starting state r.requestHold true .hold] else []) ++
           ((r.startFault.map (fun f => [faultNotice k .load state f.flags
              (if f.judged then f.flags.inter p.unmasked else .none) r.top])).getD []))
          [replyOf u q 0x32 .done []]

/-- R111, R112, R113, R141: STOP of a ramp 0-3. That a closure that lands in the event and leaves no lane in service
takes the ramp to DARK before the clear timer starts is DEDUCED, log 10. -/
def Obligations.StopClearsTheRamp : Prop :=
  ∀ (q : Request) (k : Fin 4) (s : State), q.subject = k.val →
    ∃ t : State, exec (.stop q) s = .next t.withStarts ∧
      let u := s.took (.stop q)
      let r := u.ramp k
      let clear := (r.config.map (fun c => c.clear)).getD 0
      let stopped := { r with
        state := .clearing, warningTimer := none, requestHold := false, inputHold := false, share := none,
        carriedRate := none, intervalTimer := none, faultPending := false, recovery := 0, waitOrder := [],
        lanes := Three.tabulate (fun l => (r.lane l).wentOff),
        clock := ⟨.stopped, false, false, none, none, none, r.clock.computed⟩ }
      let notice := rampNotice k r.state .clearing false false .stop
      if r.state = .dark ∨ r.state = .clearing then u.repliesOnly t q 0x33 .done []
      else if r.landsDark stopped = true ∨ clear = 0 then
        (u.clearAccumulators k).rampEvent t k stopped.darkening
          [notice, rampNotice k .clearing .dark false false (if r.landsDark stopped then .noLane else .clearEnd)]
          [replyOf u q 0x33 .done []]
      else u.rampEvent t k { stopped with clearTimer := some clear } [notice] [replyOf u q 0x33 .done []]

/-- R114, R115, R116, R127, R133, R113: HOLD of a ramp 0-3, and the assertion of its hold input. An assertion of an input
that is asserted is no event (DESIGN CHOICE, log 20). That a ramp left with no lane in service by a closure that lands here
is SUSPENDED first, with the HOLD notice, and then DARK is DEDUCED, log 31. -/
def Obligations.HoldsSuspendTheRamp : Prop :=
  ∀ (q : Request) (k : Fin 4) (s : State), q.subject = k.val →
    let held (u t : State) (r : Ramp) (replies : List Outgoing) : Prop :=
      if r.state.isSuspended then u.rampSet t k r [] replies
      else
        let after := r.suspending
        let dark := r.landsDark after
        (u.darkened k dark).rampEvent t k (if dark then after.darkening else after)
          (rampNotice k r.state after.state r.requestHold r.inputHold .hold ::
            (if dark then [rampNotice k after.state .dark false false .noLane] else [])) replies
    (∃ t : State, exec (.hold q) s = .next t.withStarts ∧
      let u := s.took (.hold q)
      let r := u.ramp k
      if r.state = .dark ∨ r.state = .clearing then u.repliesOnly t q 0x34 .wrongState []
      else held u t { r with requestHold := true } [replyOf u q 0x34 .done []]) ∧
    (∃ t : State, exec (.rampHoldInputAsserted k) s = .next t.withStarts ∧
      let r := s.ramp k
      if r.holdInput then t = s
      else if r.state = .dark ∨ r.state = .clearing ∨ r.config = none ∨ r.holdMode = some .ignored then
        s.rampSet t k { r with holdInput := true } [] []
      else held s t { r with holdInput := true, inputHold := true } [])

/-- R114, R115, R117, R126, R125: RELEASE of a ramp 0-3, and the deassertion of its hold input. -/
def Obligations.HoldsEndTogether : Prop :=
  ∀ (q : Request) (k : Fin 4) (s : State) (p : Plan), q.subject = k.val →
    (s.topPlan k = some p ∨ (s.ramp k).state.isSuspended = false) →
    let ended (u t : State) (r : Ramp) (replies : List Outgoing) : Prop :=
      let back (state : RampState) : Ramp := { r with state := state, clock := { r.clock with frozen := false } }
      let notice (state : RampState) := rampNotice k r.state state false false .holdEnd
      if r.requestHold = true ∨ r.inputHold = true then u.rampSet t k r [] replies
      else if r.state = .suspended .starting then
        u.rampEvent t k ((back .metering).begun p) (notice .metering :: begunNotices k (back .metering)) replies
      else if r.state = .suspended .metering then
        (if r.clock.awaiting = true ∧ r.clock.staged.isSome = true then
          u.rampEvent t k ((back .metering).due p) (notice .metering :: dueNotices k (back .metering)) replies
        else u.rampEvent t k ((back .metering).pick p) [notice .metering] replies)
      else if r.state = .suspended .fallback then
        u.rampEvent t k ((back .fallback).pick p) [notice .fallback] replies
      else u.rampSet t k r [] replies
    (∃ t : State, exec (.release q) s = .next t.withStarts ∧
      let u := s.took (.release q)
      let r := u.ramp k
      ended u t { r with requestHold := false,
                         inputHold := if r.holdMode = some .latched then false else r.inputHold }
        [replyOf u q 0x35 .done []]) ∧
    (∃ t : State, exec (.rampHoldInputDeasserted k) s = .next t.withStarts ∧
      let r := s.ramp k
      if r.holdInput = false then t = s
      else if r.state = .dark ∨ r.state = .clearing ∨ r.holdMode ≠ some .level then
        s.rampSet t k { r with holdInput := false } [] []
      else ended s t { r with holdInput := false, inputHold := false } [])

/-- R110, R126, R112, R15: the warning timer's expiry begins the metering; the clear timer's takes the ramp to DARK. An
expiry of a timer that does not run is no event (DEDUCED, log 4). -/
def Obligations.WarningAndClearTimesEnd : Prop :=
  ∀ (k : Fin 4) (s : State),
    let r := s.ramp k
    (∃ t : State, exec (.warningTimerExpiry k) s = .next t.withStarts ∧
      ((r.state ≠ .starting ∨ r.warningTimer = none) → t = s) ∧
      (r.state = .starting → r.warningTimer ≠ none → ∀ p, s.topPlan k = some p →
        let metering := { r with state := .metering, warningTimer := none }
        s.rampEvent t k (metering.begun p)
          (rampNotice k .starting .metering r.requestHold r.inputHold .warningEnd :: begunNotices k metering) [])) ∧
    (∃ t : State, exec (.clearTimerExpiry k) s = .next t.withStarts ∧
      ((r.state ≠ .clearing ∨ r.clearTimer = none) → t = s) ∧
      (r.state = .clearing → r.clearTimer ≠ none →
        (s.clearAccumulators k).rampEvent t k r.darkening [rampNotice k .clearing .dark false false .clearEnd] [] ∧
        ∀ i, t.detector i = (s.detector i).map (fun d =>
          if d.config.ramp = k then { d with arrivals := 0, onTime := 0, span := 0 } else d)))

/-- R118: SHARE of a ramp 0-3. The item of a bad lifetime is a free value (DESIGN CHOICE, log 7). -/
def Obligations.ShareIsStored : Prop :=
  ∀ (q : Request) (reduction lifetime : Nat) (k : Fin 4) (s : State), q.subject = k.val →
    ∃ t : State, exec (.share q reduction lifetime) s = .next t.withStarts ∧
      let u := s.took (.share q reduction lifetime)
      let r := u.ramp k
      if lifetime < 1 ∨ 15 < lifetime then
        u.tells t [] [replyOf u q 0x39 .badValue [Config.unstatedByte u.freeCount]] ∧
        t = { u with normal := t.normal, normalDropped := t.normalDropped, freeCount := u.freeCount + 1 }
      else if r.state = .dark ∨ r.state = .clearing then u.repliesOnly t q 0x39 .wrongState []
      else u.rampSet t k { r with share := some ⟨min 5400 reduction, lifetime, false⟩ } []
        [replyOf u q 0x39 .done [u8 (min 5400 reduction / 256), u8 (min 5400 reduction), u8 lifetime]]

/-! ## Release clock and lanes -/

/-- R140, R141, R142, R113: LANE CLOSE and LANE OPEN of a ramp 0-3. The item of a bad lane number is a free value
(DESIGN CHOICE, log 7). -/
def Obligations.LanesAreClosedAndOpened : Prop :=
  ∀ (q : Request) (lane : Nat) (k : Fin 4) (s : State), q.subject = k.val →
    let unstated (u t : State) (code : Nat) : Prop :=
      u.tells t [] [replyOf u q code .badValue [Config.unstatedByte u.freeCount]] ∧
      t = { u with normal := t.normal, normalDropped := t.normalDropped, freeCount := u.freeCount + 1 }
    (∃ t : State, exec (.laneClose q lane) s = .next t.withStarts ∧
      let u := s.took (.laneClose q lane)
      let r := u.ramp k
      (3 ≤ lane → unstated u t 0x37) ∧
      (∀ l : Fin 3, l.val = lane →
        let x := r.lane l
        if r.config = none then u.repliesOnly t q 0x37 .wrongState []
        else if r.laneConfig l = none then unstated u t 0x37
        else if x.isOpen = false ∨ x.closePending = true then u.repliesOnly t q 0x37 .done []
        else if r.state ≠ .dark ∧ ¬(∃ j, j ≠ l ∧ r.used j = true ∧ (r.lane j).isOpen = true ∧
            (r.lane j).closePending = false) then u.repliesOnly t q 0x37 .wrongState []
        else if x.cycle.busy then
          u.rampSet t k { r with lanes := r.lanes.set l { x with closePending := true } } [] [replyOf u q 0x37 .done []]
        else
          let after := r.onLanes [l] (fun x =>
            { x with cycle := .off, grace := none, isOpen := false, closePending := false, starvation := 0 })
          let dark := r.landsDark after
          (u.darkened k dark).rampEvent t k (if dark then after.darkening else after)
            (if dark then [rampNotice k r.state .dark false false .noLane] else []) [replyOf u q 0x37 .done []])) ∧
    (∃ t : State, exec (.laneOpen q lane) s = .next t.withStarts ∧
      let u := s.took (.laneOpen q lane)
      let r := u.ramp k
      (3 ≤ lane → unstated u t 0x38) ∧
      (∀ l : Fin 3, l.val = lane →
        let x := r.lane l
        let opened := { x with isOpen := true, closePending := false }
        if r.config = none then u.repliesOnly t q 0x38 .wrongState []
        else if r.laneConfig l = none then unstated u t 0x38
        else if x.isOpen = true ∧ x.closePending = false ∧ r.disabled l = false then u.repliesOnly t q 0x38 .done []
        else ∀ p, (u.topPlan k = some p ∨ r.state.metersOrHeld = false) →
          u.rampEvent t k { r with
            lanes := r.lanes.set l
              (if x.cycle = .off ∧ r.state.metersOrHeld = true then
                { opened with cycle := .red p.minRed, minRed := some p.minRed, grace := none }
              else opened)
            heads := r.heads.set l ((r.head l).map (fun h => { h with disabled := none })) } []
            [replyOf u q 0x38 .done []]))

/-- R124, R96, R97, R99, R129: RELEASE DUE, and the swap and the fault check that come before its pick. The due of a clock
that is not RUNNING, or is frozen, is no event (DEDUCED, log 4). -/
def Obligations.ReleaseDueSwapsAndChecks : Prop :=
  (∀ (k : Fin 4) (s : State), ∃ t : State, exec (.releaseDue k) s = .next t.withStarts ∧
    let r := s.ramp k
    let runs := r.clock.frozen = false ∧ ∃ n, r.clock.state = .running n
    (¬runs → t = s) ∧
    (runs → ∀ p, (s.topPlan k = some p ∨ r.state = .dark) → s.rampEvent t k (r.due p) (dueNotices k r) [])) ∧
  (∀ (p : Plan) (r : Ramp),
    let limited (period : Nat) : Nat := (r.clock.flush.map (fun f => min f period)).getD period
    let returns := r.state = .fallback ∧ (r.clock.staged.map (fun x => x.mark)) = some .returning
    let state := if returns then .metering else r.state
    let faults := state = .metering ∧ r.faultPending = true
    r.due p = Ramp.pick { r with
      state := if faults then .fallback else state
      recovery := if returns ∨ faults then 0 else r.recovery
      faultPending := if faults then false else r.faultPending
      clock := { r.clock with
        state := .due
        frozen := false
        awaiting := false
        active := if faults then some p.fallbackPeriod
          else if r.clock.staged = none then r.clock.active
          else r.clock.staged.map (fun x => limited x.period)
        staged := if faults then
            r.clock.flush.bind (fun f => if f < p.fallbackPeriod then some ⟨f, .flush⟩ else none)
          else none } } p)

/-- R134, R136, R137, R125, R132: the pick. -/
def Obligations.PickServesByTheMode : Prop :=
  ∀ (p : Plan) (r : Ramp),
    let eligible (l : Fin 3) : Bool := r.used l && (r.lane l).isOpen && !r.disabled l &&
      decide ((r.lane l).cycle = .ready) && allLanes.all (fun j => decide (j = l) || !(r.lane j).cycle.busy) &&
      ((r.lane l).demand || !p.gating)
    let rotation := [r.pointer + 1, r.pointer + 2, r.pointer].filter eligible
    let waiting := r.waitOrder.filter eligible
    let starved := rotation.filter (fun l => decide (p.starvationLimit ≤ (r.lane l).starvation))
    let order := if p.leveling = .rotate then rotation
      else if p.leveling = .wait then waiting ++ rotation else starved ++ waiting ++ rotation
    let waits := r.clock.state = .due ∧ r.clock.frozen = false ∧ (r.state = .metering ∨ r.state = .fallback)
    ((¬waits ∨ order = []) → r.pick p = r) ∧
    (waits → ∀ l a, order.head? = some l → r.clock.active = some a → r.pick p = { r with
      pointer := l
      waitOrder := r.waitOrder.filter (fun j => j != l)
      clock := { r.clock with state := .running a }
      lanes := Three.tabulate (fun j =>
        let x := r.lane j
        if j = l then { x with
          cycle := .green p.green, timings := some ⟨p.green, p.amber, p.grace, p.size⟩, minRed := some p.minRed,
          grace := none, window := 0, greens := min 255 (x.greens + 1), starvation := 0 }
        else if eligible j then { x with starvation := min 15 (x.starvation + 1) } else x) })

/-- R132, R135, R140, R141, R125, R113: the ends of a lane's timed states and of its grace time. An end that cannot take
place is no event (DEDUCED, log 4). -/
def Obligations.LaneTimesEnd : Prop :=
  ∀ (k : Fin 4) (l : Fin 3) (s : State) (p : Plan), (s.topPlan k = some p ∨ (s.ramp k).state = .dark) →
    let r := s.ramp k
    let x := r.lane l
    let ends (t : State) (after : Ramp) (freed : Prop) [Decidable freed] : Prop :=
      let dark := r.landsDark after
      let final := if dark then after.darkening else after
      (s.darkened k dark).rampEvent t k (if freed then final.pick p else final)
        (if dark then [rampNotice k r.state .dark false false .noLane] else []) []
    (∃ t : State, exec (.greenEnd k l) s = .next t.withStarts ∧
      (x.cycle.isGreen = false → t = s) ∧
      (x.cycle.isGreen = true → ends t (r.onLanes [l] Lane.greenEnded) (x.heldAmber = 0))) ∧
    (∃ t : State, exec (.amberEnd k l) s = .next t.withStarts ∧
      (x.cycle.isAmber = false → t = s) ∧
      (x.cycle.isAmber = true → ends t (r.onLanes [l] Lane.amberEnded) True)) ∧
    (∃ t : State, exec (.redEnd k l) s = .next t.withStarts ∧
      (x.cycle.isRed = false → t = s) ∧
      (x.cycle.isRed = true → s.rampEvent t k (Ramp.pick { r with
        lanes := r.lanes.set l { x with cycle := .ready },
        waitOrder := if x.demand = true ∧ l ∉ r.waitOrder then r.waitOrder ++ [l] else r.waitOrder } p) [] [])) ∧
    (∃ t : State, exec (.graceTimeExpiry k l) s = .next t.withStarts ∧
      s.rampSet t k { r with lanes := r.lanes.set l { x with grace := none } } [] [])

/-! ## Heads -/

/-- R107, R146, R147, R161: the aspect each head must show, and the commands offered at the end of an event that led from
`s0`: each used head whose target was decided in it and differs from the aspect last sent, in ascending ramp and
lane, as far as the urgent insert queue has room. -/
def Obligations.HeadsAreToldTheirTargets : Prop :=
  (∀ (r : Ramp) (l : Fin 3),
    let cycle := (r.lane l).cycle
    r.target l =
      if (r.lane l).isOpen = false ∨ r.disabled l = true then .dark
      else if r.state = .dark then (if (r.config.map (fun c => c.offGreen)) = some true then .green else .dark)
      else if r.state = .starting then .flash
      else if r.state = .clearing then .green
      else if r.state.isSuspended then (if cycle.isAmber then .amber else .red)
      else if cycle.isGreen then .green
      else if cycle.isAmber then .amber
      else if cycle = .off then .dark
      else .red) ∧
  (∀ s0 s : State,
    let t := State.settled s0 s
    let due := allHeads.filter (fun x =>
      ((s.ramp x.1).laneConfig x.2).isSome && decide ((s0.ramp x.1).headKey x.2 ≠ (s.ramp x.1).headKey x.2) &&
      (((s.ramp x.1).head x.2).map (fun h => decide (h.sent ≠ some ((s.ramp x.1).target x.2)))).getD false)
    let room := Config.urgentCapacity - s.urgent.length
    t.urgent = s.urgent ++ (due.take room).map s.headCommand ∧
    t.urgentDropped = (s.urgentDropped || decide (room < due.length)) ∧
    (∀ k l, (t.ramp k).head l = ((s.ramp k).head l).map (fun h =>
      if (k, l) ∈ due.take room then
        { h with sent := some ((s.ramp k).target l), refresh := s.site.refresh, confirm := some s.site.confirm }
      else h)) ∧
    (∀ k, t.ramp k = { s.ramp k with heads := (t.ramp k).heads }) ∧
    t = { s with urgent := t.urgent, urgentDropped := t.urgentDropped, ramps := t.ramps }) ∧
  (∀ (s0 s : State) (fresh : List (Fin 4 × Fin 3)), State.settleHeads s0 fresh s = s0.told s fresh)

/-- R151, R152, R153, R154, R155, R113, R177: HEAD STATUS. That a waiting pick is made once, after all the disables of the
frame, is DEDUCED, log 16; that the heads are offered their targets at the end of the event, aspects being compared with
those last sent before it, and that the HEAD notices come before the RAMP notices is DEDUCED, log 9. That a frame taken
after a confirm expiry is compared with the DARK that the expiry queued is DEDUCED, log 33. -/
def Obligations.HeadStatusIsJudged : Prop :=
  ∀ (dst src count : Nat) (records : List StatusRecord) (s : State),
    ∃ t : State, exec (.headStatus dst src count records) s = .next t.withStarts ∧
      let u := s.took (.headStatus dst src count records)
      let at_ (k : Fin 4) (l : Fin 3) : Bool :=
        (((u.ramp k).laneConfig l).map (fun c => decide (c.driver = src))).getD false
      let acted := dst = u.ownAddress ∧ 1 ≤ count ∧ count ≤ 8 ∧ records.length = count ∧ ∃ k l, at_ k l = true
      let usable := ((records.zipIdx).filter (fun p => decide (p.1.aspect ≤ 4) && decide (p.1.output ≤ 3) &&
        allHeads.any (fun x => at_ x.1 x.2 &&
          decide (((u.ramp x.1).laneConfig x.2).map (fun c => c.output) = some p.1.output)) &&
        !(records.take p.2).any (fun e => e.output == p.1.output))).map (fun p => p.1)
      let report (k : Fin 4) (l : Fin 3) : Option StatusRecord :=
        ((u.ramp k).laneConfig l).bind (fun c =>
          if c.driver = src then usable.find? (fun r => r.output == c.output) else none)
      let redLamp (k : Fin 4) (l : Fin 3) : Bool := ((report k l).map (fun r => r.lamps.testBit 0)).getD false
      let red (k : Fin 4) : Bool := allLanes.any (redLamp k)
      let fault (k : Fin 4) (l : Fin 3) (h : Head) : Option DisableCause := (report k l).bind (fun r =>
        if r.lamps.testBit 1 ∨ r.lamps.testBit 2 then some .lamp
        else if h.sent ≠ none ∧ h.sent ≠ Aspect.ofCode r.aspect ∧ h.confirm = none then some .confirm else none)
      let newly (k : Fin 4) (l : Fin 3) : Option DisableCause := ((u.ramp k).head l).bind (fun h =>
        if h.disabled = none then fault k l h else none)
      (¬acted → t = u) ∧
      (acted →
        (∀ k, (t.ramp k).state = if (u.ramp k).state ≠ .dark ∧
            (red k = true ∨ ((∃ l, newly k l ≠ none) ∧ (t.ramp k).inService = false)) then .dark
          else (u.ramp k).state) ∧
        (∀ k l h c, (u.ramp k).head l = some h → (u.ramp k).config = some c → ∃ h', (t.ramp k).head l = some h' ∧
          h'.lamps = ((report k l).map (fun r => Lamps.ofCode r.lamps)).getD h.lamps ∧
          h'.disabled = (if h.disabled = none then fault k l h else h.disabled) ∧
          h'.silence = (if (u.ramp k).state = .dark then h.silence
            else if (t.ramp k).state = .dark then none
            else if at_ k l then some c.headTimeout else h.silence)) ∧
        (let judged (k : Fin 4) : Ramp := (u.ramp k).statusJudged (u.topPlan k) (at_ k) (report k)
         let fresh := allHeads.filter (fun x =>
           (((u.ramp x.1).head x.2).bind (fun h => h.sent)).isSome &&
           (((judged x.1).head x.2).bind (fun h => h.sent)).isNone)
         t = u.told { u with
           detectors := t.detectors, normal := t.normal, normalDropped := t.normalDropped, sequence := t.sequence
           ramps := Four.tabulate judged } fresh) ∧
        u.tells t
          (allHeads.flatMap (fun x => match (u.ramp x.1).head x.2, (t.ramp x.1).head x.2, (u.ramp x.1).laneConfig x.2,
              report x.1 x.2 with
            | some h, some h', some c, some r =>
              let notice (cause : Nat) := [headNotice x.1 x.2 c cause h'.lamps h'.sent (Aspect.ofCode r.aspect)]
              if redLamp x.1 x.2 ∧ ((u.ramp x.1).state ≠ .dark ∨ h.lamps.red = false) then notice 3
              else ((newly x.1 x.2).map (fun cause => notice cause.code)).getD []
            | _, _, _, _ => []) ++
           allRamps.flatMap (fun k => if (t.ramp k).state = (u.ramp k).state then []
             else [rampNotice k (u.ramp k).state .dark false false (if red k then .headRed else .noLane)])) [] ∧
        (∀ i, t.detector i = (u.detector i).map (fun d =>
          if (t.ramp d.config.ramp).state = (u.ramp d.config.ramp).state then d
          else { d with arrivals := 0, onTime := 0, span := 0 })))

/-- R148, R150, R153, R154, R143, R155, R113, R125: the refresh, confirm and silence timers of the head of lane `l` of ramp
`k`. The expiry of a timer that does not run is no event (DEDUCED, log 4). That the silence timers of a ramp's heads at one
driver expire together, with one waiting pick after all the disables, is DEDUCED, log 16. That a confirm expiry makes the
record of a lane disabled before not valid too, and offers it DARK again, is DEDUCED, log 32. -/
def Obligations.HeadTimersExpire : Prop :=
  ∀ (k : Fin 4) (l : Fin 3) (s : State) (h : Head), (s.ramp k).head l = some h → (s.ramp k).used l = true →
    let r := s.ramp k
    let a := r.target l
    let sent (t : State) (j : Fin 3) : Option Aspect := ((t.ramp k).head j).bind (fun h => h.sent)
    let disables (t : State) (p : Plan) (fresh : List (Fin 4 × Fin 3)) (r : Ramp) (which : List (Fin 3))
        (cause : DisableCause) : Prop :=
      let after := which.foldl (fun x j => x.disablingOne j cause) r
      let dark := decide (r.state ≠ .dark ∧ after.state = .dark)
      (s.darkened k dark).rampEventFresh t fresh k
        (if which.any (fun j => (r.lane j).cycle.busy) then after.pick p else after)
        (which.flatMap (fun j => match r.laneConfig j, r.head j with
          | some c, some h => [headNotice k j c cause.code h.lamps (sent t j) none]
          | _, _ => []) ++
         (if dark then [rampNotice k r.state .dark false false .noLane] else [])) []
    (∃ t : State, exec (.refreshTimerExpiry k l) s = .next t.withStarts ∧
      let queued := s.urgent.length < 8
      t = { s with
        urgent := if queued then s.urgent ++ [s.headCommand (k, l)] else s.urgent
        urgentDropped := s.urgentDropped || decide (¬queued)
        ramps := s.ramps.set k { r with heads := r.heads.set l (some
          (if queued then { h with
            sent := some a, refresh := s.site.refresh,
            confirm := if h.sent = some a then h.confirm else some s.site.confirm }
          else { h with refresh := s.site.refresh })) } }) ∧
    (∃ t : State, exec (.confirmTimerExpiry k l) s = .next t.withStarts ∧
      (h.confirm = none → t = s) ∧
      (h.confirm ≠ none → ∀ p, (s.topPlan k = some p ∨ r.state = .dark) →
        disables t p [(k, l)] { r with heads := r.heads.set l (some { h with sent := none, confirm := none }) }
          (if h.disabled = none then [l] else []) .confirm ∧
        (sent t l = some .dark ∨ (sent t l = none ∧ t.urgentDropped = true)))) ∧
    (∃ t : State, exec (.silenceTimerExpiry k l) s = .next t.withStarts ∧
      let expired := allLanes.filter (fun j => r.driverOf j = r.driverOf l ∧
        ((r.head j).bind (fun h => h.silence)) ≠ none)
      (h.silence = none → t = s) ∧
      (h.silence ≠ none → ∀ p, (s.topPlan k = some p ∨ r.state = .dark) → disables t p []
        { r with heads := Three.tabulate (fun j =>
          if j ∈ expired then (r.head j).map (fun h => { h with silence := none }) else r.head j) }
        (expired.filter (fun j => !r.disabled j)) .silent))

/-! ## What every step keeps -/

/-- R161, R162, R69, R38, R42: no queue holds more than its capacity, the wait count is at most 4, no ramp has two jobs,
every stack holds one to four plan numbers 0-15, and a ramp that is not DARK has a valid plan on top. -/
def Obligations.StepsKeepTheBounds : Prop :=
  ∀ s t : State, step s = .next t →
    (s.queuesBounded → t.queuesBounded) ∧ (s.oneJobEach → t.oneJobEach) ∧ (s.stacksBounded → t.stacksBounded) ∧
    (s.plansHeld → t.plansHeld)

/-- R134, R132: no ramp has more than one lane in GREEN or AMBER, and a lane is GREEN only in METERING or FALLBACK and in
service. -/
def Obligations.StepsKeepOneGreenWindow : Prop :=
  ∀ s t : State, step s = .next t →
    (s.oneGreenWindow → t.oneGreenWindow) ∧ (s.greensServed → t.greensServed)

/-- R94, R122, R127, R133, R135, R114 to R117: a ramp that is DARK or CLEARING has its clock STOPPED, no staged period, no
fault pending and every lane OFF, and a ramp is SUSPENDED exactly while one of its hold sources is set. -/
def Obligations.StepsKeepRampsConsistent : Prop :=
  ∀ s t : State, step s = .next t → (s.quiet → t.quiet) ∧ (s.holdsAgree → t.holdsAgree)

/-- R3, R6, R7, R17: every step keeps the detector table, the station list and the last resolved sources in step with each
other. -/
def Obligations.StepsKeepTheDetectorTable : Prop :=
  ∀ s t : State, s.detectorsKept → step s = .next t → t.detectorsKept

/-- R105, R106, R145, R147: a head record stands for each used lane and no other, no head is named by two lanes, and heads
that all show their targets go on doing so, but for a command that the full urgent insert queue turned away. -/
def Obligations.StepsKeepTheHeads : Prop :=
  ∀ s t : State, s.headsKept → step s = .next t →
    t.headsKept ∧ (s.headsDistinct → t.headsDistinct) ∧ (s.headsInStep → t.urgentDropped = true ∨ t.headsInStep)

/-- R122, R73, R82, R84, R39: every period a clock holds stays in 1-400 ds, every r_prev in 180-5400 veh/h, and every valid
plan one that PLAN WRITE accepts. -/
def Obligations.StepsKeepThePeriods : Prop :=
  ∀ s t : State, s.periodsSound → step s = .next t → t.periodsSound

/-- Every invariant above holds of the part after a hard reset, whatever the straps, the line and the state before. -/
def Obligations.ResetIsSound : Prop :=
  ∀ (straps : Nat) (signal : Bool) (s : State), ∀ t, (t = State.reset ∨ exec (.hardReset straps signal) s = .next t) →
    t.queuesBounded ∧ t.oneJobEach ∧ t.stacksBounded ∧ t.plansHeld ∧ t.oneGreenWindow ∧ t.greensServed ∧ t.quiet ∧ t.holdsAgree ∧
    t.detectorsKept ∧ t.headsKept ∧ t.headsDistinct ∧ t.headsInStep ∧ t.periodsSound

end Statements
end

