-- ==== Sys2Proof/Laws/Containers.lean ====
section
/-! SUPPORT. Reads of the containers after their updates: four of a kind, three of a kind, and the sparse table, with
the lemma that every table operation keeps the canonical form. -/

namespace Sys2Proof

/-! ## Four and three of a kind -/

@[simp] theorem Four.get_set {α : Type} (v : Four α) (k j : Fin 4) (x : α) :
    (v.set k x).get j = if j = k then x else v.get j := by
  fin_cases k <;> fin_cases j <;> rfl

@[simp] theorem Four.get_all {α : Type} (x : α) (k : Fin 4) : (Four.all x).get k = x := by
  fin_cases k <;> rfl

@[simp] theorem Four.get_map {α β : Type} (f : α → β) (v : Four α) (k : Fin 4) : (v.map f).get k = f (v.get k) := by
  fin_cases k <;> rfl

@[simp] theorem Four.get_tabulate {α : Type} (f : Fin 4 → α) (k : Fin 4) : (Four.tabulate f).get k = f k := by
  fin_cases k <;> rfl

theorem Four.ext_get {α : Type} {v w : Four α} (h : ∀ k, v.get k = w.get k) : v = w := by
  have h0 := h 0
  have h1 := h 1
  have h2 := h 2
  have h3 := h 3
  cases v
  cases w
  simp_all [Four.get]

theorem Four.set_get {α : Type} (v : Four α) (k : Fin 4) : v.set k (v.get k) = v := by
  fin_cases k <;> rfl

@[simp] theorem Four.set_set {α : Type} (v : Four α) (k : Fin 4) (x y : α) : (v.set k x).set k y = v.set k y := by
  fin_cases k <;> rfl

@[simp] theorem Three.get_set {α : Type} (v : Three α) (l j : Fin 3) (x : α) :
    (v.set l x).get j = if j = l then x else v.get j := by
  fin_cases l <;> fin_cases j <;> rfl

@[simp] theorem Three.get_all {α : Type} (x : α) (l : Fin 3) : (Three.all x).get l = x := by
  fin_cases l <;> rfl

@[simp] theorem Three.get_tabulate {α : Type} (f : Fin 3 → α) (l : Fin 3) : (Three.tabulate f).get l = f l := by
  fin_cases l <;> rfl

theorem Three.ext_get {α : Type} {v w : Three α} (h : ∀ l, v.get l = w.get l) : v = w := by
  have h0 := h 0
  have h1 := h 1
  have h2 := h 2
  cases v
  cases w
  simp_all [Three.get]

theorem Three.tabulate_get {α : Type} (v : Three α) : Three.tabulate v.get = v := rfl

theorem mem_allRamps (k : Fin 4) : k ∈ allRamps := by fin_cases k <;> decide

theorem mem_allLanes (l : Fin 3) : l ∈ allLanes := by fin_cases l <;> decide

/-! ## Tables -/

@[simp] theorem rowsGet_insert {α : Type} (rows : List (Nat × α)) (i j : Nat) (x : α) :
    rowsGet (rowsInsert rows i x) j = if j = i then some x else rowsGet rows j := by
  induction rows with
  | nil => simp [rowsInsert, rowsGet, eq_comm]
  | cons p rest ih =>
    obtain ⟨m, y⟩ := p
    simp only [rowsInsert]
    split_ifs <;> simp only [rowsGet, ih] <;> split_ifs <;> first | rfl | omega

@[simp] theorem Table.get_insert {α : Type} (t : Table α) (i j : Nat) (x : α) :
    (t.insert i x).get j = if j = i then some x else t.get j := rowsGet_insert _ _ _ _

@[simp] theorem Table.get_erase {α : Type} (t : Table α) (i j : Nat) :
    (t.erase i).get j = if j = i then none else t.get j := by
  obtain ⟨rows⟩ := t
  simp only [Table.get, Table.erase]
  induction rows with
  | nil => simp [rowsGet]
  | cons p rest ih =>
    obtain ⟨m, y⟩ := p
    by_cases h : m = i <;> simp_all [rowsGet] <;> split_ifs <;> simp_all

@[simp] theorem Table.get_map {α : Type} (f : Nat → α → α) (t : Table α) (j : Nat) :
    (t.map f).get j = (t.get j).map (f j) := by
  obtain ⟨rows⟩ := t
  simp only [Table.get, Table.map]
  induction rows with
  | nil => rfl
  | cons p rest ih =>
    obtain ⟨m, y⟩ := p
    by_cases h : m = j <;> simp_all [rowsGet]

/-- A table collected from another reads at each of its keys what `f` gives the key. -/
@[simp] theorem Table.get_collect {α β : Type} (f : Nat → Option β) (t : Table α) (j : Nat) :
    (t.collect f).get j = (t.get j).bind (fun _ => f j) := by
  obtain ⟨rows⟩ := t
  simp only [Table.get, Table.collect]
  induction rows with
  | nil => rfl
  | cons p rest ih =>
    obtain ⟨m, y⟩ := p
    cases hf : f m <;> by_cases h : m = j <;> simp_all [rowsGet]

@[simp] theorem Table.get_empty {α : Type} (j : Nat) : (Table.empty : Table α).get j = none := rfl

/-- The keys rise strictly exactly where each row's key is below those of the rows after it. -/
theorem rowsRising_cons {α : Type} (p : Nat × α) (rest : List (Nat × α)) :
    rowsRising (p :: rest) = true ↔ (∀ q ∈ rest, p.1 < q.1) ∧ rowsRising rest = true := by
  induction rest generalizing p with
  | nil => simp [rowsRising]
  | cons q rest ih =>
    simp only [rowsRising, Bool.and_eq_true, decide_eq_true_eq, List.mem_cons, forall_eq_or_imp, ih q]
    constructor
    · rintro ⟨h, h1, h2⟩
      exact ⟨⟨h, fun r hr => lt_trans h (h1 r hr)⟩, h1, h2⟩
    · rintro ⟨⟨h, -⟩, h1, h2⟩
      exact ⟨h, h1, h2⟩

theorem rowsInsert_mem {α : Type} {rows : List (Nat × α)} {i : Nat} {x : α} {q : Nat × α}
    (h : q ∈ rowsInsert rows i x) : q = (i, x) ∨ q ∈ rows := by
  induction rows with
  | nil => simpa [rowsInsert] using h
  | cons p rest ih =>
    simp only [rowsInsert] at h
    split_ifs at h <;> simp only [List.mem_cons] at h ⊢
    · tauto
    · tauto
    · rcases h with h | h
      · tauto
      · have := ih h
        tauto

theorem rowsInsert_rising {α : Type} {rows : List (Nat × α)} (i : Nat) (x : α) (h : rowsRising rows = true) :
    rowsRising (rowsInsert rows i x) = true := by
  induction rows with
  | nil => rfl
  | cons p rest ih =>
    obtain ⟨hp, hr⟩ := (rowsRising_cons p rest).mp h
    simp only [rowsInsert]
    split_ifs with h1 h2
    · refine (rowsRising_cons _ _).mpr ⟨?_, h⟩
      intro q hq
      rcases List.mem_cons.mp hq with rfl | hq
      · exact h1
      · exact lt_trans h1 (hp q hq)
    · refine (rowsRising_cons _ _).mpr ⟨?_, hr⟩
      intro q hq
      have := hp q hq
      simp only at this ⊢
      omega
    · refine (rowsRising_cons _ _).mpr ⟨?_, ih hr⟩
      intro q hq
      rcases rowsInsert_mem hq with rfl | hq
      · simp only
        omega
      · exact hp q hq

theorem rowsRising_filter {α : Type} {rows : List (Nat × α)} (f : Nat × α → Bool) (h : rowsRising rows = true) :
    rowsRising (rows.filter f) = true := by
  induction rows with
  | nil => rfl
  | cons p rest ih =>
    obtain ⟨hp, hr⟩ := (rowsRising_cons p rest).mp h
    rw [List.filter_cons]
    split_ifs
    · exact (rowsRising_cons _ _).mpr ⟨fun q hq => hp q (List.mem_filter.mp hq).1, ih hr⟩
    · exact ih hr

theorem rowsRising_map {α : Type} {rows : List (Nat × α)} (f : Nat → α → α) (h : rowsRising rows = true) :
    rowsRising (rows.map (fun p => (p.1, f p.1 p.2))) = true := by
  induction rows with
  | nil => rfl
  | cons p rest ih =>
    obtain ⟨hp, hr⟩ := (rowsRising_cons p rest).mp h
    refine (rowsRising_cons _ _).mpr ⟨?_, ih hr⟩
    intro q hq
    obtain ⟨r, hr', rfl⟩ := List.mem_map.mp hq
    exact hp r hr'

theorem Table.wf_iff {α : Type} (t : Table α) (bound : Nat) :
    t.wf bound = true ↔ rowsRising t.rows = true ∧ ∀ p ∈ t.rows, p.1 < bound := by
  simp [Table.wf]

/-- Every operation on a table keeps its canonical form. -/
theorem Table.wf_insert {α : Type} {t : Table α} {bound i : Nat} (x : α) (h : t.wf bound = true) (hi : i < bound) :
    (t.insert i x).wf bound = true := by
  obtain ⟨h1, h2⟩ := (Table.wf_iff _ _).mp h
  refine (Table.wf_iff _ _).mpr ⟨rowsInsert_rising i x h1, fun q hq => ?_⟩
  rcases rowsInsert_mem hq with rfl | hq
  · exact hi
  · exact h2 q hq

theorem Table.wf_erase {α : Type} {t : Table α} {bound : Nat} (i : Nat) (h : t.wf bound = true) :
    (t.erase i).wf bound = true := by
  obtain ⟨h1, h2⟩ := (Table.wf_iff _ _).mp h
  exact (Table.wf_iff _ _).mpr ⟨rowsRising_filter _ h1, fun q hq => h2 q (List.mem_filter.mp hq).1⟩

theorem Table.wf_map {α : Type} {t : Table α} {bound : Nat} (f : Nat → α → α) (h : t.wf bound = true) :
    (t.map f).wf bound = true := by
  obtain ⟨h1, h2⟩ := (Table.wf_iff _ _).mp h
  refine (Table.wf_iff _ _).mpr ⟨rowsRising_map f h1, fun q hq => ?_⟩
  obtain ⟨r, hr, rfl⟩ := List.mem_map.mp hq
  exact h2 r hr

theorem rowsRising_collect {α β : Type} {rows : List (Nat × α)} (f : Nat → Option β) (h : rowsRising rows = true) :
    rowsRising (rows.filterMap (fun p => (f p.1).map (fun x => (p.1, x)))) = true := by
  induction rows with
  | nil => rfl
  | cons p rest ih =>
    obtain ⟨hp, hr⟩ := (rowsRising_cons p rest).mp h
    cases hf : f p.1 with
    | none => simpa [List.filterMap_cons, hf] using ih hr
    | some x =>
      simp only [List.filterMap_cons, hf, Option.map_some]
      refine (rowsRising_cons _ _).mpr ⟨fun q hq => ?_, ih hr⟩
      obtain ⟨r, hr', hq⟩ := List.mem_filterMap.mp hq
      obtain ⟨y, -, rfl⟩ := Option.map_eq_some_iff.mp hq
      exact hp r hr'

theorem Table.wf_collect {α β : Type} {t : Table α} {bound : Nat} (f : Nat → Option β) (h : t.wf bound = true) :
    (t.collect f).wf bound = true := by
  obtain ⟨h1, h2⟩ := (Table.wf_iff _ _).mp h
  refine (Table.wf_iff _ _).mpr ⟨rowsRising_collect f h1, fun q hq => ?_⟩
  obtain ⟨r, hr, hq⟩ := List.mem_filterMap.mp hq
  obtain ⟨y, -, rfl⟩ := Option.map_eq_some_iff.mp hq
  exact h2 r hr

theorem Table.wf_empty {α : Type} (bound : Nat) : (Table.empty : Table α).wf bound = true := rfl

theorem rowsGet_mem {α : Type} {rows : List (Nat × α)} {i : Nat} {x : α} (h : rowsGet rows i = some x) :
    (i, x) ∈ rows := by
  induction rows with
  | nil => cases h
  | cons p rest ih =>
    obtain ⟨m, y⟩ := p
    simp only [rowsGet] at h
    split_ifs at h with hm
    · cases h
      simp [hm]
    · exact List.mem_cons_of_mem _ (ih h)

/-- In a table in canonical form a row is what its key reads as. -/
theorem rowsGet_of_mem {α : Type} {rows : List (Nat × α)} {i : Nat} {x : α} (h : rowsRising rows = true)
    (hm : (i, x) ∈ rows) : rowsGet rows i = some x := by
  induction rows with
  | nil => cases hm
  | cons p rest ih =>
    obtain ⟨hp, hr⟩ := (rowsRising_cons p rest).mp h
    obtain ⟨m, y⟩ := p
    rcases List.mem_cons.mp hm with he | he
    · cases he
      simp [rowsGet]
    · have := hp _ he
      simp only at this
      simp only [rowsGet]
      rw [if_neg (by omega)]
      exact ih hr he

end Sys2Proof
end

