-- ==== Sys2Proof/Laws/State.lean ====
section
/-! SUPPORT. What each update of the state leaves: one lemma per field for the plain updates, true by rfl, and for each
shared operation one lemma that names every field it keeps. -/

namespace Sys2Proof.Machine

/-! ## Plain updates -/

@[simp] theorem State.setRamp_pending (s : State) (k : Fin 4) (r : Ramp) : (s.setRamp k r).pending = s.pending := rfl
@[simp] theorem State.setRamp_handed (s : State) (k : Fin 4) (r : Ramp) : (s.setRamp k r).handed = s.handed := rfl
@[simp] theorem State.setRamp_freeCount (s : State) (k : Fin 4) (r : Ramp) : (s.setRamp k r).freeCount = s.freeCount := rfl
@[simp] theorem State.setRamp_ownAddress (s : State) (k : Fin 4) (r : Ramp) : (s.setRamp k r).ownAddress = s.ownAddress := rfl
@[simp] theorem State.setRamp_linkUp (s : State) (k : Fin 4) (r : Ramp) : (s.setRamp k r).linkUp = s.linkUp := rfl
@[simp] theorem State.setRamp_awaitingGap (s : State) (k : Fin 4) (r : Ramp) : (s.setRamp k r).awaitingGap = s.awaitingGap := rfl
@[simp] theorem State.setRamp_txHold (s : State) (k : Fin 4) (r : Ramp) : (s.setRamp k r).txHold = s.txHold := rfl
@[simp] theorem State.setRamp_forward (s : State) (k : Fin 4) (r : Ramp) : (s.setRamp k r).forward = s.forward := rfl
@[simp] theorem State.setRamp_urgent (s : State) (k : Fin 4) (r : Ramp) : (s.setRamp k r).urgent = s.urgent := rfl
@[simp] theorem State.setRamp_normal (s : State) (k : Fin 4) (r : Ramp) : (s.setRamp k r).normal = s.normal := rfl
@[simp] theorem State.setRamp_forwardDropped (s : State) (k : Fin 4) (r : Ramp) : (s.setRamp k r).forwardDropped = s.forwardDropped := rfl
@[simp] theorem State.setRamp_urgentDropped (s : State) (k : Fin 4) (r : Ramp) : (s.setRamp k r).urgentDropped = s.urgentDropped := rfl
@[simp] theorem State.setRamp_normalDropped (s : State) (k : Fin 4) (r : Ramp) : (s.setRamp k r).normalDropped = s.normalDropped := rfl
@[simp] theorem State.setRamp_waitCount (s : State) (k : Fin 4) (r : Ramp) : (s.setRamp k r).waitCount = s.waitCount := rfl
@[simp] theorem State.setRamp_line (s : State) (k : Fin 4) (r : Ramp) : (s.setRamp k r).line = s.line := rfl
@[simp] theorem State.setRamp_sequence (s : State) (k : Fin 4) (r : Ramp) : (s.setRamp k r).sequence = s.sequence := rfl
@[simp] theorem State.setRamp_site (s : State) (k : Fin 4) (r : Ramp) : (s.setRamp k r).site = s.site := rfl
@[simp] theorem State.setRamp_limits (s : State) (k : Fin 4) (r : Ramp) : (s.setRamp k r).limits = s.limits := rfl
@[simp] theorem State.setRamp_detectors (s : State) (k : Fin 4) (r : Ramp) : (s.setRamp k r).detectors = s.detectors := rfl
@[simp] theorem State.setRamp_stations (s : State) (k : Fin 4) (r : Ramp) : (s.setRamp k r).stations = s.stations := rfl
@[simp] theorem State.setRamp_lastSources (s : State) (k : Fin 4) (r : Ramp) : (s.setRamp k r).lastSources = s.lastSources := rfl
@[simp] theorem State.setRamp_plans (s : State) (k : Fin 4) (r : Ramp) : (s.setRamp k r).plans = s.plans := rfl
@[simp] theorem State.setRamp_jobs (s : State) (k : Fin 4) (r : Ramp) : (s.setRamp k r).jobs = s.jobs := rfl
@[simp] theorem State.setRamp_rcu (s : State) (k : Fin 4) (r : Ramp) : (s.setRamp k r).rcu = s.rcu := rfl

@[simp] theorem State.setRamp_ramps (s : State) (k : Fin 4) (r : Ramp) : (s.setRamp k r).ramps = s.ramps.set k r := rfl

@[simp] theorem State.ramp_setRamp (s : State) (k j : Fin 4) (r : Ramp) :
    (s.setRamp k r).ramp j = if j = k then r else s.ramp j := Four.get_set _ _ _ _

@[simp] theorem State.updRamp_pending (s : State) (k : Fin 4) (f : Ramp → Ramp) : (s.updRamp k f).pending = s.pending := rfl
@[simp] theorem State.updRamp_handed (s : State) (k : Fin 4) (f : Ramp → Ramp) : (s.updRamp k f).handed = s.handed := rfl
@[simp] theorem State.updRamp_freeCount (s : State) (k : Fin 4) (f : Ramp → Ramp) : (s.updRamp k f).freeCount = s.freeCount := rfl
@[simp] theorem State.updRamp_ownAddress (s : State) (k : Fin 4) (f : Ramp → Ramp) : (s.updRamp k f).ownAddress = s.ownAddress := rfl
@[simp] theorem State.updRamp_linkUp (s : State) (k : Fin 4) (f : Ramp → Ramp) : (s.updRamp k f).linkUp = s.linkUp := rfl
@[simp] theorem State.updRamp_awaitingGap (s : State) (k : Fin 4) (f : Ramp → Ramp) : (s.updRamp k f).awaitingGap = s.awaitingGap := rfl
@[simp] theorem State.updRamp_txHold (s : State) (k : Fin 4) (f : Ramp → Ramp) : (s.updRamp k f).txHold = s.txHold := rfl
@[simp] theorem State.updRamp_forward (s : State) (k : Fin 4) (f : Ramp → Ramp) : (s.updRamp k f).forward = s.forward := rfl
@[simp] theorem State.updRamp_urgent (s : State) (k : Fin 4) (f : Ramp → Ramp) : (s.updRamp k f).urgent = s.urgent := rfl
@[simp] theorem State.updRamp_normal (s : State) (k : Fin 4) (f : Ramp → Ramp) : (s.updRamp k f).normal = s.normal := rfl
@[simp] theorem State.updRamp_forwardDropped (s : State) (k : Fin 4) (f : Ramp → Ramp) : (s.updRamp k f).forwardDropped = s.forwardDropped := rfl
@[simp] theorem State.updRamp_urgentDropped (s : State) (k : Fin 4) (f : Ramp → Ramp) : (s.updRamp k f).urgentDropped = s.urgentDropped := rfl
@[simp] theorem State.updRamp_normalDropped (s : State) (k : Fin 4) (f : Ramp → Ramp) : (s.updRamp k f).normalDropped = s.normalDropped := rfl
@[simp] theorem State.updRamp_waitCount (s : State) (k : Fin 4) (f : Ramp → Ramp) : (s.updRamp k f).waitCount = s.waitCount := rfl
@[simp] theorem State.updRamp_line (s : State) (k : Fin 4) (f : Ramp → Ramp) : (s.updRamp k f).line = s.line := rfl
@[simp] theorem State.updRamp_sequence (s : State) (k : Fin 4) (f : Ramp → Ramp) : (s.updRamp k f).sequence = s.sequence := rfl
@[simp] theorem State.updRamp_site (s : State) (k : Fin 4) (f : Ramp → Ramp) : (s.updRamp k f).site = s.site := rfl
@[simp] theorem State.updRamp_limits (s : State) (k : Fin 4) (f : Ramp → Ramp) : (s.updRamp k f).limits = s.limits := rfl
@[simp] theorem State.updRamp_detectors (s : State) (k : Fin 4) (f : Ramp → Ramp) : (s.updRamp k f).detectors = s.detectors := rfl
@[simp] theorem State.updRamp_stations (s : State) (k : Fin 4) (f : Ramp → Ramp) : (s.updRamp k f).stations = s.stations := rfl
@[simp] theorem State.updRamp_lastSources (s : State) (k : Fin 4) (f : Ramp → Ramp) : (s.updRamp k f).lastSources = s.lastSources := rfl
@[simp] theorem State.updRamp_plans (s : State) (k : Fin 4) (f : Ramp → Ramp) : (s.updRamp k f).plans = s.plans := rfl
@[simp] theorem State.updRamp_jobs (s : State) (k : Fin 4) (f : Ramp → Ramp) : (s.updRamp k f).jobs = s.jobs := rfl
@[simp] theorem State.updRamp_rcu (s : State) (k : Fin 4) (f : Ramp → Ramp) : (s.updRamp k f).rcu = s.rcu := rfl

@[simp] theorem State.ramp_updRamp (s : State) (k j : Fin 4) (f : Ramp → Ramp) :
    (s.updRamp k f).ramp j = if j = k then f (s.ramp k) else s.ramp j := Four.get_set _ _ _ _

@[simp] theorem State.updRamp_ramps (s : State) (k : Fin 4) (f : Ramp → Ramp) :
    (s.updRamp k f).ramps = s.ramps.set k (f (s.ramp k)) := rfl

@[simp] theorem State.drew_pending (s : State) (n : Nat) : (s.drew n).pending = s.pending := rfl
@[simp] theorem State.drew_handed (s : State) (n : Nat) : (s.drew n).handed = s.handed := rfl
@[simp] theorem State.drew_ownAddress (s : State) (n : Nat) : (s.drew n).ownAddress = s.ownAddress := rfl
@[simp] theorem State.drew_linkUp (s : State) (n : Nat) : (s.drew n).linkUp = s.linkUp := rfl
@[simp] theorem State.drew_awaitingGap (s : State) (n : Nat) : (s.drew n).awaitingGap = s.awaitingGap := rfl
@[simp] theorem State.drew_txHold (s : State) (n : Nat) : (s.drew n).txHold = s.txHold := rfl
@[simp] theorem State.drew_forward (s : State) (n : Nat) : (s.drew n).forward = s.forward := rfl
@[simp] theorem State.drew_urgent (s : State) (n : Nat) : (s.drew n).urgent = s.urgent := rfl
@[simp] theorem State.drew_normal (s : State) (n : Nat) : (s.drew n).normal = s.normal := rfl
@[simp] theorem State.drew_forwardDropped (s : State) (n : Nat) : (s.drew n).forwardDropped = s.forwardDropped := rfl
@[simp] theorem State.drew_urgentDropped (s : State) (n : Nat) : (s.drew n).urgentDropped = s.urgentDropped := rfl
@[simp] theorem State.drew_normalDropped (s : State) (n : Nat) : (s.drew n).normalDropped = s.normalDropped := rfl
@[simp] theorem State.drew_waitCount (s : State) (n : Nat) : (s.drew n).waitCount = s.waitCount := rfl
@[simp] theorem State.drew_line (s : State) (n : Nat) : (s.drew n).line = s.line := rfl
@[simp] theorem State.drew_sequence (s : State) (n : Nat) : (s.drew n).sequence = s.sequence := rfl
@[simp] theorem State.drew_site (s : State) (n : Nat) : (s.drew n).site = s.site := rfl
@[simp] theorem State.drew_limits (s : State) (n : Nat) : (s.drew n).limits = s.limits := rfl
@[simp] theorem State.drew_detectors (s : State) (n : Nat) : (s.drew n).detectors = s.detectors := rfl
@[simp] theorem State.drew_stations (s : State) (n : Nat) : (s.drew n).stations = s.stations := rfl
@[simp] theorem State.drew_lastSources (s : State) (n : Nat) : (s.drew n).lastSources = s.lastSources := rfl
@[simp] theorem State.drew_plans (s : State) (n : Nat) : (s.drew n).plans = s.plans := rfl
@[simp] theorem State.drew_jobs (s : State) (n : Nat) : (s.drew n).jobs = s.jobs := rfl
@[simp] theorem State.drew_rcu (s : State) (n : Nat) : (s.drew n).rcu = s.rcu := rfl
@[simp] theorem State.drew_ramps (s : State) (n : Nat) : (s.drew n).ramps = s.ramps := rfl

@[simp] theorem State.drew_freeCount (s : State) (n : Nat) : (s.drew n).freeCount = s.freeCount + n := rfl

@[simp] theorem State.resetMarks_pending (s : State) (k : Fin 4) : (s.resetMarks k).pending = s.pending := rfl
@[simp] theorem State.resetMarks_handed (s : State) (k : Fin 4) : (s.resetMarks k).handed = s.handed := rfl
@[simp] theorem State.resetMarks_freeCount (s : State) (k : Fin 4) : (s.resetMarks k).freeCount = s.freeCount := rfl
@[simp] theorem State.resetMarks_ownAddress (s : State) (k : Fin 4) : (s.resetMarks k).ownAddress = s.ownAddress := rfl
@[simp] theorem State.resetMarks_linkUp (s : State) (k : Fin 4) : (s.resetMarks k).linkUp = s.linkUp := rfl
@[simp] theorem State.resetMarks_awaitingGap (s : State) (k : Fin 4) : (s.resetMarks k).awaitingGap = s.awaitingGap := rfl
@[simp] theorem State.resetMarks_txHold (s : State) (k : Fin 4) : (s.resetMarks k).txHold = s.txHold := rfl
@[simp] theorem State.resetMarks_forward (s : State) (k : Fin 4) : (s.resetMarks k).forward = s.forward := rfl
@[simp] theorem State.resetMarks_urgent (s : State) (k : Fin 4) : (s.resetMarks k).urgent = s.urgent := rfl
@[simp] theorem State.resetMarks_normal (s : State) (k : Fin 4) : (s.resetMarks k).normal = s.normal := rfl
@[simp] theorem State.resetMarks_forwardDropped (s : State) (k : Fin 4) : (s.resetMarks k).forwardDropped = s.forwardDropped := rfl
@[simp] theorem State.resetMarks_urgentDropped (s : State) (k : Fin 4) : (s.resetMarks k).urgentDropped = s.urgentDropped := rfl
@[simp] theorem State.resetMarks_normalDropped (s : State) (k : Fin 4) : (s.resetMarks k).normalDropped = s.normalDropped := rfl
@[simp] theorem State.resetMarks_waitCount (s : State) (k : Fin 4) : (s.resetMarks k).waitCount = s.waitCount := rfl
@[simp] theorem State.resetMarks_line (s : State) (k : Fin 4) : (s.resetMarks k).line = s.line := rfl
@[simp] theorem State.resetMarks_sequence (s : State) (k : Fin 4) : (s.resetMarks k).sequence = s.sequence := rfl
@[simp] theorem State.resetMarks_site (s : State) (k : Fin 4) : (s.resetMarks k).site = s.site := rfl
@[simp] theorem State.resetMarks_limits (s : State) (k : Fin 4) : (s.resetMarks k).limits = s.limits := rfl
@[simp] theorem State.resetMarks_detectors (s : State) (k : Fin 4) : (s.resetMarks k).detectors = s.detectors := rfl
@[simp] theorem State.resetMarks_lastSources (s : State) (k : Fin 4) : (s.resetMarks k).lastSources = s.lastSources := rfl
@[simp] theorem State.resetMarks_plans (s : State) (k : Fin 4) : (s.resetMarks k).plans = s.plans := rfl
@[simp] theorem State.resetMarks_jobs (s : State) (k : Fin 4) : (s.resetMarks k).jobs = s.jobs := rfl
@[simp] theorem State.resetMarks_rcu (s : State) (k : Fin 4) : (s.resetMarks k).rcu = s.rcu := rfl
@[simp] theorem State.resetMarks_ramps (s : State) (k : Fin 4) : (s.resetMarks k).ramps = s.ramps := rfl

@[simp] theorem State.resolveSources_pending (w : Fin 4 → Nat → Bool) (s : State) :
    (s.resolveSources w).pending = s.pending := rfl
@[simp] theorem State.resolveSources_handed (w : Fin 4 → Nat → Bool) (s : State) :
    (s.resolveSources w).handed = s.handed := rfl
@[simp] theorem State.resolveSources_freeCount (w : Fin 4 → Nat → Bool) (s : State) :
    (s.resolveSources w).freeCount = s.freeCount := rfl
@[simp] theorem State.resolveSources_ownAddress (w : Fin 4 → Nat → Bool) (s : State) :
    (s.resolveSources w).ownAddress = s.ownAddress := rfl
@[simp] theorem State.resolveSources_linkUp (w : Fin 4 → Nat → Bool) (s : State) :
    (s.resolveSources w).linkUp = s.linkUp := rfl
@[simp] theorem State.resolveSources_awaitingGap (w : Fin 4 → Nat → Bool) (s : State) :
    (s.resolveSources w).awaitingGap = s.awaitingGap := rfl
@[simp] theorem State.resolveSources_txHold (w : Fin 4 → Nat → Bool) (s : State) :
    (s.resolveSources w).txHold = s.txHold := rfl
@[simp] theorem State.resolveSources_forward (w : Fin 4 → Nat → Bool) (s : State) :
    (s.resolveSources w).forward = s.forward := rfl
@[simp] theorem State.resolveSources_urgent (w : Fin 4 → Nat → Bool) (s : State) :
    (s.resolveSources w).urgent = s.urgent := rfl
@[simp] theorem State.resolveSources_normal (w : Fin 4 → Nat → Bool) (s : State) :
    (s.resolveSources w).normal = s.normal := rfl
@[simp] theorem State.resolveSources_forwardDropped (w : Fin 4 → Nat → Bool) (s : State) :
    (s.resolveSources w).forwardDropped = s.forwardDropped := rfl
@[simp] theorem State.resolveSources_urgentDropped (w : Fin 4 → Nat → Bool) (s : State) :
    (s.resolveSources w).urgentDropped = s.urgentDropped := rfl
@[simp] theorem State.resolveSources_normalDropped (w : Fin 4 → Nat → Bool) (s : State) :
    (s.resolveSources w).normalDropped = s.normalDropped := rfl
@[simp] theorem State.resolveSources_waitCount (w : Fin 4 → Nat → Bool) (s : State) :
    (s.resolveSources w).waitCount = s.waitCount := rfl
@[simp] theorem State.resolveSources_line (w : Fin 4 → Nat → Bool) (s : State) :
    (s.resolveSources w).line = s.line := rfl
@[simp] theorem State.resolveSources_sequence (w : Fin 4 → Nat → Bool) (s : State) :
    (s.resolveSources w).sequence = s.sequence := rfl
@[simp] theorem State.resolveSources_site (w : Fin 4 → Nat → Bool) (s : State) :
    (s.resolveSources w).site = s.site := rfl
@[simp] theorem State.resolveSources_limits (w : Fin 4 → Nat → Bool) (s : State) :
    (s.resolveSources w).limits = s.limits := rfl
@[simp] theorem State.resolveSources_detectors (w : Fin 4 → Nat → Bool) (s : State) :
    (s.resolveSources w).detectors = s.detectors := rfl
@[simp] theorem State.resolveSources_stations (w : Fin 4 → Nat → Bool) (s : State) :
    (s.resolveSources w).stations = s.stations := rfl
@[simp] theorem State.resolveSources_plans (w : Fin 4 → Nat → Bool) (s : State) :
    (s.resolveSources w).plans = s.plans := rfl
@[simp] theorem State.resolveSources_jobs (w : Fin 4 → Nat → Bool) (s : State) :
    (s.resolveSources w).jobs = s.jobs := rfl
@[simp] theorem State.resolveSources_rcu (w : Fin 4 → Nat → Bool) (s : State) :
    (s.resolveSources w).rcu = s.rcu := rfl
@[simp] theorem State.resolveSources_ramps (w : Fin 4 → Nat → Bool) (s : State) :
    (s.resolveSources w).ramps = s.ramps := rfl
@[simp] theorem State.ramp_resolveSources (w : Fin 4 → Nat → Bool) (s : State) (k : Fin 4) :
    (s.resolveSources w).ramp k = s.ramp k := rfl

/-- After a resolution each entry has the last source that the resolution gives it. -/
@[simp] theorem State.resolveSources_get (w : Fin 4 → Nat → Bool) (s : State) (i : Nat) :
    (s.resolveSources w).lastSources.get i = s.lastSource w i := by
  simp only [State.resolveSources, Table.get_collect, State.lastSource, State.detector]
  cases s.detectors.get i <;> rfl

/-- A resolution leaves the last sources in canonical form wherever the detector table is in it. -/
theorem State.resolveSources_wf (w : Fin 4 → Nat → Bool) {s : State} {bound : Nat} (h : s.detectors.wf bound = true) :
    (s.resolveSources w).lastSources.wf bound = true := Table.wf_collect _ h

/-- A last source stands for an enabled SPILL entry alone. -/
theorem State.lastSource_spill {w : Fin 4 → Nat → Bool} {s : State} {i : Nat} (h : (s.lastSource w i).isSome = true) :
    ∃ d, s.detector i = some d ∧ d.config.role = .spill := by
  simp only [State.lastSource] at h
  cases hd : s.detector i with
  | none => simp [hd] at h
  | some d =>
    refine ⟨d, rfl, ?_⟩
    by_contra hr
    simp [hd, hr] at h

@[simp] theorem State.clearAccumulators_pending (s : State) (k : Fin 4) : (s.clearAccumulators k).pending = s.pending := rfl
@[simp] theorem State.clearAccumulators_handed (s : State) (k : Fin 4) : (s.clearAccumulators k).handed = s.handed := rfl
@[simp] theorem State.clearAccumulators_freeCount (s : State) (k : Fin 4) : (s.clearAccumulators k).freeCount = s.freeCount := rfl
@[simp] theorem State.clearAccumulators_ownAddress (s : State) (k : Fin 4) : (s.clearAccumulators k).ownAddress = s.ownAddress := rfl
@[simp] theorem State.clearAccumulators_linkUp (s : State) (k : Fin 4) : (s.clearAccumulators k).linkUp = s.linkUp := rfl
@[simp] theorem State.clearAccumulators_awaitingGap (s : State) (k : Fin 4) : (s.clearAccumulators k).awaitingGap = s.awaitingGap := rfl
@[simp] theorem State.clearAccumulators_txHold (s : State) (k : Fin 4) : (s.clearAccumulators k).txHold = s.txHold := rfl
@[simp] theorem State.clearAccumulators_forward (s : State) (k : Fin 4) : (s.clearAccumulators k).forward = s.forward := rfl
@[simp] theorem State.clearAccumulators_urgent (s : State) (k : Fin 4) : (s.clearAccumulators k).urgent = s.urgent := rfl
@[simp] theorem State.clearAccumulators_normal (s : State) (k : Fin 4) : (s.clearAccumulators k).normal = s.normal := rfl
@[simp] theorem State.clearAccumulators_forwardDropped (s : State) (k : Fin 4) : (s.clearAccumulators k).forwardDropped = s.forwardDropped := rfl
@[simp] theorem State.clearAccumulators_urgentDropped (s : State) (k : Fin 4) : (s.clearAccumulators k).urgentDropped = s.urgentDropped := rfl
@[simp] theorem State.clearAccumulators_normalDropped (s : State) (k : Fin 4) : (s.clearAccumulators k).normalDropped = s.normalDropped := rfl
@[simp] theorem State.clearAccumulators_waitCount (s : State) (k : Fin 4) : (s.clearAccumulators k).waitCount = s.waitCount := rfl
@[simp] theorem State.clearAccumulators_line (s : State) (k : Fin 4) : (s.clearAccumulators k).line = s.line := rfl
@[simp] theorem State.clearAccumulators_sequence (s : State) (k : Fin 4) : (s.clearAccumulators k).sequence = s.sequence := rfl
@[simp] theorem State.clearAccumulators_site (s : State) (k : Fin 4) : (s.clearAccumulators k).site = s.site := rfl
@[simp] theorem State.clearAccumulators_limits (s : State) (k : Fin 4) : (s.clearAccumulators k).limits = s.limits := rfl
@[simp] theorem State.clearAccumulators_stations (s : State) (k : Fin 4) : (s.clearAccumulators k).stations = s.stations := rfl
@[simp] theorem State.clearAccumulators_lastSources (s : State) (k : Fin 4) : (s.clearAccumulators k).lastSources = s.lastSources := rfl
@[simp] theorem State.clearAccumulators_plans (s : State) (k : Fin 4) : (s.clearAccumulators k).plans = s.plans := rfl
@[simp] theorem State.clearAccumulators_jobs (s : State) (k : Fin 4) : (s.clearAccumulators k).jobs = s.jobs := rfl
@[simp] theorem State.clearAccumulators_rcu (s : State) (k : Fin 4) : (s.clearAccumulators k).rcu = s.rcu := rfl
@[simp] theorem State.clearAccumulators_ramps (s : State) (k : Fin 4) : (s.clearAccumulators k).ramps = s.ramps := rfl

/-- Two states with the same ramps have the same ramp `k`. -/
theorem State.ramp_of_ramps {s t : State} (h : s.ramps = t.ramps) (k : Fin 4) : s.ramp k = t.ramp k :=
  congrArg (fun v => v.get k) h

/-! ## Ramps -/

@[simp] theorem Ramp.lane_updLane (r : Ramp) (l j : Fin 3) (f : Lane → Lane) :
    (r.updLane l f).lane j = if j = l then f (r.lane l) else r.lane j := Three.get_set _ _ _ _

@[simp] theorem Ramp.head_updHead (r : Ramp) (l j : Fin 3) (f : Head → Head) :
    (r.updHead l f).head j = if j = l then (r.head l).map f else r.head j := Three.get_set _ _ _ _

@[simp] theorem Ramp.head_updLane (r : Ramp) (l j : Fin 3) (f : Lane → Lane) : (r.updLane l f).head j = r.head j := rfl

@[simp] theorem Ramp.lane_updHead (r : Ramp) (l j : Fin 3) (f : Head → Head) : (r.updHead l f).lane j = r.lane j := rfl

@[simp] theorem Ramp.laneConfig_updLane (r : Ramp) (l j : Fin 3) (f : Lane → Lane) :
    (r.updLane l f).laneConfig j = r.laneConfig j := rfl

@[simp] theorem Ramp.laneConfig_updHead (r : Ramp) (l j : Fin 3) (f : Head → Head) :
    (r.updHead l f).laneConfig j = r.laneConfig j := rfl

@[simp] theorem Ramp.updLane_stack (r : Ramp) (l : Fin 3) (f : Lane → Lane) : (r.updLane l f).stack = r.stack := rfl
@[simp] theorem Ramp.updLane_intervalTimer (r : Ramp) (l : Fin 3) (f : Lane → Lane) : (r.updLane l f).intervalTimer = r.intervalTimer := rfl
@[simp] theorem Ramp.updLane_overrun (r : Ramp) (l : Fin 3) (f : Lane → Lane) : (r.updLane l f).overrun = r.overrun := rfl
@[simp] theorem Ramp.updLane_spill (r : Ramp) (l : Fin 3) (f : Lane → Lane) : (r.updLane l f).spill = r.spill := rfl
@[simp] theorem Ramp.updLane_rPrev (r : Ramp) (l : Fin 3) (f : Lane → Lane) : (r.updLane l f).rPrev = r.rPrev := rfl
@[simp] theorem Ramp.updLane_sticky (r : Ramp) (l : Fin 3) (f : Lane → Lane) : (r.updLane l f).sticky = r.sticky := rfl
@[simp] theorem Ramp.updLane_last (r : Ramp) (l : Fin 3) (f : Lane → Lane) : (r.updLane l f).last = r.last := rfl
@[simp] theorem Ramp.updLane_lastResult (r : Ramp) (l : Fin 3) (f : Lane → Lane) : (r.updLane l f).lastResult = r.lastResult := rfl
@[simp] theorem Ramp.updLane_faultPending (r : Ramp) (l : Fin 3) (f : Lane → Lane) : (r.updLane l f).faultPending = r.faultPending := rfl
@[simp] theorem Ramp.updLane_recovery (r : Ramp) (l : Fin 3) (f : Lane → Lane) : (r.updLane l f).recovery = r.recovery := rfl
@[simp] theorem Ramp.updLane_startFault (r : Ramp) (l : Fin 3) (f : Lane → Lane) : (r.updLane l f).startFault = r.startFault := rfl
@[simp] theorem Ramp.updLane_config (r : Ramp) (l : Fin 3) (f : Lane → Lane) : (r.updLane l f).config = r.config := rfl
@[simp] theorem Ramp.updLane_state (r : Ramp) (l : Fin 3) (f : Lane → Lane) : (r.updLane l f).state = r.state := rfl
@[simp] theorem Ramp.updLane_requestHold (r : Ramp) (l : Fin 3) (f : Lane → Lane) : (r.updLane l f).requestHold = r.requestHold := rfl
@[simp] theorem Ramp.updLane_inputHold (r : Ramp) (l : Fin 3) (f : Lane → Lane) : (r.updLane l f).inputHold = r.inputHold := rfl
@[simp] theorem Ramp.updLane_holdInput (r : Ramp) (l : Fin 3) (f : Lane → Lane) : (r.updLane l f).holdInput = r.holdInput := rfl
@[simp] theorem Ramp.updLane_warningTimer (r : Ramp) (l : Fin 3) (f : Lane → Lane) : (r.updLane l f).warningTimer = r.warningTimer := rfl
@[simp] theorem Ramp.updLane_clearTimer (r : Ramp) (l : Fin 3) (f : Lane → Lane) : (r.updLane l f).clearTimer = r.clearTimer := rfl
@[simp] theorem Ramp.updLane_share (r : Ramp) (l : Fin 3) (f : Lane → Lane) : (r.updLane l f).share = r.share := rfl
@[simp] theorem Ramp.updLane_carriedRate (r : Ramp) (l : Fin 3) (f : Lane → Lane) : (r.updLane l f).carriedRate = r.carriedRate := rfl
@[simp] theorem Ramp.updLane_clock (r : Ramp) (l : Fin 3) (f : Lane → Lane) : (r.updLane l f).clock = r.clock := rfl
@[simp] theorem Ramp.updLane_waitOrder (r : Ramp) (l : Fin 3) (f : Lane → Lane) : (r.updLane l f).waitOrder = r.waitOrder := rfl
@[simp] theorem Ramp.updLane_pointer (r : Ramp) (l : Fin 3) (f : Lane → Lane) : (r.updLane l f).pointer = r.pointer := rfl
@[simp] theorem Ramp.updLane_heads (r : Ramp) (l : Fin 3) (f : Lane → Lane) : (r.updLane l f).heads = r.heads := rfl

@[simp] theorem Ramp.updHead_stack (r : Ramp) (l : Fin 3) (f : Head → Head) : (r.updHead l f).stack = r.stack := rfl
@[simp] theorem Ramp.updHead_intervalTimer (r : Ramp) (l : Fin 3) (f : Head → Head) : (r.updHead l f).intervalTimer = r.intervalTimer := rfl
@[simp] theorem Ramp.updHead_overrun (r : Ramp) (l : Fin 3) (f : Head → Head) : (r.updHead l f).overrun = r.overrun := rfl
@[simp] theorem Ramp.updHead_spill (r : Ramp) (l : Fin 3) (f : Head → Head) : (r.updHead l f).spill = r.spill := rfl
@[simp] theorem Ramp.updHead_rPrev (r : Ramp) (l : Fin 3) (f : Head → Head) : (r.updHead l f).rPrev = r.rPrev := rfl
@[simp] theorem Ramp.updHead_sticky (r : Ramp) (l : Fin 3) (f : Head → Head) : (r.updHead l f).sticky = r.sticky := rfl
@[simp] theorem Ramp.updHead_last (r : Ramp) (l : Fin 3) (f : Head → Head) : (r.updHead l f).last = r.last := rfl
@[simp] theorem Ramp.updHead_lastResult (r : Ramp) (l : Fin 3) (f : Head → Head) : (r.updHead l f).lastResult = r.lastResult := rfl
@[simp] theorem Ramp.updHead_faultPending (r : Ramp) (l : Fin 3) (f : Head → Head) : (r.updHead l f).faultPending = r.faultPending := rfl
@[simp] theorem Ramp.updHead_recovery (r : Ramp) (l : Fin 3) (f : Head → Head) : (r.updHead l f).recovery = r.recovery := rfl
@[simp] theorem Ramp.updHead_startFault (r : Ramp) (l : Fin 3) (f : Head → Head) : (r.updHead l f).startFault = r.startFault := rfl
@[simp] theorem Ramp.updHead_config (r : Ramp) (l : Fin 3) (f : Head → Head) : (r.updHead l f).config = r.config := rfl
@[simp] theorem Ramp.updHead_state (r : Ramp) (l : Fin 3) (f : Head → Head) : (r.updHead l f).state = r.state := rfl
@[simp] theorem Ramp.updHead_requestHold (r : Ramp) (l : Fin 3) (f : Head → Head) : (r.updHead l f).requestHold = r.requestHold := rfl
@[simp] theorem Ramp.updHead_inputHold (r : Ramp) (l : Fin 3) (f : Head → Head) : (r.updHead l f).inputHold = r.inputHold := rfl
@[simp] theorem Ramp.updHead_holdInput (r : Ramp) (l : Fin 3) (f : Head → Head) : (r.updHead l f).holdInput = r.holdInput := rfl
@[simp] theorem Ramp.updHead_warningTimer (r : Ramp) (l : Fin 3) (f : Head → Head) : (r.updHead l f).warningTimer = r.warningTimer := rfl
@[simp] theorem Ramp.updHead_clearTimer (r : Ramp) (l : Fin 3) (f : Head → Head) : (r.updHead l f).clearTimer = r.clearTimer := rfl
@[simp] theorem Ramp.updHead_share (r : Ramp) (l : Fin 3) (f : Head → Head) : (r.updHead l f).share = r.share := rfl
@[simp] theorem Ramp.updHead_carriedRate (r : Ramp) (l : Fin 3) (f : Head → Head) : (r.updHead l f).carriedRate = r.carriedRate := rfl
@[simp] theorem Ramp.updHead_clock (r : Ramp) (l : Fin 3) (f : Head → Head) : (r.updHead l f).clock = r.clock := rfl
@[simp] theorem Ramp.updHead_lanes (r : Ramp) (l : Fin 3) (f : Head → Head) : (r.updHead l f).lanes = r.lanes := rfl
@[simp] theorem Ramp.updHead_waitOrder (r : Ramp) (l : Fin 3) (f : Head → Head) : (r.updHead l f).waitOrder = r.waitOrder := rfl
@[simp] theorem Ramp.updHead_pointer (r : Ramp) (l : Fin 3) (f : Head → Head) : (r.updHead l f).pointer = r.pointer := rfl

/-! ## Shared operations: what each keeps -/

/-- What each step of a fold keeps, the fold keeps. -/
theorem foldl_keeps {α β γ : Type} (p : α → γ) (f : α → β → α) (h : ∀ s x, p (f s x) = p s) (l : List β) (s : α) :
    p (l.foldl f s) = p s := by
  induction l generalizing s with
  | nil => rfl
  | cons x rest ih => rw [List.foldl_cons, ih, h]

@[simp] theorem State.offerForward_keeps (s : State) (f : Frame) :
    (s.offerForward f).pending = s.pending ∧ (s.offerForward f).handed = s.handed ∧
    (s.offerForward f).freeCount = s.freeCount ∧ (s.offerForward f).ownAddress = s.ownAddress ∧
    (s.offerForward f).linkUp = s.linkUp ∧ (s.offerForward f).awaitingGap = s.awaitingGap ∧
    (s.offerForward f).txHold = s.txHold ∧ (s.offerForward f).urgent = s.urgent ∧
    (s.offerForward f).normal = s.normal ∧ (s.offerForward f).urgentDropped = s.urgentDropped ∧
    (s.offerForward f).normalDropped = s.normalDropped ∧ (s.offerForward f).waitCount = s.waitCount ∧
    (s.offerForward f).line = s.line ∧ (s.offerForward f).sequence = s.sequence ∧
    (s.offerForward f).site = s.site ∧ (s.offerForward f).limits = s.limits ∧
    (s.offerForward f).detectors = s.detectors ∧ (s.offerForward f).stations = s.stations ∧
    (s.offerForward f).lastSources = s.lastSources ∧
    (s.offerForward f).plans = s.plans ∧ (s.offerForward f).jobs = s.jobs ∧ (s.offerForward f).rcu = s.rcu ∧
    (s.offerForward f).ramps = s.ramps := by
  simp only [State.offerForward]; split <;> simp

@[simp] theorem State.offerUrgent_keeps (s : State) (f : Frame) :
    (s.offerUrgent f).pending = s.pending ∧ (s.offerUrgent f).handed = s.handed ∧
    (s.offerUrgent f).freeCount = s.freeCount ∧ (s.offerUrgent f).ownAddress = s.ownAddress ∧
    (s.offerUrgent f).linkUp = s.linkUp ∧ (s.offerUrgent f).awaitingGap = s.awaitingGap ∧
    (s.offerUrgent f).txHold = s.txHold ∧ (s.offerUrgent f).forward = s.forward ∧
    (s.offerUrgent f).normal = s.normal ∧ (s.offerUrgent f).forwardDropped = s.forwardDropped ∧
    (s.offerUrgent f).normalDropped = s.normalDropped ∧ (s.offerUrgent f).waitCount = s.waitCount ∧
    (s.offerUrgent f).line = s.line ∧ (s.offerUrgent f).sequence = s.sequence ∧
    (s.offerUrgent f).site = s.site ∧ (s.offerUrgent f).limits = s.limits ∧
    (s.offerUrgent f).detectors = s.detectors ∧ (s.offerUrgent f).stations = s.stations ∧
    (s.offerUrgent f).lastSources = s.lastSources ∧
    (s.offerUrgent f).plans = s.plans ∧ (s.offerUrgent f).jobs = s.jobs ∧ (s.offerUrgent f).rcu = s.rcu ∧
    (s.offerUrgent f).ramps = s.ramps := by
  simp only [State.offerUrgent]; split <;> simp

@[simp] theorem State.offerNormal_keeps (s : State) (o : Outgoing) :
    (s.offerNormal o).pending = s.pending ∧ (s.offerNormal o).handed = s.handed ∧
    (s.offerNormal o).freeCount = s.freeCount ∧ (s.offerNormal o).ownAddress = s.ownAddress ∧
    (s.offerNormal o).linkUp = s.linkUp ∧ (s.offerNormal o).awaitingGap = s.awaitingGap ∧
    (s.offerNormal o).txHold = s.txHold ∧ (s.offerNormal o).forward = s.forward ∧
    (s.offerNormal o).urgent = s.urgent ∧ (s.offerNormal o).forwardDropped = s.forwardDropped ∧
    (s.offerNormal o).urgentDropped = s.urgentDropped ∧ (s.offerNormal o).waitCount = s.waitCount ∧
    (s.offerNormal o).line = s.line ∧ (s.offerNormal o).sequence = s.sequence ∧
    (s.offerNormal o).site = s.site ∧ (s.offerNormal o).limits = s.limits ∧
    (s.offerNormal o).detectors = s.detectors ∧ (s.offerNormal o).stations = s.stations ∧
    (s.offerNormal o).lastSources = s.lastSources ∧
    (s.offerNormal o).plans = s.plans ∧ (s.offerNormal o).jobs = s.jobs ∧ (s.offerNormal o).rcu = s.rcu ∧
    (s.offerNormal o).ramps = s.ramps := by
  simp only [State.offerNormal]; split <;> simp

@[simp] theorem State.offerSequenced_keeps (s : State) (n : Nat) (p : List Byte) :
    (s.offerSequenced n p).pending = s.pending ∧ (s.offerSequenced n p).handed = s.handed ∧
    (s.offerSequenced n p).freeCount = s.freeCount ∧ (s.offerSequenced n p).ownAddress = s.ownAddress ∧
    (s.offerSequenced n p).linkUp = s.linkUp ∧ (s.offerSequenced n p).awaitingGap = s.awaitingGap ∧
    (s.offerSequenced n p).txHold = s.txHold ∧ (s.offerSequenced n p).forward = s.forward ∧
    (s.offerSequenced n p).urgent = s.urgent ∧ (s.offerSequenced n p).forwardDropped = s.forwardDropped ∧
    (s.offerSequenced n p).urgentDropped = s.urgentDropped ∧ (s.offerSequenced n p).waitCount = s.waitCount ∧
    (s.offerSequenced n p).line = s.line ∧ (s.offerSequenced n p).site = s.site ∧
    (s.offerSequenced n p).limits = s.limits ∧ (s.offerSequenced n p).detectors = s.detectors ∧
    (s.offerSequenced n p).stations = s.stations ∧
    (s.offerSequenced n p).lastSources = s.lastSources ∧ (s.offerSequenced n p).plans = s.plans ∧
    (s.offerSequenced n p).jobs = s.jobs ∧ (s.offerSequenced n p).rcu = s.rcu ∧
    (s.offerSequenced n p).ramps = s.ramps := by
  simp [State.offerSequenced]

@[simp] theorem State.offerNotice_keeps (s : State) (p : List Byte) :
    (s.offerNotice p).pending = s.pending ∧ (s.offerNotice p).handed = s.handed ∧
    (s.offerNotice p).freeCount = s.freeCount ∧ (s.offerNotice p).ownAddress = s.ownAddress ∧
    (s.offerNotice p).linkUp = s.linkUp ∧ (s.offerNotice p).awaitingGap = s.awaitingGap ∧
    (s.offerNotice p).txHold = s.txHold ∧ (s.offerNotice p).forward = s.forward ∧
    (s.offerNotice p).urgent = s.urgent ∧ (s.offerNotice p).forwardDropped = s.forwardDropped ∧
    (s.offerNotice p).urgentDropped = s.urgentDropped ∧ (s.offerNotice p).waitCount = s.waitCount ∧
    (s.offerNotice p).line = s.line ∧ (s.offerNotice p).site = s.site ∧ (s.offerNotice p).limits = s.limits ∧
    (s.offerNotice p).detectors = s.detectors ∧ (s.offerNotice p).stations = s.stations ∧
    (s.offerNotice p).lastSources = s.lastSources ∧
    (s.offerNotice p).plans = s.plans ∧ (s.offerNotice p).jobs = s.jobs ∧ (s.offerNotice p).rcu = s.rcu ∧
    (s.offerNotice p).ramps = s.ramps := by
  simp [State.offerNotice]

@[simp] theorem State.offerHealth_keeps (s : State) (i : Nat) (k : Fin 4) (a b : Health) (c : HealthCause) (y : Symptoms) :
    (s.offerHealth i k a b c y).pending = s.pending ∧ (s.offerHealth i k a b c y).handed = s.handed ∧
    (s.offerHealth i k a b c y).freeCount = s.freeCount ∧
    (s.offerHealth i k a b c y).ownAddress = s.ownAddress ∧ (s.offerHealth i k a b c y).linkUp = s.linkUp ∧
    (s.offerHealth i k a b c y).awaitingGap = s.awaitingGap ∧ (s.offerHealth i k a b c y).txHold = s.txHold ∧
    (s.offerHealth i k a b c y).forward = s.forward ∧ (s.offerHealth i k a b c y).urgent = s.urgent ∧
    (s.offerHealth i k a b c y).forwardDropped = s.forwardDropped ∧
    (s.offerHealth i k a b c y).urgentDropped = s.urgentDropped ∧
    (s.offerHealth i k a b c y).waitCount = s.waitCount ∧ (s.offerHealth i k a b c y).line = s.line ∧
    (s.offerHealth i k a b c y).site = s.site ∧ (s.offerHealth i k a b c y).limits = s.limits ∧
    (s.offerHealth i k a b c y).detectors = s.detectors ∧ (s.offerHealth i k a b c y).stations = s.stations ∧
    (s.offerHealth i k a b c y).lastSources = s.lastSources ∧
    (s.offerHealth i k a b c y).plans = s.plans ∧ (s.offerHealth i k a b c y).jobs = s.jobs ∧
    (s.offerHealth i k a b c y).rcu = s.rcu ∧ (s.offerHealth i k a b c y).ramps = s.ramps := by
  simp [State.offerHealth]

@[simp] theorem State.offerFault_keeps (s : State) (k : Fin 4) (c : FaultCause) (a b : Flags) (n : Nat) :
    (s.offerFault k c a b n).pending = s.pending ∧ (s.offerFault k c a b n).handed = s.handed ∧
    (s.offerFault k c a b n).freeCount = s.freeCount ∧ (s.offerFault k c a b n).ownAddress = s.ownAddress ∧
    (s.offerFault k c a b n).linkUp = s.linkUp ∧ (s.offerFault k c a b n).awaitingGap = s.awaitingGap ∧
    (s.offerFault k c a b n).txHold = s.txHold ∧ (s.offerFault k c a b n).forward = s.forward ∧
    (s.offerFault k c a b n).urgent = s.urgent ∧ (s.offerFault k c a b n).forwardDropped = s.forwardDropped ∧
    (s.offerFault k c a b n).urgentDropped = s.urgentDropped ∧
    (s.offerFault k c a b n).waitCount = s.waitCount ∧ (s.offerFault k c a b n).line = s.line ∧
    (s.offerFault k c a b n).site = s.site ∧ (s.offerFault k c a b n).limits = s.limits ∧
    (s.offerFault k c a b n).detectors = s.detectors ∧ (s.offerFault k c a b n).stations = s.stations ∧
    (s.offerFault k c a b n).lastSources = s.lastSources ∧
    (s.offerFault k c a b n).plans = s.plans ∧ (s.offerFault k c a b n).jobs = s.jobs ∧
    (s.offerFault k c a b n).rcu = s.rcu ∧ (s.offerFault k c a b n).ramps = s.ramps := by
  simp [State.offerFault]

@[simp] theorem State.offerRamp_keeps (s : State) (k : Fin 4) (b : RampState) (c : RampCause) :
    (s.offerRamp k b c).pending = s.pending ∧ (s.offerRamp k b c).handed = s.handed ∧
    (s.offerRamp k b c).freeCount = s.freeCount ∧ (s.offerRamp k b c).ownAddress = s.ownAddress ∧
    (s.offerRamp k b c).linkUp = s.linkUp ∧ (s.offerRamp k b c).awaitingGap = s.awaitingGap ∧
    (s.offerRamp k b c).txHold = s.txHold ∧ (s.offerRamp k b c).forward = s.forward ∧
    (s.offerRamp k b c).urgent = s.urgent ∧ (s.offerRamp k b c).forwardDropped = s.forwardDropped ∧
    (s.offerRamp k b c).urgentDropped = s.urgentDropped ∧ (s.offerRamp k b c).waitCount = s.waitCount ∧
    (s.offerRamp k b c).line = s.line ∧ (s.offerRamp k b c).site = s.site ∧
    (s.offerRamp k b c).limits = s.limits ∧ (s.offerRamp k b c).detectors = s.detectors ∧
    (s.offerRamp k b c).stations = s.stations ∧
    (s.offerRamp k b c).lastSources = s.lastSources ∧ (s.offerRamp k b c).plans = s.plans ∧
    (s.offerRamp k b c).jobs = s.jobs ∧ (s.offerRamp k b c).rcu = s.rcu ∧ (s.offerRamp k b c).ramps = s.ramps := by
  simp [State.offerRamp]

@[simp] theorem State.reply_keeps (s : State) (q : Request) (n : Nat) (x : Result) (b : List Byte) :
    (s.reply q n x b).pending = s.pending ∧ (s.reply q n x b).handed = s.handed ∧
    (s.reply q n x b).freeCount = s.freeCount ∧ (s.reply q n x b).ownAddress = s.ownAddress ∧
    (s.reply q n x b).linkUp = s.linkUp ∧ (s.reply q n x b).awaitingGap = s.awaitingGap ∧
    (s.reply q n x b).txHold = s.txHold ∧ (s.reply q n x b).forward = s.forward ∧
    (s.reply q n x b).urgent = s.urgent ∧ (s.reply q n x b).forwardDropped = s.forwardDropped ∧
    (s.reply q n x b).urgentDropped = s.urgentDropped ∧ (s.reply q n x b).waitCount = s.waitCount ∧
    (s.reply q n x b).line = s.line ∧ (s.reply q n x b).sequence = s.sequence ∧
    (s.reply q n x b).site = s.site ∧ (s.reply q n x b).limits = s.limits ∧
    (s.reply q n x b).detectors = s.detectors ∧ (s.reply q n x b).stations = s.stations ∧
    (s.reply q n x b).lastSources = s.lastSources ∧
    (s.reply q n x b).plans = s.plans ∧ (s.reply q n x b).jobs = s.jobs ∧ (s.reply q n x b).rcu = s.rcu ∧
    (s.reply q n x b).ramps = s.ramps := by
  simp [State.reply]

@[simp] theorem State.badValue_keeps (s : State) (q : Request) (n i : Nat) :
    (s.badValue q n i).pending = s.pending ∧ (s.badValue q n i).handed = s.handed ∧
    (s.badValue q n i).freeCount = s.freeCount ∧ (s.badValue q n i).ownAddress = s.ownAddress ∧
    (s.badValue q n i).linkUp = s.linkUp ∧ (s.badValue q n i).awaitingGap = s.awaitingGap ∧
    (s.badValue q n i).txHold = s.txHold ∧ (s.badValue q n i).forward = s.forward ∧
    (s.badValue q n i).urgent = s.urgent ∧ (s.badValue q n i).forwardDropped = s.forwardDropped ∧
    (s.badValue q n i).urgentDropped = s.urgentDropped ∧ (s.badValue q n i).waitCount = s.waitCount ∧
    (s.badValue q n i).line = s.line ∧ (s.badValue q n i).sequence = s.sequence ∧
    (s.badValue q n i).site = s.site ∧ (s.badValue q n i).limits = s.limits ∧
    (s.badValue q n i).detectors = s.detectors ∧ (s.badValue q n i).stations = s.stations ∧
    (s.badValue q n i).lastSources = s.lastSources ∧
    (s.badValue q n i).plans = s.plans ∧ (s.badValue q n i).jobs = s.jobs ∧ (s.badValue q n i).rcu = s.rcu ∧
    (s.badValue q n i).ramps = s.ramps := by
  simp [State.badValue]

@[simp] theorem State.badValueUnstated_keeps (s : State) (q : Request) (n : Nat) :
    (s.badValueUnstated q n).pending = s.pending ∧ (s.badValueUnstated q n).handed = s.handed ∧
    (s.badValueUnstated q n).ownAddress = s.ownAddress ∧ (s.badValueUnstated q n).linkUp = s.linkUp ∧
    (s.badValueUnstated q n).awaitingGap = s.awaitingGap ∧ (s.badValueUnstated q n).txHold = s.txHold ∧
    (s.badValueUnstated q n).forward = s.forward ∧ (s.badValueUnstated q n).urgent = s.urgent ∧
    (s.badValueUnstated q n).forwardDropped = s.forwardDropped ∧
    (s.badValueUnstated q n).urgentDropped = s.urgentDropped ∧
    (s.badValueUnstated q n).waitCount = s.waitCount ∧ (s.badValueUnstated q n).line = s.line ∧
    (s.badValueUnstated q n).sequence = s.sequence ∧ (s.badValueUnstated q n).site = s.site ∧
    (s.badValueUnstated q n).limits = s.limits ∧ (s.badValueUnstated q n).detectors = s.detectors ∧
    (s.badValueUnstated q n).stations = s.stations ∧
    (s.badValueUnstated q n).lastSources = s.lastSources ∧ (s.badValueUnstated q n).plans = s.plans ∧
    (s.badValueUnstated q n).jobs = s.jobs ∧ (s.badValueUnstated q n).rcu = s.rcu ∧
    (s.badValueUnstated q n).ramps = s.ramps := by
  simp [State.badValueUnstated]

@[simp] theorem State.took_keeps (s : State) (c : Instr) :
    (s.took c).pending = s.pending ∧ (s.took c).freeCount = s.freeCount ∧
    (s.took c).ownAddress = s.ownAddress ∧ (s.took c).linkUp = s.linkUp ∧
    (s.took c).awaitingGap = s.awaitingGap ∧ (s.took c).txHold = s.txHold ∧ (s.took c).forward = s.forward ∧
    (s.took c).urgent = s.urgent ∧ (s.took c).normal = s.normal ∧
    (s.took c).forwardDropped = s.forwardDropped ∧ (s.took c).urgentDropped = s.urgentDropped ∧
    (s.took c).normalDropped = s.normalDropped ∧ (s.took c).waitCount = s.waitCount ∧
    (s.took c).line = s.line ∧ (s.took c).sequence = s.sequence ∧ (s.took c).site = s.site ∧
    (s.took c).limits = s.limits ∧ (s.took c).detectors = s.detectors ∧ (s.took c).stations = s.stations ∧
    (s.took c).lastSources = s.lastSources ∧
    (s.took c).plans = s.plans ∧ (s.took c).jobs = s.jobs ∧ (s.took c).rcu = s.rcu ∧ (s.took c).ramps = s.ramps := by
  simp only [State.took]; split <;> simp

@[simp] theorem State.rampChanged_keeps (s : State) (k : Fin 4) (b : RampState) (c : RampCause) :
    (s.rampChanged k b c).pending = s.pending ∧ (s.rampChanged k b c).handed = s.handed ∧
    (s.rampChanged k b c).freeCount = s.freeCount ∧ (s.rampChanged k b c).ownAddress = s.ownAddress ∧
    (s.rampChanged k b c).linkUp = s.linkUp ∧ (s.rampChanged k b c).awaitingGap = s.awaitingGap ∧
    (s.rampChanged k b c).txHold = s.txHold ∧ (s.rampChanged k b c).forward = s.forward ∧
    (s.rampChanged k b c).urgent = s.urgent ∧ (s.rampChanged k b c).forwardDropped = s.forwardDropped ∧
    (s.rampChanged k b c).urgentDropped = s.urgentDropped ∧ (s.rampChanged k b c).waitCount = s.waitCount ∧
    (s.rampChanged k b c).line = s.line ∧ (s.rampChanged k b c).site = s.site ∧
    (s.rampChanged k b c).limits = s.limits ∧ (s.rampChanged k b c).detectors = s.detectors ∧
    (s.rampChanged k b c).stations = s.stations ∧
    (s.rampChanged k b c).lastSources = s.lastSources ∧ (s.rampChanged k b c).plans = s.plans ∧
    (s.rampChanged k b c).jobs = s.jobs ∧ (s.rampChanged k b c).rcu = s.rcu ∧
    (s.rampChanged k b c).ramps = s.ramps := by
  simp only [State.rampChanged]; split <;> simp

@[simp] theorem State.withPlan_keeps (s : State) (k : Fin 4) (f : Plan → Ramp → Ramp) :
    (s.withPlan k f).pending = s.pending ∧ (s.withPlan k f).handed = s.handed ∧
    (s.withPlan k f).freeCount = s.freeCount ∧ (s.withPlan k f).ownAddress = s.ownAddress ∧
    (s.withPlan k f).linkUp = s.linkUp ∧ (s.withPlan k f).awaitingGap = s.awaitingGap ∧
    (s.withPlan k f).txHold = s.txHold ∧ (s.withPlan k f).forward = s.forward ∧
    (s.withPlan k f).urgent = s.urgent ∧ (s.withPlan k f).normal = s.normal ∧
    (s.withPlan k f).forwardDropped = s.forwardDropped ∧ (s.withPlan k f).urgentDropped = s.urgentDropped ∧
    (s.withPlan k f).normalDropped = s.normalDropped ∧ (s.withPlan k f).waitCount = s.waitCount ∧
    (s.withPlan k f).line = s.line ∧ (s.withPlan k f).sequence = s.sequence ∧ (s.withPlan k f).site = s.site ∧
    (s.withPlan k f).limits = s.limits ∧ (s.withPlan k f).detectors = s.detectors ∧
    (s.withPlan k f).stations = s.stations ∧
    (s.withPlan k f).lastSources = s.lastSources ∧ (s.withPlan k f).plans = s.plans ∧
    (s.withPlan k f).jobs = s.jobs ∧ (s.withPlan k f).rcu = s.rcu := by
  simp only [State.withPlan]; split <;> simp

@[simp] theorem State.rerunPick_keeps (s : State) (k : Fin 4) :
    (s.rerunPick k).pending = s.pending ∧ (s.rerunPick k).handed = s.handed ∧
    (s.rerunPick k).freeCount = s.freeCount ∧ (s.rerunPick k).ownAddress = s.ownAddress ∧
    (s.rerunPick k).linkUp = s.linkUp ∧ (s.rerunPick k).awaitingGap = s.awaitingGap ∧
    (s.rerunPick k).txHold = s.txHold ∧ (s.rerunPick k).forward = s.forward ∧
    (s.rerunPick k).urgent = s.urgent ∧ (s.rerunPick k).normal = s.normal ∧
    (s.rerunPick k).forwardDropped = s.forwardDropped ∧ (s.rerunPick k).urgentDropped = s.urgentDropped ∧
    (s.rerunPick k).normalDropped = s.normalDropped ∧ (s.rerunPick k).waitCount = s.waitCount ∧
    (s.rerunPick k).line = s.line ∧ (s.rerunPick k).sequence = s.sequence ∧ (s.rerunPick k).site = s.site ∧
    (s.rerunPick k).limits = s.limits ∧ (s.rerunPick k).detectors = s.detectors ∧
    (s.rerunPick k).stations = s.stations ∧
    (s.rerunPick k).lastSources = s.lastSources ∧ (s.rerunPick k).plans = s.plans ∧ (s.rerunPick k).jobs = s.jobs ∧
    (s.rerunPick k).rcu = s.rcu := by
  simp [State.rerunPick]

@[simp] theorem State.comeDue_keeps (s : State) (k : Fin 4) :
    (s.comeDue k).pending = s.pending ∧ (s.comeDue k).handed = s.handed ∧
    (s.comeDue k).freeCount = s.freeCount ∧ (s.comeDue k).ownAddress = s.ownAddress ∧
    (s.comeDue k).linkUp = s.linkUp ∧ (s.comeDue k).awaitingGap = s.awaitingGap ∧
    (s.comeDue k).txHold = s.txHold ∧ (s.comeDue k).forward = s.forward ∧ (s.comeDue k).urgent = s.urgent ∧
    (s.comeDue k).forwardDropped = s.forwardDropped ∧ (s.comeDue k).urgentDropped = s.urgentDropped ∧
    (s.comeDue k).waitCount = s.waitCount ∧ (s.comeDue k).line = s.line ∧ (s.comeDue k).site = s.site ∧
    (s.comeDue k).limits = s.limits ∧ (s.comeDue k).detectors = s.detectors ∧
    (s.comeDue k).stations = s.stations ∧
    (s.comeDue k).lastSources = s.lastSources ∧ (s.comeDue k).plans = s.plans ∧ (s.comeDue k).jobs = s.jobs ∧
    (s.comeDue k).rcu = s.rcu := by
  simp [State.comeDue]

@[simp] theorem State.beginMetering_keeps (s : State) (k : Fin 4) :
    (s.beginMetering k).pending = s.pending ∧ (s.beginMetering k).handed = s.handed ∧
    (s.beginMetering k).freeCount = s.freeCount ∧ (s.beginMetering k).ownAddress = s.ownAddress ∧
    (s.beginMetering k).linkUp = s.linkUp ∧ (s.beginMetering k).awaitingGap = s.awaitingGap ∧
    (s.beginMetering k).txHold = s.txHold ∧ (s.beginMetering k).forward = s.forward ∧
    (s.beginMetering k).urgent = s.urgent ∧ (s.beginMetering k).forwardDropped = s.forwardDropped ∧
    (s.beginMetering k).urgentDropped = s.urgentDropped ∧ (s.beginMetering k).waitCount = s.waitCount ∧
    (s.beginMetering k).line = s.line ∧ (s.beginMetering k).site = s.site ∧
    (s.beginMetering k).limits = s.limits ∧ (s.beginMetering k).detectors = s.detectors ∧
    (s.beginMetering k).stations = s.stations ∧
    (s.beginMetering k).lastSources = s.lastSources ∧ (s.beginMetering k).plans = s.plans ∧
    (s.beginMetering k).jobs = s.jobs ∧ (s.beginMetering k).rcu = s.rcu := by
  simp only [State.beginMetering]; split <;> simp

@[simp] theorem State.enterDark_keeps (s : State) (k : Fin 4) :
    (s.enterDark k).pending = s.pending ∧ (s.enterDark k).handed = s.handed ∧
    (s.enterDark k).freeCount = s.freeCount ∧ (s.enterDark k).ownAddress = s.ownAddress ∧
    (s.enterDark k).linkUp = s.linkUp ∧ (s.enterDark k).awaitingGap = s.awaitingGap ∧
    (s.enterDark k).txHold = s.txHold ∧ (s.enterDark k).forward = s.forward ∧
    (s.enterDark k).urgent = s.urgent ∧ (s.enterDark k).normal = s.normal ∧
    (s.enterDark k).forwardDropped = s.forwardDropped ∧ (s.enterDark k).urgentDropped = s.urgentDropped ∧
    (s.enterDark k).normalDropped = s.normalDropped ∧ (s.enterDark k).waitCount = s.waitCount ∧
    (s.enterDark k).line = s.line ∧ (s.enterDark k).sequence = s.sequence ∧ (s.enterDark k).site = s.site ∧
    (s.enterDark k).limits = s.limits ∧ (s.enterDark k).stations = s.stations ∧
    (s.enterDark k).lastSources = s.lastSources ∧
    (s.enterDark k).plans = s.plans ∧ (s.enterDark k).jobs = s.jobs ∧ (s.enterDark k).rcu = s.rcu := by
  simp [State.enterDark]

@[simp] theorem State.noLaneTest_keeps (s : State) (k : Fin 4) :
    (s.noLaneTest k).pending = s.pending ∧ (s.noLaneTest k).handed = s.handed ∧
    (s.noLaneTest k).freeCount = s.freeCount ∧ (s.noLaneTest k).ownAddress = s.ownAddress ∧
    (s.noLaneTest k).linkUp = s.linkUp ∧ (s.noLaneTest k).awaitingGap = s.awaitingGap ∧
    (s.noLaneTest k).txHold = s.txHold ∧ (s.noLaneTest k).forward = s.forward ∧
    (s.noLaneTest k).urgent = s.urgent ∧ (s.noLaneTest k).normal = s.normal ∧
    (s.noLaneTest k).forwardDropped = s.forwardDropped ∧ (s.noLaneTest k).urgentDropped = s.urgentDropped ∧
    (s.noLaneTest k).normalDropped = s.normalDropped ∧ (s.noLaneTest k).waitCount = s.waitCount ∧
    (s.noLaneTest k).line = s.line ∧ (s.noLaneTest k).sequence = s.sequence ∧ (s.noLaneTest k).site = s.site ∧
    (s.noLaneTest k).limits = s.limits ∧ (s.noLaneTest k).stations = s.stations ∧
    (s.noLaneTest k).lastSources = s.lastSources ∧
    (s.noLaneTest k).plans = s.plans ∧ (s.noLaneTest k).jobs = s.jobs ∧ (s.noLaneTest k).rcu = s.rcu := by
  simp only [State.noLaneTest]; split <;> simp

@[simp] theorem State.noLane_keeps (s : State) (k : Fin 4) :
    (s.noLane k).pending = s.pending ∧ (s.noLane k).handed = s.handed ∧ (s.noLane k).freeCount = s.freeCount ∧
    (s.noLane k).ownAddress = s.ownAddress ∧ (s.noLane k).linkUp = s.linkUp ∧
    (s.noLane k).awaitingGap = s.awaitingGap ∧ (s.noLane k).txHold = s.txHold ∧
    (s.noLane k).forward = s.forward ∧ (s.noLane k).urgent = s.urgent ∧
    (s.noLane k).forwardDropped = s.forwardDropped ∧ (s.noLane k).urgentDropped = s.urgentDropped ∧
    (s.noLane k).waitCount = s.waitCount ∧ (s.noLane k).line = s.line ∧ (s.noLane k).site = s.site ∧
    (s.noLane k).limits = s.limits ∧ (s.noLane k).stations = s.stations ∧
    (s.noLane k).lastSources = s.lastSources ∧ (s.noLane k).plans = s.plans ∧
    (s.noLane k).jobs = s.jobs ∧ (s.noLane k).rcu = s.rcu := by
  simp [State.noLane]

@[simp] theorem State.landed_keeps (k : Fin 4) (s0 s : State) :
    (State.landed k s0 s).pending = s.pending ∧ (State.landed k s0 s).handed = s.handed ∧
    (State.landed k s0 s).freeCount = s.freeCount ∧ (State.landed k s0 s).ownAddress = s.ownAddress ∧
    (State.landed k s0 s).linkUp = s.linkUp ∧ (State.landed k s0 s).awaitingGap = s.awaitingGap ∧
    (State.landed k s0 s).txHold = s.txHold ∧ (State.landed k s0 s).forward = s.forward ∧
    (State.landed k s0 s).urgent = s.urgent ∧ (State.landed k s0 s).forwardDropped = s.forwardDropped ∧
    (State.landed k s0 s).urgentDropped = s.urgentDropped ∧ (State.landed k s0 s).waitCount = s.waitCount ∧
    (State.landed k s0 s).line = s.line ∧ (State.landed k s0 s).site = s.site ∧
    (State.landed k s0 s).limits = s.limits ∧ (State.landed k s0 s).stations = s.stations ∧
    (State.landed k s0 s).lastSources = s.lastSources ∧
    (State.landed k s0 s).plans = s.plans ∧ (State.landed k s0 s).jobs = s.jobs ∧
    (State.landed k s0 s).rcu = s.rcu := by
  simp only [State.landed]; split <;> simp

@[simp] theorem State.holdSet_keeps (s : State) (k : Fin 4) :
    (s.holdSet k).pending = s.pending ∧ (s.holdSet k).handed = s.handed ∧
    (s.holdSet k).freeCount = s.freeCount ∧ (s.holdSet k).ownAddress = s.ownAddress ∧
    (s.holdSet k).linkUp = s.linkUp ∧ (s.holdSet k).awaitingGap = s.awaitingGap ∧
    (s.holdSet k).txHold = s.txHold ∧ (s.holdSet k).forward = s.forward ∧ (s.holdSet k).urgent = s.urgent ∧
    (s.holdSet k).forwardDropped = s.forwardDropped ∧ (s.holdSet k).urgentDropped = s.urgentDropped ∧
    (s.holdSet k).waitCount = s.waitCount ∧ (s.holdSet k).line = s.line ∧ (s.holdSet k).site = s.site ∧
    (s.holdSet k).limits = s.limits ∧ (s.holdSet k).stations = s.stations ∧
    (s.holdSet k).lastSources = s.lastSources ∧ (s.holdSet k).plans = s.plans ∧
    (s.holdSet k).jobs = s.jobs ∧ (s.holdSet k).rcu = s.rcu := by
  simp [State.holdSet]

@[simp] theorem State.holdEnded_keeps (s : State) (k : Fin 4) :
    (s.holdEnded k).pending = s.pending ∧ (s.holdEnded k).handed = s.handed ∧
    (s.holdEnded k).freeCount = s.freeCount ∧ (s.holdEnded k).ownAddress = s.ownAddress ∧
    (s.holdEnded k).linkUp = s.linkUp ∧ (s.holdEnded k).awaitingGap = s.awaitingGap ∧
    (s.holdEnded k).txHold = s.txHold ∧ (s.holdEnded k).forward = s.forward ∧
    (s.holdEnded k).urgent = s.urgent ∧ (s.holdEnded k).forwardDropped = s.forwardDropped ∧
    (s.holdEnded k).urgentDropped = s.urgentDropped ∧ (s.holdEnded k).waitCount = s.waitCount ∧
    (s.holdEnded k).line = s.line ∧ (s.holdEnded k).site = s.site ∧ (s.holdEnded k).limits = s.limits ∧
    (s.holdEnded k).detectors = s.detectors ∧ (s.holdEnded k).stations = s.stations ∧
    (s.holdEnded k).lastSources = s.lastSources ∧
    (s.holdEnded k).plans = s.plans ∧ (s.holdEnded k).jobs = s.jobs ∧ (s.holdEnded k).rcu = s.rcu := by
  simp only [State.holdEnded]; split
  · simp
  · split <;> (try split) <;> simp

@[simp] theorem State.offerHead_keeps (s : State) (k : Fin 4) (l : Fin 3) :
    (s.offerHead k l).pending = s.pending ∧ (s.offerHead k l).handed = s.handed ∧
    (s.offerHead k l).freeCount = s.freeCount ∧ (s.offerHead k l).ownAddress = s.ownAddress ∧
    (s.offerHead k l).linkUp = s.linkUp ∧ (s.offerHead k l).awaitingGap = s.awaitingGap ∧
    (s.offerHead k l).txHold = s.txHold ∧ (s.offerHead k l).forward = s.forward ∧
    (s.offerHead k l).normal = s.normal ∧ (s.offerHead k l).forwardDropped = s.forwardDropped ∧
    (s.offerHead k l).normalDropped = s.normalDropped ∧ (s.offerHead k l).waitCount = s.waitCount ∧
    (s.offerHead k l).line = s.line ∧ (s.offerHead k l).sequence = s.sequence ∧
    (s.offerHead k l).site = s.site ∧ (s.offerHead k l).limits = s.limits ∧
    (s.offerHead k l).detectors = s.detectors ∧ (s.offerHead k l).stations = s.stations ∧
    (s.offerHead k l).lastSources = s.lastSources ∧
    (s.offerHead k l).plans = s.plans ∧ (s.offerHead k l).jobs = s.jobs ∧ (s.offerHead k l).rcu = s.rcu := by
  simp only [State.offerHead]; split
  · split <;> simp
  · simp

@[simp] theorem State.settleHeads_keeps (s0 s : State) (fresh : List (Fin 4 × Fin 3)) :
    (State.settleHeads s0 fresh s).pending = s.pending ∧ (State.settleHeads s0 fresh s).handed = s.handed ∧
    (State.settleHeads s0 fresh s).freeCount = s.freeCount ∧
    (State.settleHeads s0 fresh s).ownAddress = s.ownAddress ∧
    (State.settleHeads s0 fresh s).linkUp = s.linkUp ∧
    (State.settleHeads s0 fresh s).awaitingGap = s.awaitingGap ∧
    (State.settleHeads s0 fresh s).txHold = s.txHold ∧ (State.settleHeads s0 fresh s).forward = s.forward ∧
    (State.settleHeads s0 fresh s).normal = s.normal ∧
    (State.settleHeads s0 fresh s).forwardDropped = s.forwardDropped ∧
    (State.settleHeads s0 fresh s).normalDropped = s.normalDropped ∧
    (State.settleHeads s0 fresh s).waitCount = s.waitCount ∧ (State.settleHeads s0 fresh s).line = s.line ∧
    (State.settleHeads s0 fresh s).sequence = s.sequence ∧ (State.settleHeads s0 fresh s).site = s.site ∧
    (State.settleHeads s0 fresh s).limits = s.limits ∧ (State.settleHeads s0 fresh s).detectors = s.detectors ∧
    (State.settleHeads s0 fresh s).stations = s.stations ∧
    (State.settleHeads s0 fresh s).lastSources = s.lastSources ∧ (State.settleHeads s0 fresh s).plans = s.plans ∧
    (State.settleHeads s0 fresh s).jobs = s.jobs ∧ (State.settleHeads s0 fresh s).rcu = s.rcu := by
  simp only [State.settleHeads]
  refine ⟨?_, ?_, ?_, ?_, ?_, ?_, ?_, ?_, ?_, ?_, ?_, ?_, ?_, ?_, ?_, ?_, ?_, ?_, ?_, ?_, ?_, ?_⟩ <;>
    (refine foldl_keeps _ _ (fun s x => ?_) _ _; split <;> simp)

@[simp] theorem State.offerHeadNotice_keeps (s : State) (k : Fin 4) (l : Fin 3) (n : Nat) (a : Option Aspect) :
    (s.offerHeadNotice k l n a).pending = s.pending ∧ (s.offerHeadNotice k l n a).handed = s.handed ∧
    (s.offerHeadNotice k l n a).freeCount = s.freeCount ∧
    (s.offerHeadNotice k l n a).ownAddress = s.ownAddress ∧ (s.offerHeadNotice k l n a).linkUp = s.linkUp ∧
    (s.offerHeadNotice k l n a).awaitingGap = s.awaitingGap ∧ (s.offerHeadNotice k l n a).txHold = s.txHold ∧
    (s.offerHeadNotice k l n a).forward = s.forward ∧ (s.offerHeadNotice k l n a).urgent = s.urgent ∧
    (s.offerHeadNotice k l n a).forwardDropped = s.forwardDropped ∧
    (s.offerHeadNotice k l n a).urgentDropped = s.urgentDropped ∧
    (s.offerHeadNotice k l n a).waitCount = s.waitCount ∧ (s.offerHeadNotice k l n a).line = s.line ∧
    (s.offerHeadNotice k l n a).site = s.site ∧ (s.offerHeadNotice k l n a).limits = s.limits ∧
    (s.offerHeadNotice k l n a).detectors = s.detectors ∧ (s.offerHeadNotice k l n a).stations = s.stations ∧
    (s.offerHeadNotice k l n a).lastSources = s.lastSources ∧
    (s.offerHeadNotice k l n a).plans = s.plans ∧ (s.offerHeadNotice k l n a).jobs = s.jobs ∧
    (s.offerHeadNotice k l n a).rcu = s.rcu ∧ (s.offerHeadNotice k l n a).ramps = s.ramps := by
  simp only [State.offerHeadNotice]; split <;> simp

@[simp] theorem State.disableLane_keeps (s : State) (k : Fin 4) (l : Fin 3) (c : DisableCause) :
    (s.disableLane k l c).pending = s.pending ∧ (s.disableLane k l c).handed = s.handed ∧
    (s.disableLane k l c).freeCount = s.freeCount ∧ (s.disableLane k l c).ownAddress = s.ownAddress ∧
    (s.disableLane k l c).linkUp = s.linkUp ∧ (s.disableLane k l c).awaitingGap = s.awaitingGap ∧
    (s.disableLane k l c).txHold = s.txHold ∧ (s.disableLane k l c).forward = s.forward ∧
    (s.disableLane k l c).urgent = s.urgent ∧ (s.disableLane k l c).normal = s.normal ∧
    (s.disableLane k l c).forwardDropped = s.forwardDropped ∧
    (s.disableLane k l c).urgentDropped = s.urgentDropped ∧
    (s.disableLane k l c).normalDropped = s.normalDropped ∧ (s.disableLane k l c).waitCount = s.waitCount ∧
    (s.disableLane k l c).line = s.line ∧ (s.disableLane k l c).sequence = s.sequence ∧
    (s.disableLane k l c).site = s.site ∧ (s.disableLane k l c).limits = s.limits ∧
    (s.disableLane k l c).stations = s.stations ∧
    (s.disableLane k l c).lastSources = s.lastSources ∧ (s.disableLane k l c).plans = s.plans ∧
    (s.disableLane k l c).jobs = s.jobs ∧ (s.disableLane k l c).rcu = s.rcu := by
  simp only [State.disableLane]; split <;> simp

@[simp] theorem State.disableNotices_keeps (s0 s : State) :
    (State.disableNotices s0 s).pending = s.pending ∧ (State.disableNotices s0 s).handed = s.handed ∧
    (State.disableNotices s0 s).freeCount = s.freeCount ∧
    (State.disableNotices s0 s).ownAddress = s.ownAddress ∧ (State.disableNotices s0 s).linkUp = s.linkUp ∧
    (State.disableNotices s0 s).awaitingGap = s.awaitingGap ∧ (State.disableNotices s0 s).txHold = s.txHold ∧
    (State.disableNotices s0 s).forward = s.forward ∧ (State.disableNotices s0 s).urgent = s.urgent ∧
    (State.disableNotices s0 s).forwardDropped = s.forwardDropped ∧
    (State.disableNotices s0 s).urgentDropped = s.urgentDropped ∧
    (State.disableNotices s0 s).waitCount = s.waitCount ∧ (State.disableNotices s0 s).line = s.line ∧
    (State.disableNotices s0 s).site = s.site ∧ (State.disableNotices s0 s).limits = s.limits ∧
    (State.disableNotices s0 s).detectors = s.detectors ∧ (State.disableNotices s0 s).stations = s.stations ∧
    (State.disableNotices s0 s).lastSources = s.lastSources ∧
    (State.disableNotices s0 s).plans = s.plans ∧ (State.disableNotices s0 s).jobs = s.jobs ∧
    (State.disableNotices s0 s).rcu = s.rcu ∧ (State.disableNotices s0 s).ramps = s.ramps := by
  simp only [State.disableNotices]
  refine ⟨?_, ?_, ?_, ?_, ?_, ?_, ?_, ?_, ?_, ?_, ?_, ?_, ?_, ?_, ?_, ?_, ?_, ?_, ?_, ?_, ?_, ?_⟩ <;>
    (refine foldl_keeps _ _ (fun s x => ?_) _ _; split <;> simp)

@[simp] theorem State.rerunFreed_keeps (s0 s : State) :
    (State.rerunFreed s0 s).pending = s.pending ∧ (State.rerunFreed s0 s).handed = s.handed ∧
    (State.rerunFreed s0 s).freeCount = s.freeCount ∧ (State.rerunFreed s0 s).ownAddress = s.ownAddress ∧
    (State.rerunFreed s0 s).linkUp = s.linkUp ∧ (State.rerunFreed s0 s).awaitingGap = s.awaitingGap ∧
    (State.rerunFreed s0 s).txHold = s.txHold ∧ (State.rerunFreed s0 s).forward = s.forward ∧
    (State.rerunFreed s0 s).urgent = s.urgent ∧ (State.rerunFreed s0 s).normal = s.normal ∧
    (State.rerunFreed s0 s).forwardDropped = s.forwardDropped ∧
    (State.rerunFreed s0 s).urgentDropped = s.urgentDropped ∧
    (State.rerunFreed s0 s).normalDropped = s.normalDropped ∧ (State.rerunFreed s0 s).waitCount = s.waitCount ∧
    (State.rerunFreed s0 s).line = s.line ∧ (State.rerunFreed s0 s).sequence = s.sequence ∧
    (State.rerunFreed s0 s).site = s.site ∧ (State.rerunFreed s0 s).limits = s.limits ∧
    (State.rerunFreed s0 s).detectors = s.detectors ∧ (State.rerunFreed s0 s).stations = s.stations ∧
    (State.rerunFreed s0 s).lastSources = s.lastSources ∧
    (State.rerunFreed s0 s).plans = s.plans ∧ (State.rerunFreed s0 s).jobs = s.jobs ∧
    (State.rerunFreed s0 s).rcu = s.rcu := by
  simp only [State.rerunFreed]
  refine ⟨?_, ?_, ?_, ?_, ?_, ?_, ?_, ?_, ?_, ?_, ?_, ?_, ?_, ?_, ?_, ?_, ?_, ?_, ?_, ?_, ?_, ?_, ?_, ?_⟩ <;>
    (refine foldl_keeps _ _ (fun s x => ?_) _ _; split <;> simp)

@[simp] theorem State.darkNotices_keeps (s0 s : State) (red : List (Fin 4)) :
    (State.darkNotices s0 red s).pending = s.pending ∧ (State.darkNotices s0 red s).handed = s.handed ∧
    (State.darkNotices s0 red s).freeCount = s.freeCount ∧
    (State.darkNotices s0 red s).ownAddress = s.ownAddress ∧ (State.darkNotices s0 red s).linkUp = s.linkUp ∧
    (State.darkNotices s0 red s).awaitingGap = s.awaitingGap ∧ (State.darkNotices s0 red s).txHold = s.txHold ∧
    (State.darkNotices s0 red s).forward = s.forward ∧ (State.darkNotices s0 red s).urgent = s.urgent ∧
    (State.darkNotices s0 red s).forwardDropped = s.forwardDropped ∧
    (State.darkNotices s0 red s).urgentDropped = s.urgentDropped ∧
    (State.darkNotices s0 red s).waitCount = s.waitCount ∧ (State.darkNotices s0 red s).line = s.line ∧
    (State.darkNotices s0 red s).site = s.site ∧ (State.darkNotices s0 red s).limits = s.limits ∧
    (State.darkNotices s0 red s).detectors = s.detectors ∧ (State.darkNotices s0 red s).stations = s.stations ∧
    (State.darkNotices s0 red s).lastSources = s.lastSources ∧
    (State.darkNotices s0 red s).plans = s.plans ∧ (State.darkNotices s0 red s).jobs = s.jobs ∧
    (State.darkNotices s0 red s).rcu = s.rcu ∧ (State.darkNotices s0 red s).ramps = s.ramps := by
  simp only [State.darkNotices]
  refine ⟨?_, ?_, ?_, ?_, ?_, ?_, ?_, ?_, ?_, ?_, ?_, ?_, ?_, ?_, ?_, ?_, ?_, ?_, ?_, ?_, ?_, ?_⟩ <;>
    (refine foldl_keeps _ _ (fun s x => ?_) _ _; simp)

@[simp] theorem State.deriveDemand_keeps (s : State) (k : Fin 4) (l : Fin 3) :
    (s.deriveDemand k l).pending = s.pending ∧ (s.deriveDemand k l).handed = s.handed ∧
    (s.deriveDemand k l).freeCount = s.freeCount ∧ (s.deriveDemand k l).ownAddress = s.ownAddress ∧
    (s.deriveDemand k l).linkUp = s.linkUp ∧ (s.deriveDemand k l).awaitingGap = s.awaitingGap ∧
    (s.deriveDemand k l).txHold = s.txHold ∧ (s.deriveDemand k l).forward = s.forward ∧
    (s.deriveDemand k l).urgent = s.urgent ∧ (s.deriveDemand k l).normal = s.normal ∧
    (s.deriveDemand k l).forwardDropped = s.forwardDropped ∧
    (s.deriveDemand k l).urgentDropped = s.urgentDropped ∧
    (s.deriveDemand k l).normalDropped = s.normalDropped ∧ (s.deriveDemand k l).waitCount = s.waitCount ∧
    (s.deriveDemand k l).line = s.line ∧ (s.deriveDemand k l).sequence = s.sequence ∧
    (s.deriveDemand k l).site = s.site ∧ (s.deriveDemand k l).limits = s.limits ∧
    (s.deriveDemand k l).detectors = s.detectors ∧ (s.deriveDemand k l).stations = s.stations ∧
    (s.deriveDemand k l).lastSources = s.lastSources ∧
    (s.deriveDemand k l).plans = s.plans ∧ (s.deriveDemand k l).jobs = s.jobs ∧ (s.deriveDemand k l).rcu = s.rcu := by
  simp only [State.deriveDemand]; split
  · simp
  · split <;> simp

@[simp] theorem State.deriveDemands_keeps (s : State) (k : Fin 4) (touched : Nat → Bool) :
    (s.deriveDemands touched k).pending = s.pending ∧ (s.deriveDemands touched k).handed = s.handed ∧
    (s.deriveDemands touched k).freeCount = s.freeCount ∧
    (s.deriveDemands touched k).ownAddress = s.ownAddress ∧ (s.deriveDemands touched k).linkUp = s.linkUp ∧
    (s.deriveDemands touched k).awaitingGap = s.awaitingGap ∧ (s.deriveDemands touched k).txHold = s.txHold ∧
    (s.deriveDemands touched k).forward = s.forward ∧ (s.deriveDemands touched k).urgent = s.urgent ∧
    (s.deriveDemands touched k).normal = s.normal ∧
    (s.deriveDemands touched k).forwardDropped = s.forwardDropped ∧
    (s.deriveDemands touched k).urgentDropped = s.urgentDropped ∧
    (s.deriveDemands touched k).normalDropped = s.normalDropped ∧
    (s.deriveDemands touched k).waitCount = s.waitCount ∧ (s.deriveDemands touched k).line = s.line ∧
    (s.deriveDemands touched k).sequence = s.sequence ∧ (s.deriveDemands touched k).site = s.site ∧
    (s.deriveDemands touched k).limits = s.limits ∧ (s.deriveDemands touched k).detectors = s.detectors ∧
    (s.deriveDemands touched k).stations = s.stations ∧
    (s.deriveDemands touched k).lastSources = s.lastSources ∧ (s.deriveDemands touched k).plans = s.plans ∧
    (s.deriveDemands touched k).jobs = s.jobs ∧ (s.deriveDemands touched k).rcu = s.rcu := by
  simp only [State.deriveDemands]
  refine ⟨?_, ?_, ?_, ?_, ?_, ?_, ?_, ?_, ?_, ?_, ?_, ?_, ?_, ?_, ?_, ?_, ?_, ?_, ?_, ?_, ?_, ?_, ?_, ?_⟩ <;>
    (refine foldl_keeps _ _ (fun s x => ?_) _ _; split <;> simp)

@[simp] theorem State.deriveAllDemands_keeps (s : State) (k : Fin 4) :
    (s.deriveAllDemands k).pending = s.pending ∧ (s.deriveAllDemands k).handed = s.handed ∧
    (s.deriveAllDemands k).freeCount = s.freeCount ∧ (s.deriveAllDemands k).ownAddress = s.ownAddress ∧
    (s.deriveAllDemands k).linkUp = s.linkUp ∧ (s.deriveAllDemands k).awaitingGap = s.awaitingGap ∧
    (s.deriveAllDemands k).txHold = s.txHold ∧ (s.deriveAllDemands k).forward = s.forward ∧
    (s.deriveAllDemands k).urgent = s.urgent ∧ (s.deriveAllDemands k).normal = s.normal ∧
    (s.deriveAllDemands k).forwardDropped = s.forwardDropped ∧
    (s.deriveAllDemands k).urgentDropped = s.urgentDropped ∧
    (s.deriveAllDemands k).normalDropped = s.normalDropped ∧ (s.deriveAllDemands k).waitCount = s.waitCount ∧
    (s.deriveAllDemands k).line = s.line ∧ (s.deriveAllDemands k).sequence = s.sequence ∧
    (s.deriveAllDemands k).site = s.site ∧ (s.deriveAllDemands k).limits = s.limits ∧
    (s.deriveAllDemands k).detectors = s.detectors ∧ (s.deriveAllDemands k).stations = s.stations ∧
    (s.deriveAllDemands k).lastSources = s.lastSources ∧
    (s.deriveAllDemands k).plans = s.plans ∧ (s.deriveAllDemands k).jobs = s.jobs ∧
    (s.deriveAllDemands k).rcu = s.rcu := by
  simp only [State.deriveAllDemands]
  refine ⟨?_, ?_, ?_, ?_, ?_, ?_, ?_, ?_, ?_, ?_, ?_, ?_, ?_, ?_, ?_, ?_, ?_, ?_, ?_, ?_, ?_, ?_, ?_, ?_⟩ <;>
    (refine foldl_keeps _ _ (fun s x => ?_) _ _; simp)

@[simp] theorem State.deliverPassages_keeps (s : State) (k : Fin 4) (src : Nat) (l : List ScanRecord) :
    (s.deliverPassages src l k).pending = s.pending ∧ (s.deliverPassages src l k).handed = s.handed ∧
    (s.deliverPassages src l k).freeCount = s.freeCount ∧
    (s.deliverPassages src l k).ownAddress = s.ownAddress ∧ (s.deliverPassages src l k).linkUp = s.linkUp ∧
    (s.deliverPassages src l k).awaitingGap = s.awaitingGap ∧ (s.deliverPassages src l k).txHold = s.txHold ∧
    (s.deliverPassages src l k).forward = s.forward ∧ (s.deliverPassages src l k).urgent = s.urgent ∧
    (s.deliverPassages src l k).normal = s.normal ∧
    (s.deliverPassages src l k).forwardDropped = s.forwardDropped ∧
    (s.deliverPassages src l k).urgentDropped = s.urgentDropped ∧
    (s.deliverPassages src l k).normalDropped = s.normalDropped ∧
    (s.deliverPassages src l k).waitCount = s.waitCount ∧ (s.deliverPassages src l k).line = s.line ∧
    (s.deliverPassages src l k).sequence = s.sequence ∧ (s.deliverPassages src l k).site = s.site ∧
    (s.deliverPassages src l k).limits = s.limits ∧ (s.deliverPassages src l k).detectors = s.detectors ∧
    (s.deliverPassages src l k).stations = s.stations ∧
    (s.deliverPassages src l k).lastSources = s.lastSources ∧ (s.deliverPassages src l k).plans = s.plans ∧
    (s.deliverPassages src l k).jobs = s.jobs ∧ (s.deliverPassages src l k).rcu = s.rcu := by
  simp only [State.deliverPassages]; split <;> simp

@[simp] theorem State.evaluateSpill_keeps (s : State) (k : Fin 4) :
    (s.evaluateSpill k).pending = s.pending ∧ (s.evaluateSpill k).handed = s.handed ∧
    (s.evaluateSpill k).freeCount = s.freeCount ∧ (s.evaluateSpill k).ownAddress = s.ownAddress ∧
    (s.evaluateSpill k).linkUp = s.linkUp ∧ (s.evaluateSpill k).awaitingGap = s.awaitingGap ∧
    (s.evaluateSpill k).txHold = s.txHold ∧ (s.evaluateSpill k).forward = s.forward ∧
    (s.evaluateSpill k).urgent = s.urgent ∧ (s.evaluateSpill k).normal = s.normal ∧
    (s.evaluateSpill k).forwardDropped = s.forwardDropped ∧
    (s.evaluateSpill k).urgentDropped = s.urgentDropped ∧ (s.evaluateSpill k).normalDropped = s.normalDropped ∧
    (s.evaluateSpill k).waitCount = s.waitCount ∧ (s.evaluateSpill k).line = s.line ∧
    (s.evaluateSpill k).sequence = s.sequence ∧ (s.evaluateSpill k).site = s.site ∧
    (s.evaluateSpill k).limits = s.limits ∧ (s.evaluateSpill k).detectors = s.detectors ∧
    (s.evaluateSpill k).stations = s.stations ∧
    (s.evaluateSpill k).lastSources = s.lastSources ∧ (s.evaluateSpill k).plans = s.plans ∧
    (s.evaluateSpill k).jobs = s.jobs ∧ (s.evaluateSpill k).rcu = s.rcu := by
  simp only [State.evaluateSpill]; split
  · simp
  · split
    · simp
    · split <;> simp

/-- The triggers of a ramp keep all but the ramp itself. -/
@[simp] theorem State.deriveRamp_keeps (s : State) (touched : Nat → Bool) (due : Bool) (k : Fin 4) :
    (s.deriveRamp touched due k).pending = s.pending ∧ (s.deriveRamp touched due k).handed = s.handed ∧
    (s.deriveRamp touched due k).detectors = s.detectors ∧ (s.deriveRamp touched due k).stations = s.stations ∧
    (s.deriveRamp touched due k).lastSources = s.lastSources ∧ (s.deriveRamp touched due k).plans = s.plans ∧
    (s.deriveRamp touched due k).jobs = s.jobs ∧ (s.deriveRamp touched due k).rcu = s.rcu := by
  simp only [State.deriveRamp]
  split_ifs <;> simp

/-- The triggers of an event keep the tables they are drawn from, but for the last sources, which they leave as the
resolution has them. -/
@[simp] theorem State.deriveTriggers_keeps (s : State) (touched : Nat → Bool) (due : Fin 4 → Bool) :
    (s.deriveTriggers touched due).pending = s.pending ∧ (s.deriveTriggers touched due).handed = s.handed ∧
    (s.deriveTriggers touched due).detectors = s.detectors ∧ (s.deriveTriggers touched due).stations = s.stations ∧
    (s.deriveTriggers touched due).lastSources = (s.resolveSources (s.resolves touched due)).lastSources ∧
    (s.deriveTriggers touched due).plans = s.plans ∧ (s.deriveTriggers touched due).jobs = s.jobs ∧
    (s.deriveTriggers touched due).rcu = s.rcu := by
  simp only [State.deriveTriggers]
  exact ⟨foldl_keeps State.pending _ (fun s x => by simp) _ _,
    foldl_keeps State.handed _ (fun s x => by simp) _ _,
    foldl_keeps State.detectors _ (fun s x => by simp) _ _,
    foldl_keeps State.stations _ (fun s x => by simp) _ _,
    foldl_keeps State.lastSources _ (fun s x => by simp) _ _,
    foldl_keeps State.plans _ (fun s x => by simp) _ _,
    foldl_keeps State.jobs _ (fun s x => by simp) _ _,
    foldl_keeps State.rcu _ (fun s x => by simp) _ _⟩

/-! ## Operations that keep every ramp -/

@[simp] theorem State.ramp_offerForward (s : State) (f : Frame) (j : Fin 4) :
    (s.offerForward f).ramp j = s.ramp j := State.ramp_of_ramps (by simp) j

@[simp] theorem State.ramp_offerUrgent (s : State) (f : Frame) (j : Fin 4) :
    (s.offerUrgent f).ramp j = s.ramp j := State.ramp_of_ramps (by simp) j

@[simp] theorem State.ramp_offerNormal (s : State) (o : Outgoing) (j : Fin 4) :
    (s.offerNormal o).ramp j = s.ramp j := State.ramp_of_ramps (by simp) j

@[simp] theorem State.ramp_offerSequenced (s : State) (n : Nat) (p : List Byte) (j : Fin 4) :
    (s.offerSequenced n p).ramp j = s.ramp j := State.ramp_of_ramps (by simp) j

@[simp] theorem State.ramp_offerNotice (s : State) (p : List Byte) (j : Fin 4) :
    (s.offerNotice p).ramp j = s.ramp j := State.ramp_of_ramps (by simp) j

@[simp] theorem State.ramp_offerHealth (s : State) (i : Nat) (k : Fin 4) (a b : Health) (c : HealthCause) (y : Symptoms) (j : Fin 4) :
    (s.offerHealth i k a b c y).ramp j = s.ramp j := State.ramp_of_ramps (by simp) j

@[simp] theorem State.ramp_offerFault (s : State) (k : Fin 4) (c : FaultCause) (a b : Flags) (n : Nat) (j : Fin 4) :
    (s.offerFault k c a b n).ramp j = s.ramp j := State.ramp_of_ramps (by simp) j

@[simp] theorem State.ramp_offerRamp (s : State) (k : Fin 4) (b : RampState) (c : RampCause) (j : Fin 4) :
    (s.offerRamp k b c).ramp j = s.ramp j := State.ramp_of_ramps (by simp) j

@[simp] theorem State.ramp_reply (s : State) (q : Request) (n : Nat) (x : Result) (b : List Byte) (j : Fin 4) :
    (s.reply q n x b).ramp j = s.ramp j := State.ramp_of_ramps (by simp) j

@[simp] theorem State.ramp_badValue (s : State) (q : Request) (n i : Nat) (j : Fin 4) :
    (s.badValue q n i).ramp j = s.ramp j := State.ramp_of_ramps (by simp) j

@[simp] theorem State.ramp_badValueUnstated (s : State) (q : Request) (n : Nat) (j : Fin 4) :
    (s.badValueUnstated q n).ramp j = s.ramp j := State.ramp_of_ramps (by simp) j

@[simp] theorem State.ramp_took (s : State) (c : Instr) (j : Fin 4) :
    (s.took c).ramp j = s.ramp j := State.ramp_of_ramps (by simp) j

@[simp] theorem State.ramp_rampChanged (s : State) (k : Fin 4) (b : RampState) (c : RampCause) (j : Fin 4) :
    (s.rampChanged k b c).ramp j = s.ramp j := State.ramp_of_ramps (by simp) j

@[simp] theorem State.ramp_offerHeadNotice (s : State) (k : Fin 4) (l : Fin 3) (n : Nat) (a : Option Aspect) (j : Fin 4) :
    (s.offerHeadNotice k l n a).ramp j = s.ramp j := State.ramp_of_ramps (by simp) j

@[simp] theorem State.ramp_disableNotices (s0 s : State) (j : Fin 4) :
    (State.disableNotices s0 s).ramp j = s.ramp j := State.ramp_of_ramps (by simp) j

@[simp] theorem State.ramp_darkNotices (s0 s : State) (red : List (Fin 4)) (j : Fin 4) :
    (State.darkNotices s0 red s).ramp j = s.ramp j := State.ramp_of_ramps (by simp) j

end Sys2Proof.Machine
end

