-- ==== Sys2Proof/Laws/Ops.lean ====
section
/-! SUPPORT. What offers do to the queues: each single offer in the words of the statements, and how the offers of one
event join. -/

namespace Sys2Proof.Machine

/-! ## Queues and their bounds -/

theorem State.offerForward_bound (s : State) (f : Frame) (h : s.forward.length ≤ Config.forwardCapacity) :
    (s.offerForward f).forward.length ≤ Config.forwardCapacity := by
  simp only [State.offerForward]
  split
  · simp only [List.length_append, List.length_singleton]
    omega
  · exact h

theorem State.offerUrgent_urgent (s : State) (f : Frame) :
    (s.offerUrgent f).urgent = s.urgent ++ [f].take (Config.urgentCapacity - s.urgent.length) ∧
    (s.offerUrgent f).urgentDropped =
      (s.urgentDropped || decide (Config.urgentCapacity - s.urgent.length < 1)) := by
  by_cases h : s.urgent.length < Config.urgentCapacity
  · have h1 : ¬(Config.urgentCapacity - s.urgent.length < 1) := by omega
    have h2 : Config.urgentCapacity - s.urgent.length = (Config.urgentCapacity - s.urgent.length - 1) + 1 := by omega
    simp only [State.offerUrgent, State.urgentRoom, h, decide_true, if_true, h1, decide_false, Bool.or_false, and_true]
    rw [h2, List.take_succ_cons, List.take_nil]
  · have h0 : Config.urgentCapacity - s.urgent.length = 0 := by omega
    simp [State.offerUrgent, State.urgentRoom, h, h0]

theorem State.offerNormal_normal (s : State) (o : Outgoing) :
    (s.offerNormal o).normal = s.normal ++ [o].take (Config.normalCapacity - s.normal.length) ∧
    (s.offerNormal o).normalDropped =
      (s.normalDropped || decide (Config.normalCapacity - s.normal.length < 1)) := by
  by_cases h : s.normal.length < Config.normalCapacity
  · have h1 : ¬(Config.normalCapacity - s.normal.length < 1) := by omega
    have h2 : Config.normalCapacity - s.normal.length = (Config.normalCapacity - s.normal.length - 1) + 1 := by omega
    simp only [State.offerNormal, State.normalRoom, h, decide_true, if_true, h1, decide_false, Bool.or_false, and_true]
    rw [h2, List.take_succ_cons, List.take_nil]
  · have h0 : Config.normalCapacity - s.normal.length = 0 := by omega
    simp [State.offerNormal, State.normalRoom, h, h0]

theorem State.offerUrgent_bound (s : State) (f : Frame) (h : s.urgent.length ≤ Config.urgentCapacity) :
    (s.offerUrgent f).urgent.length ≤ Config.urgentCapacity := by
  rw [(s.offerUrgent_urgent f).1, List.length_append, List.length_take]
  omega

theorem State.offerNormal_bound (s : State) (o : Outgoing) (h : s.normal.length ≤ Config.normalCapacity) :
    (s.offerNormal o).normal.length ≤ Config.normalCapacity := by
  rw [(s.offerNormal_normal o).1, List.length_append, List.length_take]
  omega

/-! ## What an event tells -/

theorem State.tells_nil (s : State) : s.tells s [] [] := by
  simp [State.tells, noticeFrames]

/-- What `tells` says depends on the normal insert queue and the sequence number alone. -/
theorem State.tells_congr {s t u : State} {notices : List (Nat × List Byte)} {replies : List Outgoing}
    (h : s.tells t notices replies) (hn : u.normal = t.normal) (hd : u.normalDropped = t.normalDropped)
    (hq : u.sequence = t.sequence) : s.tells u notices replies := by
  obtain ⟨h1, h2, h3⟩ := h
  exact ⟨hn.trans h1, hd.trans h2, hq.trans h3⟩

/-- Notices depend on the report address, the own address and the sequence number alone. -/
theorem noticeFrames_congr {s t : State} (hs : t.site = s.site) (ho : t.ownAddress = s.ownAddress) (d n : Nat)
    (hq : ∀ i, (t.sequence + i) % 256 = (s.sequence + d + i) % 256) (notices : List (Nat × List Byte)) :
    noticeFrames t n notices = noticeFrames s (d + n) notices := by
  induction notices generalizing n with
  | nil => rfl
  | cons p rest ih =>
    simp only [noticeFrames, hs, ho, hq, ih (n + 1)]
    rw [← Nat.add_assoc d n 1, ← Nat.add_assoc s.sequence d n]

theorem noticeFrames_append (s : State) (n : Nat) (a b : List (Nat × List Byte)) :
    noticeFrames s n (a ++ b) = noticeFrames s n a ++ noticeFrames s (n + a.length) b := by
  induction a generalizing n with
  | nil => simp [noticeFrames]
  | cons p rest ih =>
    simp only [List.cons_append, noticeFrames, ih, List.length_cons]
    rw [Nat.add_assoc n 1, Nat.add_comm 1]

@[simp] theorem noticeFrames_length (s : State) (n : Nat) (a : List (Nat × List Byte)) :
    (noticeFrames s n a).length = a.length := by
  induction a generalizing n with
  | nil => rfl
  | cons p rest ih => simp [noticeFrames, ih]

/-- The offers of one event join: notices first, then notices and replies. -/
theorem State.tells_trans {s t u : State} {a b : List (Nat × List Byte)} {replies : List Outgoing}
    (h1 : s.tells t a []) (h2 : t.tells u b replies) (hs : t.site = s.site) (ho : t.ownAddress = s.ownAddress) :
    s.tells u (a ++ b) replies := by
  obtain ⟨n1, d1, q1⟩ := h1
  obtain ⟨n2, d2, q2⟩ := h2
  simp only [List.append_nil] at n1 d1
  have hq : ∀ i, (t.sequence + i) % 256 = (s.sequence + a.length + i) % 256 := by
    intro i
    rw [q1]
    split_ifs with ha
    · simp [ha]
    · omega
  have hf : noticeFrames t 0 b = noticeFrames s (0 + a.length) b := by
    simpa [Nat.add_comm] using noticeFrames_congr hs ho a.length 0 hq b
  have hl : t.normal.length = s.normal.length + min (Config.normalCapacity - s.normal.length) a.length := by
    rw [n1, List.length_append, List.length_take, noticeFrames_length]
  have hr : Config.normalCapacity - t.normal.length = Config.normalCapacity - s.normal.length - a.length := by omega
  refine ⟨?_, ?_, ?_⟩
  · rw [n2, hr, n1, hf, noticeFrames_append, List.append_assoc, List.append_assoc]
    congr 1
    conv_rhs => rw [List.take_append]
    simp
  · rw [d2, d1, hr, hf, noticeFrames_append]
    simp only [List.length_append, noticeFrames_length, Bool.or_assoc]
    congr 1
    rw [← Bool.decide_or]
    congr 1
    apply propext
    omega
  · rw [q2, q1]
    by_cases ha : a = [] <;> by_cases hb : b = [] <;> simp [ha, hb] <;> omega

/-- One reply is offered and nothing else happens. -/
theorem State.reply_repliesOnly (s : State) (q : Request) (code : Nat) (x : Result) (body : List Byte) :
    s.repliesOnly (s.reply q code x body) q code x body := by
  obtain ⟨h1, h2⟩ := s.offerNormal_normal ⟨s.replyFrame q code x body, false⟩
  refine ⟨⟨by simpa [noticeFrames, State.reply, replyOf, State.replyFrame] using h1,
    by simpa [noticeFrames, State.reply, replyOf, State.replyFrame] using h2, by simp⟩, ?_⟩
  simp only [State.reply, State.offerNormal]
  split <;> rfl

/-- A frame's tag is one byte. -/
theorem mkFrame_tag_mod (dst src kind tag : Nat) (payload : List Byte) :
    mkFrame dst src kind (tag % 256) payload = mkFrame dst src kind tag payload := by
  have h : u8 (tag % 256) = u8 tag := by
    apply BitVec.eq_of_toNat_eq
    simp [u8]
  simp only [mkFrame, h]

/-- One REPORT or NOTICE frame is offered. -/
theorem State.offerSequenced_tells (s : State) (kind : Nat) (payload : List Byte) :
    s.tells (s.offerSequenced kind payload) [(kind, payload)] [] := by
  obtain ⟨h1, h2⟩ := State.offerNormal_normal { s with sequence := (s.sequence + 1) % 256 }
    ⟨mkFrame s.site.report s.ownAddress kind s.sequence payload, false⟩
  refine ⟨?_, ?_, ?_⟩
  · simpa [noticeFrames, State.offerSequenced, mkFrame_tag_mod] using h1
  · simpa [noticeFrames, State.offerSequenced] using h2
  · simp only [State.offerSequenced, State.offerNormal]
    split <;> rfl

theorem State.offerHealth_tells (s : State) (i : Nat) (k : Fin 4) (a b : Health) (c : HealthCause) (y : Symptoms) :
    s.tells (s.offerHealth i k a b c y) [healthNotice i k a b c y] [] := s.offerSequenced_tells _ _

theorem State.offerFault_tells (s : State) (k : Fin 4) (c : FaultCause) (a b : Flags) (n : Nat) :
    s.tells (s.offerFault k c a b n) [faultNotice k c (s.ramp k).state a b n] [] := s.offerSequenced_tells _ _

theorem State.offerRamp_tells (s : State) (k : Fin 4) (before : RampState) (c : RampCause) :
    s.tells (s.offerRamp k before c)
      [rampNotice k before (s.ramp k).state (s.ramp k).requestHold (s.ramp k).inputHold c] [] :=
  s.offerSequenced_tells _ _

/-- A RAMP notice is offered exactly where the state changed. -/
theorem State.rampChanged_tells (s : State) (k : Fin 4) (before : RampState) (c : RampCause) :
    s.tells (s.rampChanged k before c) (if (s.ramp k).state = before then []
      else [rampNotice k before (s.ramp k).state (s.ramp k).requestHold (s.ramp k).inputHold c]) [] := by
  simp only [State.rampChanged]
  split_ifs
  · exact s.tells_nil
  · exact s.offerRamp_tells k before c

/-- A reply after the notices of its event. -/
theorem State.reply_tells (s : State) (q : Request) (code : Nat) (x : Result) (body : List Byte) :
    s.tells (s.reply q code x body) [] [replyOf s q code x body] := (s.reply_repliesOnly q code x body).1

/-! ## Heads -/

/-- A head command is offered: a head with room is told its target, and nothing else changes. -/
theorem State.offerHead_spec (s : State) (k : Fin 4) (l : Fin 3) (h : Head) (c : LaneConfig)
    (hh : (s.ramp k).head l = some h) (hc : (s.ramp k).laneConfig l = some c) :
    s.offerHead k l = if s.urgentRoom then
      { s with urgent := s.urgent ++ [s.headFrame c ((s.ramp k).target l)],
               ramps := s.ramps.set k ((s.ramp k).updHead l (Head.queued s.site ((s.ramp k).target l))) }
    else { s with urgentDropped := true } := by
  simp only [State.offerHead, hh, hc, State.offerUrgent]
  split <;> rfl

theorem State.offerHead_none (s : State) (k : Fin 4) (l : Fin 3)
    (h : (s.ramp k).head l = none ∨ (s.ramp k).laneConfig l = none) : s.offerHead k l = s := by
  simp only [State.offerHead]
  split
  · rename_i h1 h2
    rcases h with h | h <;> simp_all
  · rfl

/-- Offering a head a command changes no ramp but for what commands change. -/
theorem State.offerHead_apartFromCommands (s : State) (k j : Fin 4) (l : Fin 3) :
    ((s.offerHead k l).ramp j).apartFromCommands = (s.ramp j).apartFromCommands := by
  by_cases hn : (s.ramp k).head l = none ∨ (s.ramp k).laneConfig l = none
  · rw [s.offerHead_none k l hn]
  · rw [not_or] at hn
    obtain ⟨h, hh⟩ := Option.ne_none_iff_exists'.mp hn.1
    obtain ⟨c, hc⟩ := Option.ne_none_iff_exists'.mp hn.2
    rw [s.offerHead_spec k l h c hh hc]
    split
    · simp only [State.ramp, Four.get_set]
      split
      · subst j
        simp only [Ramp.apartFromCommands, Ramp.updHead, Ramp.head, Three.get_set]
        congr 1
        apply Three.ext_get
        intro m
        simp only [Three.get_tabulate]
        split
        · subst m
          simp only [Ramp.head, State.ramp] at hh
          simp [hh, Head.standing, Head.queued]
        · rfl
      · rfl
    · rfl

/-- The offers at the end of an event change no ramp but for what commands change. -/
theorem State.settleHeads_apartFromCommands (s0 s : State) (fresh : List (Fin 4 × Fin 3)) (j : Fin 4) :
    ((State.settleHeads s0 fresh s).ramp j).apartFromCommands = (s.ramp j).apartFromCommands := by
  refine foldl_keeps (fun s : State => (s.ramp j).apartFromCommands) _ (fun s x => ?_) _ _
  split
  · exact s.offerHead_apartFromCommands x.1 j x.2
  · rfl

/-! ## Heads told their targets -/

/-- A ramp whose heads were told their targets is the ramp but for its heads. -/
theorem State.told_ramp (s0 s : State) (fresh : List (Fin 4 × Fin 3)) (k : Fin 4) :
    (s0.told s fresh).ramp k = { s.ramp k with heads := ((s0.told s fresh).ramp k).heads } := by
  simp [State.told, State.ramp]

@[simp] theorem State.told_keeps (s0 s : State) (fresh : List (Fin 4 × Fin 3)) :
    (s0.told s fresh).pending = s.pending ∧ (s0.told s fresh).handed = s.handed ∧
    (s0.told s fresh).freeCount = s.freeCount ∧ (s0.told s fresh).ownAddress = s.ownAddress ∧
    (s0.told s fresh).linkUp = s.linkUp ∧ (s0.told s fresh).awaitingGap = s.awaitingGap ∧
    (s0.told s fresh).txHold = s.txHold ∧ (s0.told s fresh).forward = s.forward ∧
    (s0.told s fresh).normal = s.normal ∧ (s0.told s fresh).forwardDropped = s.forwardDropped ∧
    (s0.told s fresh).normalDropped = s.normalDropped ∧ (s0.told s fresh).waitCount = s.waitCount ∧
    (s0.told s fresh).line = s.line ∧ (s0.told s fresh).sequence = s.sequence ∧ (s0.told s fresh).site = s.site ∧
    (s0.told s fresh).limits = s.limits ∧ (s0.told s fresh).detectors = s.detectors ∧
    (s0.told s fresh).stations = s.stations ∧
    (s0.told s fresh).lastSources = s.lastSources ∧ (s0.told s fresh).plans = s.plans ∧
    (s0.told s fresh).jobs = s.jobs ∧ (s0.told s fresh).rcu = s.rcu := by
  simp [State.told]

/-- With no head due nothing is told. -/
theorem State.told_nil (s0 s : State) (fresh : List (Fin 4 × Fin 3)) (h : s0.headsDue s fresh = []) :
    s0.told s fresh = s := by
  have hr : Four.tabulate (fun k => { s.ramp k with
      heads := Three.tabulate (fun l => ((s.ramp k).head l).map (fun h => h)) }) = s.ramps := by
    apply Four.ext_get
    intro k
    simp only [Four.get_tabulate, Option.map_id']
    exact congrArg (fun x => { s.ramp k with heads := x })
      (Three.ext_get (fun m => Three.get_tabulate _ m))
  simp only [State.told, h, List.take_nil, List.map_nil, List.append_nil, List.not_mem_nil, if_false,
    List.length_nil, Nat.not_lt_zero, decide_false, Bool.or_false, hr]

end Sys2Proof.Machine
end

