-- ==== Sys2Proof/Laws/Ramps.lean ====
section
/-! SUPPORT. What each operation on one ramp keeps, and what the pick can do. -/

namespace Sys2Proof.Machine

/-! ## What operations on a ramp keep -/

@[simp] theorem Ramp.updClock_keeps (r : Ramp) (f : Clock → Clock) :
    (r.updClock f).stack = r.stack ∧ (r.updClock f).intervalTimer = r.intervalTimer ∧
    (r.updClock f).overrun = r.overrun ∧ (r.updClock f).spill = r.spill ∧ (r.updClock f).rPrev = r.rPrev ∧
    (r.updClock f).sticky = r.sticky ∧ (r.updClock f).last = r.last ∧
    (r.updClock f).lastResult = r.lastResult ∧ (r.updClock f).faultPending = r.faultPending ∧
    (r.updClock f).recovery = r.recovery ∧ (r.updClock f).startFault = r.startFault ∧
    (r.updClock f).config = r.config ∧ (r.updClock f).state = r.state ∧
    (r.updClock f).requestHold = r.requestHold ∧ (r.updClock f).inputHold = r.inputHold ∧
    (r.updClock f).holdInput = r.holdInput ∧ (r.updClock f).warningTimer = r.warningTimer ∧
    (r.updClock f).clearTimer = r.clearTimer ∧ (r.updClock f).share = r.share ∧
    (r.updClock f).carriedRate = r.carriedRate ∧ (r.updClock f).lanes = r.lanes ∧
    (r.updClock f).waitOrder = r.waitOrder ∧ (r.updClock f).pointer = r.pointer ∧ (r.updClock f).heads = r.heads := by
  simp [Ramp.updClock]

@[simp] theorem Ramp.leaveWait_keeps (r : Ramp) (l : Fin 3) :
    (r.leaveWait l).stack = r.stack ∧ (r.leaveWait l).intervalTimer = r.intervalTimer ∧
    (r.leaveWait l).overrun = r.overrun ∧ (r.leaveWait l).spill = r.spill ∧ (r.leaveWait l).rPrev = r.rPrev ∧
    (r.leaveWait l).sticky = r.sticky ∧ (r.leaveWait l).last = r.last ∧
    (r.leaveWait l).lastResult = r.lastResult ∧ (r.leaveWait l).faultPending = r.faultPending ∧
    (r.leaveWait l).recovery = r.recovery ∧ (r.leaveWait l).startFault = r.startFault ∧
    (r.leaveWait l).config = r.config ∧ (r.leaveWait l).state = r.state ∧
    (r.leaveWait l).requestHold = r.requestHold ∧ (r.leaveWait l).inputHold = r.inputHold ∧
    (r.leaveWait l).holdInput = r.holdInput ∧ (r.leaveWait l).warningTimer = r.warningTimer ∧
    (r.leaveWait l).clearTimer = r.clearTimer ∧ (r.leaveWait l).share = r.share ∧
    (r.leaveWait l).carriedRate = r.carriedRate ∧ (r.leaveWait l).clock = r.clock ∧
    (r.leaveWait l).lanes = r.lanes ∧ (r.leaveWait l).pointer = r.pointer ∧ (r.leaveWait l).heads = r.heads := by
  simp [Ramp.leaveWait]

@[simp] theorem Ramp.joinWait_keeps (r : Ramp) (l : Fin 3) :
    (r.joinWait l).stack = r.stack ∧ (r.joinWait l).intervalTimer = r.intervalTimer ∧
    (r.joinWait l).overrun = r.overrun ∧ (r.joinWait l).spill = r.spill ∧ (r.joinWait l).rPrev = r.rPrev ∧
    (r.joinWait l).sticky = r.sticky ∧ (r.joinWait l).last = r.last ∧
    (r.joinWait l).lastResult = r.lastResult ∧ (r.joinWait l).faultPending = r.faultPending ∧
    (r.joinWait l).recovery = r.recovery ∧ (r.joinWait l).startFault = r.startFault ∧
    (r.joinWait l).config = r.config ∧ (r.joinWait l).state = r.state ∧
    (r.joinWait l).requestHold = r.requestHold ∧ (r.joinWait l).inputHold = r.inputHold ∧
    (r.joinWait l).holdInput = r.holdInput ∧ (r.joinWait l).warningTimer = r.warningTimer ∧
    (r.joinWait l).clearTimer = r.clearTimer ∧ (r.joinWait l).share = r.share ∧
    (r.joinWait l).carriedRate = r.carriedRate ∧ (r.joinWait l).clock = r.clock ∧
    (r.joinWait l).lanes = r.lanes ∧ (r.joinWait l).pointer = r.pointer ∧ (r.joinWait l).heads = r.heads := by
  simp only [Ramp.joinWait]; split <;> simp

@[simp] theorem Ramp.laneOff_keeps (r : Ramp) (l : Fin 3) :
    (r.laneOff l).stack = r.stack ∧ (r.laneOff l).intervalTimer = r.intervalTimer ∧
    (r.laneOff l).overrun = r.overrun ∧ (r.laneOff l).spill = r.spill ∧ (r.laneOff l).rPrev = r.rPrev ∧
    (r.laneOff l).sticky = r.sticky ∧ (r.laneOff l).last = r.last ∧ (r.laneOff l).lastResult = r.lastResult ∧
    (r.laneOff l).faultPending = r.faultPending ∧ (r.laneOff l).recovery = r.recovery ∧
    (r.laneOff l).startFault = r.startFault ∧ (r.laneOff l).config = r.config ∧ (r.laneOff l).state = r.state ∧
    (r.laneOff l).requestHold = r.requestHold ∧ (r.laneOff l).inputHold = r.inputHold ∧
    (r.laneOff l).holdInput = r.holdInput ∧ (r.laneOff l).warningTimer = r.warningTimer ∧
    (r.laneOff l).clearTimer = r.clearTimer ∧ (r.laneOff l).share = r.share ∧
    (r.laneOff l).carriedRate = r.carriedRate ∧ (r.laneOff l).clock = r.clock ∧
    (r.laneOff l).pointer = r.pointer ∧ (r.laneOff l).heads = r.heads := by
  simp [Ramp.laneOff]

@[simp] theorem Ramp.lanesOff_keeps (r : Ramp) :
    r.lanesOff.stack = r.stack ∧ r.lanesOff.intervalTimer = r.intervalTimer ∧ r.lanesOff.overrun = r.overrun ∧
    r.lanesOff.spill = r.spill ∧ r.lanesOff.rPrev = r.rPrev ∧ r.lanesOff.sticky = r.sticky ∧
    r.lanesOff.last = r.last ∧ r.lanesOff.lastResult = r.lastResult ∧
    r.lanesOff.faultPending = r.faultPending ∧ r.lanesOff.recovery = r.recovery ∧
    r.lanesOff.startFault = r.startFault ∧ r.lanesOff.config = r.config ∧ r.lanesOff.state = r.state ∧
    r.lanesOff.requestHold = r.requestHold ∧ r.lanesOff.inputHold = r.inputHold ∧
    r.lanesOff.holdInput = r.holdInput ∧ r.lanesOff.warningTimer = r.warningTimer ∧
    r.lanesOff.clearTimer = r.clearTimer ∧ r.lanesOff.share = r.share ∧
    r.lanesOff.carriedRate = r.carriedRate ∧ r.lanesOff.clock = r.clock ∧ r.lanesOff.pointer = r.pointer ∧
    r.lanesOff.heads = r.heads := by
  simp [Ramp.lanesOff, allLanes]

@[simp] theorem Ramp.endWindow_keeps (r : Ramp) (l : Fin 3) :
    (r.endWindow l).stack = r.stack ∧ (r.endWindow l).intervalTimer = r.intervalTimer ∧
    (r.endWindow l).overrun = r.overrun ∧ (r.endWindow l).spill = r.spill ∧ (r.endWindow l).rPrev = r.rPrev ∧
    (r.endWindow l).sticky = r.sticky ∧ (r.endWindow l).last = r.last ∧
    (r.endWindow l).lastResult = r.lastResult ∧ (r.endWindow l).faultPending = r.faultPending ∧
    (r.endWindow l).recovery = r.recovery ∧ (r.endWindow l).startFault = r.startFault ∧
    (r.endWindow l).config = r.config ∧ (r.endWindow l).state = r.state ∧
    (r.endWindow l).requestHold = r.requestHold ∧ (r.endWindow l).inputHold = r.inputHold ∧
    (r.endWindow l).holdInput = r.holdInput ∧ (r.endWindow l).warningTimer = r.warningTimer ∧
    (r.endWindow l).clearTimer = r.clearTimer ∧ (r.endWindow l).share = r.share ∧
    (r.endWindow l).carriedRate = r.carriedRate ∧ (r.endWindow l).clock = r.clock ∧
    (r.endWindow l).pointer = r.pointer ∧ (r.endWindow l).heads = r.heads := by
  simp only [Ramp.endWindow]; split <;> simp

@[simp] theorem Ramp.endGreen_keeps (r : Ramp) (l : Fin 3) :
    (r.endGreen l).stack = r.stack ∧ (r.endGreen l).intervalTimer = r.intervalTimer ∧
    (r.endGreen l).overrun = r.overrun ∧ (r.endGreen l).spill = r.spill ∧ (r.endGreen l).rPrev = r.rPrev ∧
    (r.endGreen l).sticky = r.sticky ∧ (r.endGreen l).last = r.last ∧
    (r.endGreen l).lastResult = r.lastResult ∧ (r.endGreen l).faultPending = r.faultPending ∧
    (r.endGreen l).recovery = r.recovery ∧ (r.endGreen l).startFault = r.startFault ∧
    (r.endGreen l).config = r.config ∧ (r.endGreen l).state = r.state ∧
    (r.endGreen l).requestHold = r.requestHold ∧ (r.endGreen l).inputHold = r.inputHold ∧
    (r.endGreen l).holdInput = r.holdInput ∧ (r.endGreen l).warningTimer = r.warningTimer ∧
    (r.endGreen l).clearTimer = r.clearTimer ∧ (r.endGreen l).share = r.share ∧
    (r.endGreen l).carriedRate = r.carriedRate ∧ (r.endGreen l).clock = r.clock ∧
    (r.endGreen l).pointer = r.pointer ∧ (r.endGreen l).heads = r.heads := by
  simp only [Ramp.endGreen]; split <;> simp

@[simp] theorem Ramp.enterReady_keeps (r : Ramp) (l : Fin 3) :
    (r.enterReady l).stack = r.stack ∧ (r.enterReady l).intervalTimer = r.intervalTimer ∧
    (r.enterReady l).overrun = r.overrun ∧ (r.enterReady l).spill = r.spill ∧
    (r.enterReady l).rPrev = r.rPrev ∧ (r.enterReady l).sticky = r.sticky ∧ (r.enterReady l).last = r.last ∧
    (r.enterReady l).lastResult = r.lastResult ∧ (r.enterReady l).faultPending = r.faultPending ∧
    (r.enterReady l).recovery = r.recovery ∧ (r.enterReady l).startFault = r.startFault ∧
    (r.enterReady l).config = r.config ∧ (r.enterReady l).state = r.state ∧
    (r.enterReady l).requestHold = r.requestHold ∧ (r.enterReady l).inputHold = r.inputHold ∧
    (r.enterReady l).holdInput = r.holdInput ∧ (r.enterReady l).warningTimer = r.warningTimer ∧
    (r.enterReady l).clearTimer = r.clearTimer ∧ (r.enterReady l).share = r.share ∧
    (r.enterReady l).carriedRate = r.carriedRate ∧ (r.enterReady l).clock = r.clock ∧
    (r.enterReady l).pointer = r.pointer ∧ (r.enterReady l).heads = r.heads := by
  simp only [Ramp.enterReady]; split <;> simp

@[simp] theorem Ramp.deliverDemand_keeps (r : Ramp) (l : Fin 3) (b : Bool) :
    (r.deliverDemand l b).stack = r.stack ∧ (r.deliverDemand l b).intervalTimer = r.intervalTimer ∧
    (r.deliverDemand l b).overrun = r.overrun ∧ (r.deliverDemand l b).spill = r.spill ∧
    (r.deliverDemand l b).rPrev = r.rPrev ∧ (r.deliverDemand l b).sticky = r.sticky ∧
    (r.deliverDemand l b).last = r.last ∧ (r.deliverDemand l b).lastResult = r.lastResult ∧
    (r.deliverDemand l b).faultPending = r.faultPending ∧ (r.deliverDemand l b).recovery = r.recovery ∧
    (r.deliverDemand l b).startFault = r.startFault ∧ (r.deliverDemand l b).config = r.config ∧
    (r.deliverDemand l b).state = r.state ∧ (r.deliverDemand l b).requestHold = r.requestHold ∧
    (r.deliverDemand l b).inputHold = r.inputHold ∧ (r.deliverDemand l b).holdInput = r.holdInput ∧
    (r.deliverDemand l b).warningTimer = r.warningTimer ∧ (r.deliverDemand l b).clearTimer = r.clearTimer ∧
    (r.deliverDemand l b).share = r.share ∧ (r.deliverDemand l b).carriedRate = r.carriedRate ∧
    (r.deliverDemand l b).clock = r.clock ∧ (r.deliverDemand l b).pointer = r.pointer ∧
    (r.deliverDemand l b).heads = r.heads := by
  simp only [Ramp.deliverDemand]; split
  · split <;> simp
  · simp

@[simp] theorem Ramp.clearCounts_keeps (r : Ramp) :
    r.clearCounts.stack = r.stack ∧ r.clearCounts.intervalTimer = r.intervalTimer ∧
    r.clearCounts.overrun = r.overrun ∧ r.clearCounts.spill = r.spill ∧ r.clearCounts.rPrev = r.rPrev ∧
    r.clearCounts.sticky = r.sticky ∧ r.clearCounts.last = r.last ∧ r.clearCounts.lastResult = r.lastResult ∧
    r.clearCounts.faultPending = r.faultPending ∧ r.clearCounts.recovery = r.recovery ∧
    r.clearCounts.startFault = r.startFault ∧ r.clearCounts.config = r.config ∧ r.clearCounts.state = r.state ∧
    r.clearCounts.requestHold = r.requestHold ∧ r.clearCounts.inputHold = r.inputHold ∧
    r.clearCounts.holdInput = r.holdInput ∧ r.clearCounts.warningTimer = r.warningTimer ∧
    r.clearCounts.clearTimer = r.clearTimer ∧ r.clearCounts.share = r.share ∧
    r.clearCounts.carriedRate = r.carriedRate ∧ r.clearCounts.clock = r.clock ∧
    r.clearCounts.waitOrder = r.waitOrder ∧ r.clearCounts.pointer = r.pointer ∧ r.clearCounts.heads = r.heads := by
  simp [Ramp.clearCounts]

@[simp] theorem Ramp.lanesToRed_keeps (r : Ramp) (p : Plan) :
    (r.lanesToRed p).stack = r.stack ∧ (r.lanesToRed p).intervalTimer = r.intervalTimer ∧
    (r.lanesToRed p).overrun = r.overrun ∧ (r.lanesToRed p).spill = r.spill ∧
    (r.lanesToRed p).rPrev = r.rPrev ∧ (r.lanesToRed p).sticky = r.sticky ∧ (r.lanesToRed p).last = r.last ∧
    (r.lanesToRed p).lastResult = r.lastResult ∧ (r.lanesToRed p).faultPending = r.faultPending ∧
    (r.lanesToRed p).recovery = r.recovery ∧ (r.lanesToRed p).startFault = r.startFault ∧
    (r.lanesToRed p).config = r.config ∧ (r.lanesToRed p).state = r.state ∧
    (r.lanesToRed p).requestHold = r.requestHold ∧ (r.lanesToRed p).inputHold = r.inputHold ∧
    (r.lanesToRed p).holdInput = r.holdInput ∧ (r.lanesToRed p).warningTimer = r.warningTimer ∧
    (r.lanesToRed p).clearTimer = r.clearTimer ∧ (r.lanesToRed p).share = r.share ∧
    (r.lanesToRed p).carriedRate = r.carriedRate ∧ (r.lanesToRed p).clock = r.clock ∧
    (r.lanesToRed p).waitOrder = r.waitOrder ∧ (r.lanesToRed p).pointer = r.pointer ∧
    (r.lanesToRed p).heads = r.heads := by
  simp [Ramp.lanesToRed]

@[simp] theorem Ramp.give_keeps (r : Ramp) (p : Plan) (l : Fin 3) (a : Nat) :
    (r.give p l a).stack = r.stack ∧ (r.give p l a).intervalTimer = r.intervalTimer ∧
    (r.give p l a).overrun = r.overrun ∧ (r.give p l a).spill = r.spill ∧ (r.give p l a).rPrev = r.rPrev ∧
    (r.give p l a).sticky = r.sticky ∧ (r.give p l a).last = r.last ∧
    (r.give p l a).lastResult = r.lastResult ∧ (r.give p l a).faultPending = r.faultPending ∧
    (r.give p l a).recovery = r.recovery ∧ (r.give p l a).startFault = r.startFault ∧
    (r.give p l a).config = r.config ∧ (r.give p l a).state = r.state ∧
    (r.give p l a).requestHold = r.requestHold ∧ (r.give p l a).inputHold = r.inputHold ∧
    (r.give p l a).holdInput = r.holdInput ∧ (r.give p l a).warningTimer = r.warningTimer ∧
    (r.give p l a).clearTimer = r.clearTimer ∧ (r.give p l a).share = r.share ∧
    (r.give p l a).carriedRate = r.carriedRate ∧ (r.give p l a).heads = r.heads := by
  simp [Ramp.give]

@[simp] theorem Ramp.pick_keeps (r : Ramp) (p : Plan) :
    (r.pick p).stack = r.stack ∧ (r.pick p).intervalTimer = r.intervalTimer ∧ (r.pick p).overrun = r.overrun ∧
    (r.pick p).spill = r.spill ∧ (r.pick p).rPrev = r.rPrev ∧ (r.pick p).sticky = r.sticky ∧
    (r.pick p).last = r.last ∧ (r.pick p).lastResult = r.lastResult ∧
    (r.pick p).faultPending = r.faultPending ∧ (r.pick p).recovery = r.recovery ∧
    (r.pick p).startFault = r.startFault ∧ (r.pick p).config = r.config ∧ (r.pick p).state = r.state ∧
    (r.pick p).requestHold = r.requestHold ∧ (r.pick p).inputHold = r.inputHold ∧
    (r.pick p).holdInput = r.holdInput ∧ (r.pick p).warningTimer = r.warningTimer ∧
    (r.pick p).clearTimer = r.clearTimer ∧ (r.pick p).share = r.share ∧
    (r.pick p).carriedRate = r.carriedRate ∧ (r.pick p).heads = r.heads := by
  simp only [Ramp.pick]; split
  · split <;> simp
  · simp

@[simp] theorem Ramp.stage_keeps (r : Ramp) (n : Nat) (m : Mark) :
    (r.stage n m).stack = r.stack ∧ (r.stage n m).intervalTimer = r.intervalTimer ∧
    (r.stage n m).overrun = r.overrun ∧ (r.stage n m).spill = r.spill ∧ (r.stage n m).rPrev = r.rPrev ∧
    (r.stage n m).sticky = r.sticky ∧ (r.stage n m).last = r.last ∧ (r.stage n m).lastResult = r.lastResult ∧
    (r.stage n m).faultPending = r.faultPending ∧ (r.stage n m).recovery = r.recovery ∧
    (r.stage n m).startFault = r.startFault ∧ (r.stage n m).config = r.config ∧ (r.stage n m).state = r.state ∧
    (r.stage n m).requestHold = r.requestHold ∧ (r.stage n m).inputHold = r.inputHold ∧
    (r.stage n m).holdInput = r.holdInput ∧ (r.stage n m).warningTimer = r.warningTimer ∧
    (r.stage n m).clearTimer = r.clearTimer ∧ (r.stage n m).share = r.share ∧
    (r.stage n m).carriedRate = r.carriedRate ∧ (r.stage n m).lanes = r.lanes ∧
    (r.stage n m).waitOrder = r.waitOrder ∧ (r.stage n m).pointer = r.pointer ∧ (r.stage n m).heads = r.heads := by
  simp [Ramp.stage]

@[simp] theorem Ramp.stageComputed_keeps (r : Ramp) (n : Nat) :
    (r.stageComputed n).stack = r.stack ∧ (r.stageComputed n).intervalTimer = r.intervalTimer ∧
    (r.stageComputed n).overrun = r.overrun ∧ (r.stageComputed n).spill = r.spill ∧
    (r.stageComputed n).rPrev = r.rPrev ∧ (r.stageComputed n).sticky = r.sticky ∧
    (r.stageComputed n).last = r.last ∧ (r.stageComputed n).lastResult = r.lastResult ∧
    (r.stageComputed n).faultPending = r.faultPending ∧ (r.stageComputed n).recovery = r.recovery ∧
    (r.stageComputed n).startFault = r.startFault ∧ (r.stageComputed n).config = r.config ∧
    (r.stageComputed n).state = r.state ∧ (r.stageComputed n).requestHold = r.requestHold ∧
    (r.stageComputed n).inputHold = r.inputHold ∧ (r.stageComputed n).holdInput = r.holdInput ∧
    (r.stageComputed n).warningTimer = r.warningTimer ∧ (r.stageComputed n).clearTimer = r.clearTimer ∧
    (r.stageComputed n).share = r.share ∧ (r.stageComputed n).carriedRate = r.carriedRate ∧
    (r.stageComputed n).lanes = r.lanes ∧ (r.stageComputed n).waitOrder = r.waitOrder ∧
    (r.stageComputed n).pointer = r.pointer ∧ (r.stageComputed n).heads = r.heads := by
  simp only [Ramp.stageComputed]; split <;> simp

@[simp] theorem Ramp.recordComputed_keeps (r : Ramp) (n : Nat) :
    (r.recordComputed n).stack = r.stack ∧ (r.recordComputed n).intervalTimer = r.intervalTimer ∧
    (r.recordComputed n).overrun = r.overrun ∧ (r.recordComputed n).spill = r.spill ∧
    (r.recordComputed n).rPrev = r.rPrev ∧ (r.recordComputed n).sticky = r.sticky ∧
    (r.recordComputed n).last = r.last ∧ (r.recordComputed n).lastResult = r.lastResult ∧
    (r.recordComputed n).faultPending = r.faultPending ∧ (r.recordComputed n).recovery = r.recovery ∧
    (r.recordComputed n).startFault = r.startFault ∧ (r.recordComputed n).config = r.config ∧
    (r.recordComputed n).state = r.state ∧ (r.recordComputed n).requestHold = r.requestHold ∧
    (r.recordComputed n).inputHold = r.inputHold ∧ (r.recordComputed n).holdInput = r.holdInput ∧
    (r.recordComputed n).warningTimer = r.warningTimer ∧ (r.recordComputed n).clearTimer = r.clearTimer ∧
    (r.recordComputed n).share = r.share ∧ (r.recordComputed n).carriedRate = r.carriedRate ∧
    (r.recordComputed n).lanes = r.lanes ∧ (r.recordComputed n).waitOrder = r.waitOrder ∧
    (r.recordComputed n).pointer = r.pointer ∧ (r.recordComputed n).heads = r.heads := by
  simp [Ramp.recordComputed]

@[simp] theorem Ramp.swap_keeps (r : Ramp) :
    r.swap.stack = r.stack ∧ r.swap.intervalTimer = r.intervalTimer ∧ r.swap.overrun = r.overrun ∧
    r.swap.spill = r.spill ∧ r.swap.rPrev = r.rPrev ∧ r.swap.sticky = r.sticky ∧ r.swap.last = r.last ∧
    r.swap.lastResult = r.lastResult ∧ r.swap.faultPending = r.faultPending ∧
    r.swap.startFault = r.startFault ∧ r.swap.config = r.config ∧ r.swap.requestHold = r.requestHold ∧
    r.swap.inputHold = r.inputHold ∧ r.swap.holdInput = r.holdInput ∧ r.swap.warningTimer = r.warningTimer ∧
    r.swap.clearTimer = r.clearTimer ∧ r.swap.share = r.share ∧ r.swap.carriedRate = r.carriedRate ∧
    r.swap.lanes = r.lanes ∧ r.swap.waitOrder = r.waitOrder ∧ r.swap.pointer = r.pointer ∧
    r.swap.heads = r.heads := by
  simp only [Ramp.swap]; split
  · simp
  · split <;> simp

@[simp] theorem Ramp.enterFallback_keeps (r : Ramp) (p : Plan) :
    (r.enterFallback p).stack = r.stack ∧ (r.enterFallback p).intervalTimer = r.intervalTimer ∧
    (r.enterFallback p).overrun = r.overrun ∧ (r.enterFallback p).spill = r.spill ∧
    (r.enterFallback p).rPrev = r.rPrev ∧ (r.enterFallback p).sticky = r.sticky ∧
    (r.enterFallback p).last = r.last ∧ (r.enterFallback p).lastResult = r.lastResult ∧
    (r.enterFallback p).startFault = r.startFault ∧ (r.enterFallback p).config = r.config ∧
    (r.enterFallback p).requestHold = r.requestHold ∧ (r.enterFallback p).inputHold = r.inputHold ∧
    (r.enterFallback p).holdInput = r.holdInput ∧ (r.enterFallback p).warningTimer = r.warningTimer ∧
    (r.enterFallback p).clearTimer = r.clearTimer ∧ (r.enterFallback p).share = r.share ∧
    (r.enterFallback p).carriedRate = r.carriedRate ∧ (r.enterFallback p).lanes = r.lanes ∧
    (r.enterFallback p).waitOrder = r.waitOrder ∧ (r.enterFallback p).pointer = r.pointer ∧
    (r.enterFallback p).heads = r.heads := by
  simp [Ramp.enterFallback]

@[simp] theorem Ramp.faultCheck_keeps (r : Ramp) (p : Plan) :
    (r.faultCheck p).stack = r.stack ∧ (r.faultCheck p).intervalTimer = r.intervalTimer ∧
    (r.faultCheck p).overrun = r.overrun ∧ (r.faultCheck p).spill = r.spill ∧
    (r.faultCheck p).rPrev = r.rPrev ∧ (r.faultCheck p).sticky = r.sticky ∧ (r.faultCheck p).last = r.last ∧
    (r.faultCheck p).lastResult = r.lastResult ∧ (r.faultCheck p).startFault = r.startFault ∧
    (r.faultCheck p).config = r.config ∧ (r.faultCheck p).requestHold = r.requestHold ∧
    (r.faultCheck p).inputHold = r.inputHold ∧ (r.faultCheck p).holdInput = r.holdInput ∧
    (r.faultCheck p).warningTimer = r.warningTimer ∧ (r.faultCheck p).clearTimer = r.clearTimer ∧
    (r.faultCheck p).share = r.share ∧ (r.faultCheck p).carriedRate = r.carriedRate ∧
    (r.faultCheck p).lanes = r.lanes ∧ (r.faultCheck p).waitOrder = r.waitOrder ∧
    (r.faultCheck p).pointer = r.pointer ∧ (r.faultCheck p).heads = r.heads := by
  simp only [Ramp.faultCheck]; split <;> simp

@[simp] theorem Ramp.setFaultPending_keeps (r : Ramp) :
    r.setFaultPending.stack = r.stack ∧ r.setFaultPending.intervalTimer = r.intervalTimer ∧
    r.setFaultPending.overrun = r.overrun ∧ r.setFaultPending.spill = r.spill ∧
    r.setFaultPending.rPrev = r.rPrev ∧ r.setFaultPending.sticky = r.sticky ∧ r.setFaultPending.last = r.last ∧
    r.setFaultPending.lastResult = r.lastResult ∧ r.setFaultPending.startFault = r.startFault ∧
    r.setFaultPending.config = r.config ∧ r.setFaultPending.state = r.state ∧
    r.setFaultPending.requestHold = r.requestHold ∧ r.setFaultPending.inputHold = r.inputHold ∧
    r.setFaultPending.holdInput = r.holdInput ∧ r.setFaultPending.warningTimer = r.warningTimer ∧
    r.setFaultPending.clearTimer = r.clearTimer ∧ r.setFaultPending.share = r.share ∧
    r.setFaultPending.carriedRate = r.carriedRate ∧ r.setFaultPending.lanes = r.lanes ∧
    r.setFaultPending.waitOrder = r.waitOrder ∧ r.setFaultPending.pointer = r.pointer ∧
    r.setFaultPending.heads = r.heads := by
  simp only [Ramp.setFaultPending]; split <;> simp

@[simp] theorem Ramp.flushStart_keeps (r : Ramp) (p : Plan) :
    (r.flushStart p).stack = r.stack ∧ (r.flushStart p).intervalTimer = r.intervalTimer ∧
    (r.flushStart p).overrun = r.overrun ∧ (r.flushStart p).spill = r.spill ∧
    (r.flushStart p).rPrev = r.rPrev ∧ (r.flushStart p).sticky = r.sticky ∧ (r.flushStart p).last = r.last ∧
    (r.flushStart p).lastResult = r.lastResult ∧ (r.flushStart p).faultPending = r.faultPending ∧
    (r.flushStart p).recovery = r.recovery ∧ (r.flushStart p).startFault = r.startFault ∧
    (r.flushStart p).config = r.config ∧ (r.flushStart p).state = r.state ∧
    (r.flushStart p).requestHold = r.requestHold ∧ (r.flushStart p).inputHold = r.inputHold ∧
    (r.flushStart p).holdInput = r.holdInput ∧ (r.flushStart p).warningTimer = r.warningTimer ∧
    (r.flushStart p).clearTimer = r.clearTimer ∧ (r.flushStart p).share = r.share ∧
    (r.flushStart p).carriedRate = r.carriedRate ∧ (r.flushStart p).lanes = r.lanes ∧
    (r.flushStart p).waitOrder = r.waitOrder ∧ (r.flushStart p).pointer = r.pointer ∧
    (r.flushStart p).heads = r.heads := by
  simp only [Ramp.flushStart]; split
  · simp
  · split <;> simp

@[simp] theorem Ramp.flushEnd_keeps (r : Ramp) (p : Plan) :
    (r.flushEnd p).stack = r.stack ∧ (r.flushEnd p).intervalTimer = r.intervalTimer ∧
    (r.flushEnd p).overrun = r.overrun ∧ (r.flushEnd p).spill = r.spill ∧ (r.flushEnd p).rPrev = r.rPrev ∧
    (r.flushEnd p).sticky = r.sticky ∧ (r.flushEnd p).last = r.last ∧
    (r.flushEnd p).lastResult = r.lastResult ∧ (r.flushEnd p).faultPending = r.faultPending ∧
    (r.flushEnd p).recovery = r.recovery ∧ (r.flushEnd p).startFault = r.startFault ∧
    (r.flushEnd p).config = r.config ∧ (r.flushEnd p).state = r.state ∧
    (r.flushEnd p).requestHold = r.requestHold ∧ (r.flushEnd p).inputHold = r.inputHold ∧
    (r.flushEnd p).holdInput = r.holdInput ∧ (r.flushEnd p).warningTimer = r.warningTimer ∧
    (r.flushEnd p).clearTimer = r.clearTimer ∧ (r.flushEnd p).share = r.share ∧
    (r.flushEnd p).carriedRate = r.carriedRate ∧ (r.flushEnd p).lanes = r.lanes ∧
    (r.flushEnd p).waitOrder = r.waitOrder ∧ (r.flushEnd p).pointer = r.pointer ∧ (r.flushEnd p).heads = r.heads := by
  simp only [Ramp.flushEnd]; split
  · simp
  · split
    · split <;> simp
    · split
      · split <;> simp
      · simp

/-! ## The pick -/

theorem Ramp.chooseWaiting_eligible {r : Ramp} {gating : Bool} {l : Fin 3} (h : r.chooseWaiting gating = some l) :
    r.eligible gating l = true := by
  simp only [Ramp.chooseWaiting] at h
  split at h
  · rename_i m hm
    cases h
    exact List.find?_some hm
  · exact List.find?_some h

/-- The lane chosen is eligible. -/
theorem Ramp.choose_eligible {r : Ramp} {p : Plan} {l : Fin 3} (h : r.choose p = some l) :
    r.eligible p.gating l = true := by
  simp only [Ramp.choose] at h
  split at h
  · exact List.find?_some h
  · exact Ramp.chooseWaiting_eligible h
  · split at h
    · rename_i m hm
      cases h
      have := List.find?_some hm
      simp only [Bool.and_eq_true] at this
      exact this.1
    · exact Ramp.chooseWaiting_eligible h

/-- What an eligible lane is. -/
theorem Ramp.eligible_iff (r : Ramp) (gating : Bool) (l : Fin 3) : r.eligible gating l = true ↔
    r.laneInService l = true ∧ (r.lane l).cycle = .ready ∧ (∀ j, j ≠ l → (r.lane j).cycle.busy = false) ∧
    ((r.lane l).demand = true ∨ gating = false) := by
  simp only [Ramp.eligible, Bool.and_eq_true, decide_eq_true_eq, List.all_eq_true, Bool.or_eq_true, beq_iff_eq,
    Bool.not_eq_true', and_assoc]
  constructor
  · rintro ⟨h1, h2, h3, h4⟩
    exact ⟨h1, h2, fun j hj => (h3 j (mem_allLanes j)).resolve_left hj, h4⟩
  · rintro ⟨h1, h2, h3, h4⟩
    exact ⟨h1, h2, fun j _ => or_iff_not_imp_left.mpr (h3 j), h4⟩

/-- The pick does nothing, or gives an eligible lane its green while the clock waits at DUE. -/
theorem Ramp.pick_cases (r : Ramp) (p : Plan) : r.pick p = r ∨ ∃ l a, r.waitsAtDue = true ∧
    r.eligible p.gating l = true ∧ r.clock.active = some a ∧ r.pick p = r.give p l a := by
  by_cases hw : r.waitsAtDue = true
  · cases hc : r.choose p with
    | none => exact .inl (by simp [Ramp.pick, hw, hc])
    | some l =>
      have ha : r.clock.active.isSome = true := by
        simp only [Ramp.waitsAtDue, Bool.and_eq_true] at hw
        exact hw.1.2
      obtain ⟨a, ha⟩ := Option.isSome_iff_exists.mp ha
      exact .inr ⟨l, a, hw, Ramp.choose_eligible hc, ha, by simp [Ramp.pick, hw, hc, ha]⟩
  · exact .inl (by simp [Ramp.pick, hw])

/-- A lane after the pick gave lane `l` its green. -/
theorem Ramp.lane_give (r : Ramp) (p : Plan) (l j : Fin 3) (a : Nat) : (r.give p l a).lane j = r.countedLane p l j :=
  Three.get_tabulate _ _

/-- A lane's cycle after the pick gave lane `l` its green. -/
theorem Ramp.cycle_give (r : Ramp) (p : Plan) (l j : Fin 3) (a : Nat) :
    ((r.give p l a).lane j).cycle = if j = l then .green p.green else (r.lane j).cycle := by
  rw [Ramp.lane_give]
  simp only [Ramp.countedLane]
  split
  · rfl
  · split <;> rfl

/-! ## Lanes that go OFF -/

theorem Ramp.lane_laneOff (r : Ramp) (l j : Fin 3) :
    (r.laneOff l).lane j = if j = l then { r.lane l with cycle := .off, grace := none }.landed else r.lane j := by
  simp only [Ramp.laneOff, Ramp.lane, Ramp.leaveWait]
  exact Three.get_set _ _ _ _

theorem Ramp.lane_lanesOff (r : Ramp) (l : Fin 3) :
    r.lanesOff.lane l = { r.lane l with cycle := .off, grace := none }.landed := by
  fin_cases l <;> rfl

theorem Lane.wentOff_eq (x : Lane) : { x with cycle := .off, grace := none }.landed = x.wentOff := by
  obtain ⟨_, _, _, _, _, o, c, _, _, _, _, _, _⟩ := x
  cases c <;> cases o <;> rfl

end Sys2Proof.Machine
end

