-- ==== Sys2Proof/Laws/Starts.lean ====
section
/-! SUPPORT. What the starts that end every event can do: the start of a job, the start of a frame, and both; which fields
each keeps, and that neither is due after them. -/

namespace Sys2Proof.Machine

/-! ## The start of a job -/

/-- The start of a job does nothing, or makes the RCU busy with the snapshot of the head job and may mark its ramp's share
record. -/
theorem State.startJob_cases (s : State) :
    s.startJob = s ∨ ∃ j rest, s.rcu = .idle ∧ s.jobs = j :: rest ∧ s.startJob = { s with
      rcu := .busy (s.snapshot j)
      ramps := s.ramps.set j.ramp
        (if j.isInterval && (s.snapshot j).isSome then (s.ramp j.ramp).shareRead else s.ramp j.ramp) } := by
  unfold State.startJob
  split
  · rename_i j rest hr hj
    refine .inr ⟨j, rest, hr, hj, ?_⟩
    simp only [State.jobStarted]
    split
    · rfl
    · simp only [State.ramp, Four.set_get]
  · exact .inl rfl

/-- A job's start leaves none due. -/
theorem State.startJob_rests (s : State) (h : s.startJob.rcu = .idle) : s.startJob.jobs = [] := by
  unfold State.startJob at h ⊢
  split
  · rename_i j rest hr hj
    rw [hr, hj] at h
    simp only [State.jobStarted] at h
    split at h <;> exact absurd h (by simp [State.updRamp, State.setRamp])
  · rename_i hn
    cases hj : s.jobs with
    | nil => rfl
    | cons j rest =>
      rw [hj] at h
      cases hr : s.rcu with
      | idle => exact absurd hj (hn j rest hr)
      | busy x => rw [hr] at h; exact absurd (h.symm.trans hr) (by simp)

@[simp] theorem State.startJob_keeps (s : State) :
    s.startJob.pending = s.pending ∧ s.startJob.handed = s.handed ∧ s.startJob.freeCount = s.freeCount ∧
    s.startJob.ownAddress = s.ownAddress ∧ s.startJob.linkUp = s.linkUp ∧ s.startJob.awaitingGap = s.awaitingGap ∧
    s.startJob.txHold = s.txHold ∧ s.startJob.forward = s.forward ∧ s.startJob.urgent = s.urgent ∧
    s.startJob.normal = s.normal ∧ s.startJob.forwardDropped = s.forwardDropped ∧
    s.startJob.urgentDropped = s.urgentDropped ∧ s.startJob.normalDropped = s.normalDropped ∧
    s.startJob.waitCount = s.waitCount ∧ s.startJob.line = s.line ∧ s.startJob.sequence = s.sequence ∧
    s.startJob.site = s.site ∧ s.startJob.limits = s.limits ∧ s.startJob.detectors = s.detectors ∧
    s.startJob.stations = s.stations ∧ s.startJob.lastSources = s.lastSources ∧
    s.startJob.plans = s.plans ∧ s.startJob.jobs = s.jobs := by
  obtain h | ⟨j, rest, -, -, h⟩ := s.startJob_cases <;> rw [h] <;> simp

/-- A ramp after a job's start is the ramp but for its share record. -/
theorem State.startJob_ramp (s : State) (k : Fin 4) :
    s.startJob.ramp k = { s.ramp k with share := (s.startJob.ramp k).share } := by
  obtain h | ⟨j, rest, -, -, h⟩ := s.startJob_cases
  · rw [h]
  · rw [h]
    simp only [State.ramp, Four.get_set]
    split
    · subst k
      split <;> rfl
    · rfl

/-! ## The start of a frame -/

/-- The start of a frame does nothing, or takes the head of one queue to the line. -/
theorem State.startFrame_cases (s : State) :
    s.startFrame = s ∨
    (∃ o rest, s.normal = o :: rest ∧ s.startFrame = { s with line := some o, normal := rest, waitCount := 0 }) ∨
    (∃ f rest, s.urgent = f :: rest ∧ s.startFrame = { s with line := some ⟨f, false⟩, urgent := rest }) ∨
    (∃ f rest, s.forward = f :: rest ∧ (s.waitCount ≠ 4 ∨ s.normal = []) ∧ s.startFrame = { s with
      line := some ⟨f, false⟩, forward := rest
      waitCount := if s.normal.isEmpty then s.waitCount else s.waitCount + 1 }) := by
  have hnormal : s.startNormal = s ∨ ∃ o rest, s.normal = o :: rest ∧
      s.startNormal = { s with line := some o, normal := rest, waitCount := 0 } := by
    unfold State.startNormal
    split
    · rename_i o rest h
      exact .inr ⟨o, rest, h, rfl⟩
    · exact .inl rfl
  by_cases h1 : s.mayStart = true
  swap
  · exact .inl (if_neg h1)
  rw [State.startFrame, if_pos h1, State.startChosen]
  by_cases h2 : s.waitCount = 4 ∧ s.normal.isEmpty = false
  · rw [if_pos h2]
    exact hnormal.imp id .inl
  · rw [if_neg h2]
    simp only [State.startUrgent]
    split
    · rename_i f rest h
      exact .inr (.inr (.inl ⟨f, rest, h, rfl⟩))
    · simp only [State.startForward]
      split
      · rename_i f rest h
        refine .inr (.inr (.inr ⟨f, rest, h, ?_, rfl⟩))
        by_contra hc
        rw [not_or, not_not] at hc
        exact h2 ⟨hc.1, by simpa using hc.2⟩
      · exact hnormal.imp id .inl

/-- A frame's start leaves none due. -/
theorem State.startFrame_rests (s : State) : s.startFrame.mayStart = false := by
  by_cases hm : s.mayStart = true
  · have hl : ∀ t : State, t.line.isSome = true → t.mayStart = false := fun t h => by
      simp [State.mayStart, Option.isNone_eq_false_iff.mpr h]
    apply hl
    have hq : s.queued = true := by
      simp only [State.mayStart, Bool.and_eq_true] at hm
      exact hm.2
    simp only [State.startFrame, hm, if_true, State.startChosen]
    cases hn : s.normal <;> cases hu : s.urgent <;> cases hf : s.forward <;>
      simp_all [State.startUrgent, State.startForward, State.startNormal, State.queued] <;> split <;> rfl
  · rw [State.startFrame, if_neg hm]
    simpa using hm

@[simp] theorem State.startFrame_keeps (s : State) :
    s.startFrame.pending = s.pending ∧ s.startFrame.handed = s.handed ∧ s.startFrame.freeCount = s.freeCount ∧
    s.startFrame.ownAddress = s.ownAddress ∧ s.startFrame.linkUp = s.linkUp ∧
    s.startFrame.awaitingGap = s.awaitingGap ∧ s.startFrame.txHold = s.txHold ∧
    s.startFrame.forwardDropped = s.forwardDropped ∧ s.startFrame.urgentDropped = s.urgentDropped ∧
    s.startFrame.normalDropped = s.normalDropped ∧ s.startFrame.sequence = s.sequence ∧
    s.startFrame.site = s.site ∧ s.startFrame.limits = s.limits ∧ s.startFrame.detectors = s.detectors ∧
    s.startFrame.stations = s.stations ∧
    s.startFrame.lastSources = s.lastSources ∧ s.startFrame.plans = s.plans ∧ s.startFrame.jobs = s.jobs ∧
    s.startFrame.rcu = s.rcu ∧ s.startFrame.ramps = s.ramps := by
  obtain h | ⟨o, rest, -, h⟩ | ⟨f, rest, -, h⟩ | ⟨f, rest, -, -, h⟩ := s.startFrame_cases <;> rw [h] <;> simp

/-- No queue grows at a frame's start, and the wait count stays within 4. -/
theorem State.startFrame_bounds (s : State) :
    s.startFrame.forward.length ≤ s.forward.length ∧ s.startFrame.urgent.length ≤ s.urgent.length ∧
    s.startFrame.normal.length ≤ s.normal.length ∧ (s.waitCount ≤ 4 → s.startFrame.waitCount ≤ 4) := by
  obtain h | ⟨o, rest, hq, h⟩ | ⟨f, rest, hq, h⟩ | ⟨f, rest, hq, hw, h⟩ := s.startFrame_cases <;> rw [h]
  · simp
  · simp [hq]
  · simp [hq]
  · simp only [hq, List.length_cons, le_refl, true_and]
    refine ⟨by omega, fun h4 => ?_⟩
    split
    · exact h4
    · rename_i hn
      have : s.waitCount ≠ 4 := hw.resolve_right (by simpa using hn)
      omega

/-! ## Both -/

@[simp] theorem State.withStarts_keeps (s : State) :
    s.withStarts.pending = s.pending ∧ s.withStarts.handed = s.handed ∧ s.withStarts.freeCount = s.freeCount ∧
    s.withStarts.ownAddress = s.ownAddress ∧ s.withStarts.linkUp = s.linkUp ∧
    s.withStarts.awaitingGap = s.awaitingGap ∧ s.withStarts.txHold = s.txHold ∧
    s.withStarts.forwardDropped = s.forwardDropped ∧ s.withStarts.urgentDropped = s.urgentDropped ∧
    s.withStarts.normalDropped = s.normalDropped ∧ s.withStarts.sequence = s.sequence ∧
    s.withStarts.site = s.site ∧ s.withStarts.limits = s.limits ∧ s.withStarts.detectors = s.detectors ∧
    s.withStarts.stations = s.stations ∧
    s.withStarts.lastSources = s.lastSources ∧ s.withStarts.plans = s.plans ∧ s.withStarts.jobs = s.jobs := by
  simp [State.withStarts]

/-- A ramp after the starts is the ramp but for its share record. -/
theorem State.withStarts_ramp (s : State) (k : Fin 4) :
    s.withStarts.ramp k = { s.ramp k with share := (s.withStarts.ramp k).share } := by
  have h : s.withStarts.ramp k = s.startJob.ramp k := by simp [State.withStarts, State.ramp]
  rw [h]
  exact s.startJob_ramp k

/-- No start is due after the starts of an event. -/
theorem State.withStarts_rests (s : State) :
    (s.withStarts.rcu = .idle → s.withStarts.jobs = []) ∧ s.withStarts.mayStart = false := by
  refine ⟨fun h => ?_, s.startJob.startFrame_rests⟩
  have hr : s.withStarts.rcu = s.startJob.rcu := by simp [State.withStarts]
  have hj : s.withStarts.jobs = s.startJob.jobs := by simp [State.withStarts]
  rw [hj]
  exact s.startJob_rests (hr ▸ h)

end Sys2Proof.Machine
end

