-- ==== Sys2Proof/Tests/Slice0.lean ====
section
/-! SUPPORT. Tests: the smoke test of each well-formedness check, steps whose expected results stand in the manual's worked
sequences and rules, and for each statement with hypotheses concrete witnesses that meet them. -/

namespace Sys2Proof.Tests

open Sys2Proof Sys2Proof.Machine

/-! ## Small states -/

/-- The next state that a command leads to. -/
def after (c : Instr) (s : State) : State :=
  match exec c s with
  | .next t => t
  | _ => s

/-- The state after some commands. -/
def afterAll (cs : List Instr) (s : State) : State := cs.foldl (fun s c => after c s) s

/-- The next state of one step. -/
def stepped (s : State) : State :=
  match step s with
  | .next t => t
  | _ => s

/-- A request about a subject. -/
def ask (subject : Nat) : Request := ⟨9, 7, subject⟩

/-- Plan 4 of 05_rate_computation.md 5.6, as a PLAN WRITE carries it. -/
def planRecord : PlanRecord :=
  { rMin := 600, rMax := 1800, rInit := 1200, target := 1800, gain := 40, capacity := 5600, stepLimit := 200,
    queueThreshold := 4000, queueBoost := 400, occCeiling := 6000, flowCeiling := 9000, weight := 8, green := 12,
    amber := 0, minRed := 20, grace := 5, size := 1, rounding := 0, gating := 1, leveling := 2, starvationLimit := 2,
    spillTime := 3, flushPeriod := 25, fallbackPeriod := 60, recoveryIntervals := 3, mask := 3 }

/-- The plan of that record. -/
def plan : Plan := planOf planRecord

/-- The timings of 08_release_clock_and_lane_cycles.md 8.8. -/
def guardPlan : Plan := planOf { planRecord with green := 10, amber := 3 }

/-- A configuration record: two lanes on head driver 52. -/
def configRecord : ConfigRecord :=
  { lanesUsed := 2, interval := 30, offAspect := 0, holdMode := 1, headTimeout := 30, warning := 10, clear := 5,
    lane0 := ⟨52, 0, 20, 0, 13, 1⟩, lane1 := ⟨52, 1, 21, 0, 0xFF, 0⟩, lane2 := ⟨0, 0, 0, 0, 0, 0⟩ }

/-- A lane in a cycle state, open, with demand and the timings of 8.8. -/
def laneIn (c : LaneCycle) : Lane :=
  { Lane.reset with cycle := c, demand := true, timings := some ⟨10, 3, 5, 1⟩, minRed := some 20 }

/-- A head told an aspect. -/
def headAt (a : Aspect) : Head := ⟨some a, 20, none, some 30, .none, none⟩

/-- A ramp that meters with two lanes READY, its clock running a period of 40 ds. -/
def meteringRamp : Ramp :=
  { Ramp.reset false with
    stack := [4], config := some (configOf configRecord), state := .metering, intervalTimer := some 30,
    rPrev := some 1320, clock := ⟨.running 40, false, false, some 40, none, none, some 40⟩,
    lanes := ⟨laneIn .ready, laneIn .ready, .reset⟩, waitOrder := [0, 1], pointer := 1,
    heads := ⟨some (headAt .red), some (headAt .red), none⟩ }

/-- A detector entry of ramp 1. -/
def entry (station channel : Nat) (role : Role) : Detector := .fresh ⟨station, channel, role, 1, none, 64, false⟩

/-- A station that is LIVE. -/
def station : Station := ⟨true, .all false, some 3⟩

/-- A part with own address 5, plan 4, stations 21 and 22 and ramp 1 as given; its transmission is held, so that what an
event offers stands in the queues. -/
def part (r : Ramp) : State :=
  { State.reset with
    ownAddress := 5, linkUp := true, awaitingGap := false, txHold := true, plans := ⟨[(4, plan)]⟩,
    detectors := ⟨[(12, entry 21 3 .spill), (13, entry 21 4 .passage), (20, entry 22 0 .demand),
      (21, entry 22 1 .demand)]⟩,
    stations := ⟨[(21, station), (22, station)]⟩, lastSources := ⟨[(12, 12)]⟩, ramps := State.reset.ramps.set 1 r }

/-- The part with ramp 1 metering. -/
def metering : State := part meteringRamp

/-- Ramp 1 in another state. -/
def rampIn (st : RampState) : State := part { meteringRamp with state := st }

/-- Ramp 1 DARK and configured. -/
def darkRamp : Ramp :=
  { Ramp.reset false with stack := [4], config := some (configOf configRecord), heads := ⟨some (headAt .dark), some (headAt .dark), none⟩ }

/-- The part with ramp 1 DARK. -/
def dark : State := part darkRamp

/-- The release clock of ramp 1. -/
def clockOf (s : State) : Clock := (s.ramp 1).clock

/-- A frame addressed to the part. -/
def frameTo (dst kind : Nat) (payload : List Byte) : Frame := mkFrame dst 9 kind 3 payload

/-! ## Well-formedness: each check refuses an ill-formed term -/

theorem test_wf_straps : (Instr.hardReset 128 true).wf = false ∧ (Instr.hardReset 127 true).wf = true := by decide
theorem test_wf_request_source : (Instr.identify ⟨0, 1, 0⟩).wf = false ∧ (Instr.identify ⟨127, 1, 0⟩).wf = false ∧
    (Instr.identify ⟨126, 255, 255⟩).wf = true := by decide
theorem test_wf_request_tag : (Instr.siteRead ⟨9, 256, 0⟩).wf = false := by decide
theorem test_wf_request_subject : (Instr.start ⟨9, 0, 256⟩).wf = false := by decide
theorem test_wf_scan : (Instr.scanFrame 0 1000 1 []).wf = false ∧ (Instr.scanFrame 21 65536 1 []).wf = false ∧
    (Instr.scanFrame 21 1000 256 []).wf = false ∧ (Instr.scanFrame 21 1000 1 [⟨0, 0, 0, 65536⟩]).wf = false ∧
    (Instr.scanFrame 21 1000 1 (List.replicate 11 ⟨0, 0, 0, 0⟩)).wf = false := by decide
theorem test_wf_head_status : (Instr.headStatus 256 52 1 []).wf = false ∧
    (Instr.headStatus 5 52 1 [⟨256, 0, 0⟩]).wf = false := by decide
theorem test_wf_payload : (Instr.requestFormatReject 9 7 (List.replicate 57 0)).wf = false := by decide
theorem test_wf_records : (Instr.siteWrite (ask 0) ⟨256, 20, 10⟩).wf = false ∧
    (Instr.healthLimitsWrite (ask 0) ⟨120, 256, 3, 600, 3, 5, 4⟩).wf = false ∧
    (Instr.planWrite (ask 0) { planRecord with rMin := 65536 }).wf = false ∧
    (Instr.rampConfigWrite (ask 1) { configRecord with clear := 256 }).wf = false := by decide
theorem test_wf_detector_count : (Instr.detectorWrite (ask 0) []).wf = false ∧
    (Instr.detectorWrite (ask 0) (List.replicate 5 ⟨0, 0, 0, 0, 0, 0, 0⟩)).wf = false ∧
    (Instr.detectorRead (ask 0) 256 0).wf = false := by decide
theorem test_wf_numbers : (Instr.push (ask 1) 256).wf = false ∧ (Instr.laneClose (ask 1) 256).wf = false ∧
    (Instr.share (ask 1) 65536 3).wf = false ∧ (Instr.stationTimerExpiry 0).wf = false := by decide

/-! ## Frames -/

/-- The published check value of the CRC that R159 defines (generator 0x1021, initial value all ones): the
nine digits "123456789" give 0x29B1. PRESUMED: the value is the CRC's, not the manual's. -/
theorem test_crc : crc [0x31, 0x32, 0x33, 0x34, 0x35, 0x36, 0x37, 0x38, 0x39] = 0x29B1#16 := by decide +kernel

/-- R178, R159: an IDENTIFY request of node 9 to node 5, byte by byte before its check word. -/
theorem test_frame_bytes : (mkFrame 5 9 0x40 3 [0x01, 0x00]).take 7 =
    [0x05#8, 0x09#8, 0x40#8, 0x03#8, 0x02#8, 0x01#8, 0x00#8] := by decide

/-- R160, R178: that frame hands IDENTIFY on, and is not forwarded. -/
theorem test_frame_received : (after (.frameReceived (frameTo 5 0x40 [0x01, 0x00])) metering).handed =
    [.identify ⟨9, 3, 0⟩] ∧
    (after (.frameReceived (frameTo 5 0x40 [0x01, 0x00])) metering).forward = [] := by decide +kernel

/-- R160: a broadcast SCAN frame is acted on and forwarded. -/
theorem test_scan_forwarded :
    let s := after (.frameReceived (frameTo 127 0x21 [0x03, 0xE8, 0x01, 0x03, 1, 2, 0x01, 0x90])) metering
    s.handed = [.scanFrame 9 1000 1 [⟨3, 1, 2, 400⟩]] ∧ s.forward.length = 1 := by decide +kernel

/-- R159: a wrong check word. -/
theorem test_frame_discarded : after (.frameReceived ((frameTo 5 0x40 [0x01, 0x00]).dropLast ++ [0#8])) metering =
    metering := by decide +kernel

/-- R181, R178: a PLAN WRITE's frame reads back. -/
theorem test_plan_frame : ((Instr.planWrite ⟨9, 7, 4⟩ planRecord).requestFrame 5).map (handOn 5) =
    some (some (.planWrite ⟨9, 7, 4⟩ planRecord)) := by decide

/-! ## Resets, pins, line -/

/-- R157: straps of 0 and 127 are taken as 126. -/
theorem test_own_address : (after (.hardReset 0 true) metering).ownAddress = 126 ∧
    (after (.hardReset 1 true) metering).ownAddress = 1 ∧ (after (.hardReset 126 true) metering).ownAddress = 126 ∧
    (after (.hardReset 127 true) metering).ownAddress = 126 := by decide

/-- R158: a lost signal. -/
theorem test_signal_lost : (after .linkSignalLost metering).linkUp = false ∧
    (after .linkSignalRegained (after .linkSignalLost metering)).urgent.length = 2 := by decide

/-- 10.8: the held transmitter as frame F3 finds it: H1 goes first, then F1 with the wait count at 4, then N1, then F2. -/
def heldTransmitter : State :=
  { metering with forward := [[1], [2], [3]], urgent := [[9]], normal := [⟨[7], false⟩], waitCount := 3 }
theorem test_held_transmitter :
    let s1 := after .txholdDeasserted heldTransmitter
    let s2 := after .transmitEnd s1
    let s3 := after .transmitEnd s2
    let s4 := after .transmitEnd s3
    (s1.line, s1.waitCount) = (some ⟨[9], false⟩, 3) ∧ (s2.line, s2.waitCount) = (some ⟨[1], false⟩, 4) ∧
    (s3.line, s3.waitCount) = (some ⟨[7], false⟩, 0) ∧ (s4.line, s4.waitCount) = (some ⟨[2], false⟩, 0) := by
  decide

/-- R162, R163: a frame starts in the event that lets it, before the next command: an offer on a free line that is not held,
and a hold that ends and begins again. -/
theorem test_starts_at_once :
    (after (.identify (ask 0)) { metering with txHold := false }).line.isSome = true ∧
    (afterAll [.txholdDeasserted, .txholdAsserted] heldTransmitter).line = some ⟨[9], false⟩ := by decide

/-- R166: the ring reset takes effect at the end of the reset reply; of the two heads it offers, one starts at once. -/
theorem test_ring_reset :
    let s := afterAll [.ringReset (ask 0), .txholdDeasserted, .transmitEnd] metering
    (s.ramp 1).state = .dark ∧ (s.ramp 1).stack = [4] ∧ s.sequence = 0 ∧ s.urgent.length = 1 := by decide
theorem test_ring_reset_effect : after .ringResetEffect metering = metering := by decide

/-- R158: frames count from the first idle gap. -/
theorem test_first_gap : (after .firstIdleGap { metering with awaitingGap := true }).awaitingGap = false := by
  decide

/-! ## Requests -/

/-- R168: an unknown code. -/
theorem test_unknown_code : requestCommand 9 7 [0x77, 0] = .requestFormatReject 9 7 [0x77, 0] ∧
    bodyLength 0x77 [] = none := by decide
/-- R42, R169: a PUSH of a wrong length is answered with the stack of its ramp, one of a subject above 3 without a body. -/
theorem test_format_reject_stack :
    metering.formatBody [0x22#8, 1#8] = [1#8, 4#8, 0#8, 0#8, 0#8] ∧ metering.formatBody [0x23#8, 1#8, 0#8] ≠ [] ∧
    metering.formatBody [0x24#8, 4#8] = [] ∧ metering.formatBody [0x25#8, 1#8] = [] ∧
    metering.formatBody [0x22#8] = [] ∧ requestCommand 9 7 [0x22#8, 1#8] = .requestFormatReject 9 7 [0x22#8, 1#8] := by
  decide

theorem test_format_reject : ((after (.requestFormatReject 9 7 [0x77, 0]) metering).normal.map
    (fun o => o.frame.take 7)) = [[9, 5, 0x41, 7, 2, 0x77, 2]] := by decide

/-- R170: the identity. -/
theorem test_identify : ((after (.identify (ask 0)) metering).normal.map (fun o => o.frame.take 19)) =
    [[9, 5, 0x41, 7, 14, 0x01, 0, 0x48, 9, 112, 1, 4, 3, 64, 24, 16, 4, 5, 127]] := by decide

/-- R171, R22: ranges at their ends. -/
theorem test_site_write : (after (.siteWrite (ask 0) ⟨127, 5, 50⟩) metering).site = ⟨127, 5, 50⟩ ∧
    (after (.siteWrite (ask 0) ⟨127, 4, 50⟩) metering).site = metering.site := by decide
theorem test_site_read : ((after (.siteRead (ask 0)) metering).normal.map (fun o => (o.frame.drop 5).take 5)) =
    [[0x03, 0, 127, 20, 10]] := by decide
theorem test_limits_write : (after (.healthLimitsWrite (ask 0) ⟨600, 2, 30, 100, 15, 0, 20⟩) metering).limits =
    ⟨600, 2, 30, 100, 15, 0, 20⟩ := by decide
theorem test_limits_read : ((after (.healthLimitsRead (ask 0)) metering).normal.map (fun o => (o.frame.drop 5).take 11)) =
    [[0x05, 0, 0, 120, 6, 3, 2, 88, 3, 5, 4]] := by decide

/-- R172: a write with i = 6 and count 4 takes entries 6 and 7 and is answered PARTIAL with 2. -/
theorem test_detector_write_cut :
    let s := after (.detectorWrite (ask 6) (List.replicate 4 ⟨1, 23, 0, 0, 1, 0, 64⟩)) metering
    (s.detector 7).isSome = true ∧ (s.detector 8).isSome = false ∧
    s.normal.map (fun o => (o.frame.drop 5).take 3) = [[0x10, 1, 2]] := by decide +kernel
theorem test_detector_read : ((after (.detectorRead (ask 15) 1 1) metering).normal.map
    (fun o => (o.frame.drop 5).take 10)) = [[0x11, 0, 1, 1, 255, 255, 255, 255, 255, 255]] := by decide
theorem test_force_out_restore :
    let s := after (.forceOut (ask 12)) metering
    (s.detector 12).map (fun d => d.health) = some .forcedOut ∧
    ((after (.restore (ask 12)) s).detector 12).map (fun d => d.health) = some .good ∧ s.normal.length = 2 := by
  decide

/-- R40: the lowest failing field. -/
theorem test_plan_write : planFault { planRecord with rMax := 599, size := 3 } = some 2 ∧
    (after (.planWrite (ask 4) { planRecord with size := 3 }) metering).plans = metering.plans ∧
    ((after (.planWrite (ask 15) planRecord) metering).plans.get 15) = some plan := by decide
theorem test_plan_read : ((after (.planRead (ask 4)) metering).normal.map (fun o => (o.frame.drop 5).take 8)) =
    [[0x21, 0, 2, 88, 7, 8, 4, 176]] := by decide

/-- 3.5: pushes, the base, pops, and STACK at both ends. -/
theorem test_stack :
    let s := afterAll [.push (ask 1) 4, .push (ask 1) 4, .push (ask 1) 7, .push (ask 1) 4] metering
    (s.ramp 1).stack = [4, 4, 4, 4] ∧ (s.ramp 1).sticky.stack = false ∧
    ((after (.push (ask 1) 4) s).ramp 1).sticky.stack = true ∧
    ((after (.pop (ask 1)) s).ramp 1).stack = [4, 4, 4] := by decide +kernel
theorem test_pop_last :
    let s := after (.pop (ask 1)) metering
    (s.ramp 1).stack = [4] ∧ (s.ramp 1).last.stack = true ∧ (s.ramp 1).faultPending = false := by decide
theorem test_set_base : ((after (.setBase (ask 1) 4) (part { meteringRamp with stack := [0, 4] })).ramp 1).stack =
    [4, 4] := by decide

/-- R106: a head named twice is counted against the later lane's driver field. -/
theorem test_config_write : dark.configFault 1 { configRecord with lane1 := ⟨52, 0, 21, 0, 0xFF, 0⟩ } = some 14 ∧
    ((after (.rampConfigWrite (ask 1) configRecord) dark).ramp 1).config = some (configOf configRecord) ∧
    (after (.rampConfigWrite (ask 1) configRecord) dark).urgent.length = 2 := by decide
theorem test_config_read : ((after (.rampConfigRead (ask 1)) dark).normal.map (fun o => (o.frame.drop 5).take 5)) =
    [[0x31, 0, 2, 30, 0]] := by decide

/-- 7.8: a latched interlock during start-up. -/
theorem test_latched_start :
    let s := afterAll [.start (ask 1), .rampHoldInputAsserted 1, .rampHoldInputDeasserted 1,
      .hold (ask 1)] dark
    (s.ramp 1).state = .suspended .starting ∧ (s.ramp 1).inputHold = true ∧ (s.ramp 1).warningTimer = none ∧
    ((after (.release (ask 1)) s).ramp 1).state = .metering := by decide +kernel
theorem test_hold_metering :
    let s := after (.hold (ask 1))
      (part { meteringRamp with lanes := ⟨laneIn (.green 10), laneIn (.red 20), .reset⟩ })
    (s.ramp 1).state = .suspended .metering ∧ ((s.ramp 1).lane 0).cycle = .amber 3 ∧ (clockOf s).frozen = true := by
  decide
theorem test_stop :
    let s := after (.stop (ask 1)) metering
    (s.ramp 1).state = .clearing ∧ (s.ramp 1).clearTimer = some 5 ∧ (s.ramp 1).target 0 = .green ∧
    ((after (.clearTimerExpiry 1) s).ramp 1).state = .dark := by decide

/-- 6.8: after a withheld job RESUME stages the period of r_init 1200, 30 ds. -/
theorem test_resume :
    let s := after (.resume (ask 1))
      (part { meteringRamp with state := .fallback, lastResult := .withheld })
    (clockOf s).staged = some ⟨30, .returning⟩ ∧ (s.ramp 1).faultPending = false := by decide
theorem test_lane_close : (((after (.laneClose (ask 1) 0) metering).ramp 1).lane 0).isOpen = false ∧
    ((after (.laneClose (ask 1) 1) (after (.laneClose (ask 1) 0) metering)).ramp 1).state = .metering := by
  decide
theorem test_lane_open :
    let s := after (.laneOpen (ask 1) 0) (after (.laneClose (ask 1) 0) metering)
    ((s.ramp 1).lane 0).cycle = .red 20 ∧ ((s.ramp 1).lane 0).isOpen = true := by decide

/-- R118: a reduction above 5400 is stored as 5400. -/
theorem test_share : ((after (.share (ask 1) 5401 15) metering).ramp 1).share = some ⟨5400, 15, false⟩ := by
  decide
theorem test_status_read : ((after (.statusRead (ask 1)) metering).normal.map (fun o => (o.frame.drop 5).take 10)) =
    [[0x40, 0, 2, 255, 0, 0, 0, 0, 0, 0]] := by decide
theorem test_status_clear : ((after (.statusClear (ask 1)) (part { meteringRamp with sticky := .onlyStack, faultPending := true })).ramp 1).sticky =
    .none := by decide
theorem test_context_dump : ((after (.contextDump (ask 1)) (part { meteringRamp with share := some ⟨300, 3, false⟩ })).normal.map
    (fun o => (o.frame.drop 5).take 9)) = [[0x42, 0, 5, 40, 0, 0, 0, 0, 40]] := by decide

/-- A context to load. -/
def context : ContextRecord :=
  { rPrev := 3100, stagedPeriod := 0, stagedMark := 0, activePeriod := 0, bits := 0, sticky := 1, last := 16,
    recovery := 15, stackCount := 1, stack0 := 4, stack1 := 0, stack2 := 0, stack3 := 0, reduction := 65535,
    lifetime := 15, wait0 := 0, wait1 := 0, wait2 := 0, starvation0 := 15, starvation1 := 0, starvation2 := 0,
    pointer := 2 }
/-- R174, R101, R118: the load clamps the reduction and judges the sticky flags (MISS is UNMASKED). -/
theorem test_context_load :
    let s := after (.contextLoad (ask 1) context) dark
    (s.ramp 1).carriedRate = some 3100 ∧ (s.ramp 1).share = some ⟨5400, 15, false⟩ ∧
    (s.ramp 1).startFault.isSome = true ∧ ((s.ramp 1).lane 0).starvation = 15 := by decide
theorem test_ring_status :
    let s := after (.ringStatus (ask 0)) { metering with urgentDropped := true, forward := [[1]] }
    s.urgentDropped = false ∧ s.normal.map (fun o => (o.frame.drop 5).take 8) = [[0x50, 0, 1, 0, 0, 2, 1, 1]] := by
  decide

/-! ## Detectors and the close -/

/-- 1.6: frames 1 to 4 of the worked sequence: runs 3400 / 0, one departure, spill asserted. -/
def scan21 (p a t p' a' t' : Nat) : Instr := .scanFrame 21 1000 2 [⟨3, p, a, t⟩, ⟨4, p', a', t'⟩]
theorem test_spill :
    let s := afterAll [scan21 1 1 400 1 1 300, scan21 1 0 1000 0 0 600, scan21 1 0 1000 0 0 0] metering
    (s.ramp 1).spill = false ∧ ((after (scan21 1 0 1000 0 0 0) s).ramp 1).spill = true ∧
    ((after (scan21 1 0 1000 0 0 0) s).detector 12).map (fun d => (d.presenceRun, d.absenceRun, d.span)) =
      some (3400, 0, 4000) := by decide +kernel
theorem test_departure :
    let s := after (scan21 1 1 400 1 1 300) metering
    ((s.ramp 1).lane 0).violations = 0 ∧ (((after (scan21 1 0 1000 0 0 600) s).ramp 1).lane 0).violations = 1 := by
  decide +kernel
/-- R8: the station goes SILENT, and its lanes' demand reads present. -/
theorem test_station_silent :
    let s := after (.stationTimerExpiry 22)
      (part { meteringRamp with lanes := ⟨{ laneIn .ready with demand := false }, laneIn .ready, .reset⟩ })
    (s.stations.get 22) = some ⟨false, .all true, none⟩ ∧ ((s.ramp 1).lane 0).demand = true := by decide

/-- A SPILL entry whose presence run has reached the spill time, with entry 13 as its substitute. -/
def longSpill : Detector := { entry 21 3 .spill with presenceRun := 5000, config := ⟨21, 3, .spill, 1, some 13, 64, false⟩ }
/-- R20: a write of a substitute that is no source evaluates no spill; an expiry that takes the source away clears it. -/
theorem test_spill_source :
    let s := { metering with detectors := metering.detectors.insert 12 longSpill }
    let t := part { meteringRamp with spill := true }
    ((after (.detectorWrite (ask 13) [⟨1, 21, 4, 6, 1, 0, 64⟩]) s).ramp 1).spill = false ∧
    ((after (scan21 1 0 1000 0 0 1000) s).ramp 1).spill = true ∧
    ((after (.stationTimerExpiry 22) t).ramp 1).spill = true ∧
    ((after (.stationTimerExpiry 21) t).ramp 1).spill = false := by decide +kernel

/-- R17, R20, R30: a FORCE OUT of a SPILL entry takes effect in spill at the next expiry that concerns the entry. -/
theorem test_spill_after_force_out :
    let s := after (.forceOut (ask 12)) (part { meteringRamp with spill := true })
    (s.ramp 1).spill = true ∧ ((after (.stationTimerExpiry 22) s).ramp 1).spill = true ∧
    ((after (.stationTimerExpiry 21) s).ramp 1).spill = false := by decide +kernel

/-- R17, R20, R31: a RESTORE of one takes effect at the next write of its substitute, here disabled over disabled
(log 34). -/
theorem test_spill_after_restore :
    let d : Detector := { longSpill with health := .forcedOut, config := { longSpill.config with substitute := some 63 } }
    let s := { metering with detectors := metering.detectors.insert 12 d, lastSources := .empty }
    let write : Instr := .detectorWrite (ask 63) [⟨0, 0, 0, 0, 0, 0, 0⟩]
    ((after write s).ramp 1).spill = false ∧ ((after (.restore (ask 12)) s).ramp 1).spill = false ∧
    ((after write (after (.restore (ask 12)) s)).ramp 1).spill = true := by decide +kernel

/-- 4.7: raw and smoothed measures of entries 40, 42 and 46. -/
theorem test_measures : rawMeasure 11 6396 29750 = some ⟨1331, 2150⟩ ∧ rawMeasure 2 0 9000 = some ⟨800, 0⟩ ∧
    smoothValue 8 1290 1331 = 1311 ∧ smoothValue 8 2030 2150 = 2090 ∧ smoothValue 8 1534 1440 = 1487 := by
  decide
/-- 2.9, 4.7: scaled substitutes 1375 by 58 and 1560 by 60. -/
theorem test_scaled : scaledValue 58 1375 = 1246 ∧ scaledValue 60 1560 = 1463 ∧ meanHalfUp [1487, 1560] = 1524 := by
  decide
/-- R55, R65: the close restarts the timer and appends the job. -/
theorem test_interval_close :
    let s := after (.intervalClose 1) metering
    s.jobs.length = 1 ∧ (s.ramp 1).intervalTimer = some 30 ∧ (after (.intervalClose 1) s).jobs.length = 1 ∧
    ((after (.intervalClose 1) s).ramp 1).overrun = true := by decide

/-! ## Jobs -/

/-- 5.6: the close record of the worked case. -/
def closeCase (qocc : Nat) : CloseRecord := ⟨some 2150, some 4510, some 1460, some qocc, false⟩
/-- 5.6: the part with that job waiting. -/
def jobCase : State :=
  { part { meteringRamp with share := some ⟨300, 3, false⟩ } with jobs := [⟨1, .interval (closeCase 3100)⟩] }
theorem test_job :
    let s := after .intervalJobCompletion (after .jobStart jobCase)
    (s.ramp 1).rPrev = some 1120 ∧ (clockOf s).staged = some ⟨32, .computed⟩ ∧
    (s.ramp 1).share.map (fun x => x.lifetime) = some 2 ∧ (s.ramp 1).last = { Flags.none with round := true } := by
  decide
/-- 5.6 with a queue: 1800 veh/h, 20 ds, HIGH. -/
theorem test_job_queue : computeInterval ⟨4, plan, some 300, some 1320, 2⟩ (closeCase 4200) =
    ⟨{ Flags.none with high := true }, 1800, 20⟩ := by decide
/-- 5.7: jobs A and B under plan 9. -/
def plan9 : Plan := planOf { planRecord with
  rMin := 900, rMax := 2400, rInit := 1500, target := 2000, gain := 60, capacity := 0, stepLimit := 0,
  queueThreshold := 0, occCeiling := 5000, flowCeiling := 8000, green := 20, amber := 5, minRed := 40, size := 2,
  rounding := 2, mask := 1 }
theorem test_job_plan_change :
    computeInterval ⟨9, plan9, some 500, some 2600, 1⟩ ⟨some 5200, some 3900, none, some 1800, false⟩ =
      ⟨{ Flags.none with impl := true, high := true }, 2400, 65⟩ ∧
    computeInterval ⟨9, plan9, some 500, some 2400, 1⟩ ⟨some 2600, some 4100, none, some 1700, false⟩ =
      ⟨{ Flags.none with miss := true, round := true, high := true }, 2040, 65⟩ := by decide
/-- R90: the carried rate 3100 is clamped to 1800, giving 20 ds and HIGH. -/
theorem test_start_job : computeStart ⟨4, plan, none, none, 2⟩ (some 3100) =
    ⟨{ Flags.none with high := true }, 1800, 20⟩ := by decide +kernel
theorem test_start_job_delivers :
    let s := afterAll [.start (ask 1), .jobStart, .startJobCompletion] dark
    (clockOf s).staged = some ⟨30, .computed⟩ ∧ (s.ramp 1).rPrev = some 1200 := by decide

/-! ## Release and lanes -/

/-- 8.8, time 0: the first lane in the wait order is served, the other is passed over. -/
theorem test_release_due :
    let s := after (.releaseDue 1) metering
    ((s.ramp 1).lane 0).cycle = .green 12 ∧ ((s.ramp 1).lane 1).starvation = 1 ∧ (s.ramp 1).waitOrder = [1] ∧
    (s.ramp 1).pointer = 0 ∧ (clockOf s).state = .running 40 := by decide
/-- 8.8, time 80: lane 1 at its starvation limit is served first. -/
theorem test_starved : (Ramp.pick { meteringRamp with
      pointer := 0, clock := { meteringRamp.clock with state := .due },
      lanes := ⟨laneIn .ready, { laneIn .ready with starvation := 2 }, .reset⟩ } guardPlan).pointer = 1 := by
  decide
/-- 6.8, event 2: the release due takes the pending fault, at the fallback period of 60 ds. -/
theorem test_fault_taken :
    let s := after (.releaseDue 1) (part { meteringRamp with faultPending := true })
    (s.ramp 1).state = .fallback ∧ (clockOf s).active = some 60 ∧ (s.ramp 1).faultPending = false := by
  decide
/-- 8.8, times 10, 13 and 33. -/
theorem test_green_end : (((after (.greenEnd 1 0)
    (part { meteringRamp with lanes := ⟨laneIn (.green 10), laneIn .ready, .reset⟩ })).ramp 1).lane 0).cycle =
      .amber 3 := by decide
theorem test_amber_end :
    let x := ((after (.amberEnd 1 0)
      (part { meteringRamp with lanes := ⟨laneIn (.amber 3), laneIn .ready, .reset⟩ })).ramp 1).lane 0
    x.cycle = .red 20 ∧ x.grace = some 5 := by decide
theorem test_red_end :
    let s := after (.redEnd 1 0)
      (part { meteringRamp with lanes := ⟨laneIn (.red 20), laneIn .ready, .reset⟩, waitOrder := [1] })
    ((s.ramp 1).lane 0).cycle = .ready ∧ (s.ramp 1).waitOrder = [1, 0] := by decide
theorem test_grace_end : (((after (.graceTimeExpiry 1 0)
    (part { meteringRamp with lanes := ⟨{ laneIn (.red 20) with grace := some 5 }, laneIn .ready, .reset⟩ })).ramp 1).lane 0).grace =
      none := by decide
/-- R138: a window of two vehicles at size 1 counts served 2 and extra 1. -/
theorem test_passages :
    let x := (laneIn (.green 10)).passages 2
    x.served = 2 ∧ x.extra = 1 ∧ ({ laneIn (.green 10) with timings := some ⟨10, 3, 5, 2⟩ }.passages 2).extra = 0 := by
  decide
/-- R126: at the end of the warning time the lanes enter RED with minimum red 20. -/
theorem test_warning_end :
    let s := after (.warningTimerExpiry 1)
      (part { darkRamp with state := .starting, warningTimer := some 10 })
    (s.ramp 1).state = .metering ∧ ((s.ramp 1).lane 0).cycle = .red 20 ∧ (clockOf s).awaiting = true := by
  decide

/-! ## Heads -/

/-- 9.9, time 15: an amber lamp fault on output 1 disables lane 1 alone. -/
theorem test_lamp_fault :
    let s := after (.headStatus 5 52 2 [⟨0, 1, 0⟩, ⟨1, 1, 2⟩]) metering
    (s.ramp 1).disabled 1 = true ∧ (s.ramp 1).disabled 0 = false ∧ (s.ramp 1).state = .metering ∧
    ((s.ramp 1).head 1).map (fun h => h.sent) = some (some .dark) := by decide +kernel
/-- 9.9, time 23: the confirm time ends in the last lane in service: DARK. -/
theorem test_confirm :
    let s := after (.confirmTimerExpiry 1 0) (part { meteringRamp with
      heads := ⟨some { headAt .red with confirm := some 10 }, some { headAt .dark with disabled := some .lamp }, none⟩ })
    (s.ramp 1).state = .dark ∧ (s.ramp 1).disabled 0 = true ∧ s.normal.length = 2 := by decide +kernel
/-- R143, R150: a disable of a lane already OFF in DARK keeps its starvation count. -/
theorem test_dark_disable :
    let s := after (.confirmTimerExpiry 1 0) (part { darkRamp with
      lanes := ⟨{ Lane.reset with starvation := 7 }, .reset, .reset⟩,
      heads := ⟨some { headAt .dark with confirm := some 10 }, some (headAt .dark), none⟩ })
    (s.ramp 1).disabled 0 = true ∧ ((s.ramp 1).lane 0).starvation = 7 := by decide +kernel
theorem test_red_lamp : ((after (.headStatus 5 52 1 [⟨0, 1, 1⟩]) metering).ramp 1).state = .dark := by decide
theorem test_refresh : (after (.refreshTimerExpiry 1 0) metering).urgent.map (fun f => f.take 8) =
    [[52, 5, 0x30, 0, 3, 0, 1, 40]] := by decide
theorem test_silence :
    let s := after (.silenceTimerExpiry 1 0) metering
    (s.ramp 1).state = .dark ∧ (s.ramp 1).disabled 1 = true ∧ s.normal.length = 3 := by decide +kernel
theorem test_input_hold : ((after (.rampHoldInputAsserted 1) metering).ramp 1).state = .suspended .metering := by
  decide

/-! ## Witnesses: concrete states and operands that meet the hypotheses of the statements, clause by clause -/

/-- The part with ramp 1's lanes in given cycle states. -/
def withLanes (a b : LaneCycle) : State := part { meteringRamp with lanes := ⟨laneIn a, laneIn b, .reset⟩ }

theorem witness_EmptyQueueStep :
    (let s := { metering with handed := [.jobStart] }
     s.pending = [] ∧ s.handed = .jobStart :: []) ∧
    (jobCase.pending = [] ∧ jobCase.handed = [] ∧ jobCase.rcu = .idle ∧ jobCase.jobs ≠ []) ∧
    (let s := { heldTransmitter with txHold := false }
     s.pending = [] ∧ s.handed = [] ∧ s.jobs = [] ∧ s.line = none ∧ s.txHold = false ∧ s.normal ≠ []) ∧
    (let s := heldTransmitter
     s.pending = [] ∧ s.handed = [] ∧ s.jobs = [] ∧ s.txHold = true) := by decide

theorem witness_SettingsChangeByTheirWritersAlone : exec .firstIdleGap metering = .next metering ∧
    (metering.plans.get 4).isSome = true ∧ (metering.ramp 1).config.isSome = true ∧
    (∀ straps signal, Instr.firstIdleGap ≠ .hardReset straps signal) ∧
    (∀ k, Instr.firstIdleGap ≠ .rampHoldInputAsserted k ∧ Instr.firstIdleGap ≠ .rampHoldInputDeasserted k) ∧
    (∀ q rec, Instr.firstIdleGap ≠ .siteWrite q rec) ∧ (∀ q rec, Instr.firstIdleGap ≠ .healthLimitsWrite q rec) ∧
    (∀ q rec, Instr.firstIdleGap ≠ .planWrite q rec) ∧ (∀ q rec, Instr.firstIdleGap ≠ .rampConfigWrite q rec) ∧
    (∀ q entries, Instr.firstIdleGap ≠ .detectorWrite q entries) := by
  refine ⟨rfl, by decide, by decide, ?_, ?_, ?_, ?_, ?_, ?_, ?_⟩ <;> simp

theorem witness_LinkFollowsTheLine : metering.linkUp = true ∧ State.reset.linkUp = false := by decide

theorem witness_TransmitterFollowsItsRules :
    metering.txHold = true ∧
    (let s := { heldTransmitter with txHold := false, waitCount := 4 }
     s.line = none ∧ s.txHold = false ∧ s.normal = ⟨[7], false⟩ :: [] ∧ s.waitCount = 4) ∧
    (let s := { heldTransmitter with txHold := false }
     s.line = none ∧ s.txHold = false ∧ s.urgent = [9] :: [] ∧ s.waitCount ≠ 4) ∧
    (let s := { heldTransmitter with txHold := false, urgent := [] }
     s.line = none ∧ s.txHold = false ∧ s.urgent = [] ∧ s.forward = [1] :: [[2], [3]] ∧ s.waitCount ≠ 4) ∧
    (∀ o, ({ metering with line := some ⟨[7], false⟩ }).line = some o → o.resetReply = false) := by
  refine ⟨by decide, by decide, by decide, by decide, ?_⟩
  intro o h
  cases h
  rfl

theorem witness_RingResetLeaves : ({ metering with line := some ⟨[7], true⟩ }).line = some ⟨[7], true⟩ ∧
    (Outgoing.mk [7] true).resetReply = true := by decide

theorem witness_RingResetIsTaken :
    (({ metering with normal := [⟨[7], true⟩] }).took (.ringReset (ask 0))).normal.any (fun o => o.resetReply) = true ∧
    (({ metering with normal := List.replicate 15 ⟨[7], false⟩ }).took (.ringReset (ask 0))).normal.length < 16 ∧
    ¬(({ metering with normal := List.replicate 16 ⟨[7], false⟩ }).took (.ringReset (ask 0))).normal.length < 16 := by
  decide

theorem witness_ReceivedFramesAreDisposedOf : metering.linkUp = true ∧ metering.awaitingGap = false ∧
    frameAccepted (frameTo 5 0x40 (List.replicate 56 0)) = true ∧ frameAccepted [] = false ∧
    frameDst (frameTo 5 0x40 []) = metering.ownAddress ∧ frameKind (frameTo 5 0x40 []) = 0x40 ∧
    frameDst (frameTo 127 0x21 []) ≠ metering.ownAddress ∧ frameKind (frameTo 127 0x21 []) = 0x21 := by
  decide +kernel

theorem witness_RequestFramesSpellTheirCommands : nodeOk 126 = true ∧
    (Instr.planWrite (ask 255) { planRecord with rMin := 65535, mask := 255 }).wf = true ∧
    ((Instr.planWrite (ask 255) { planRecord with rMin := 65535, mask := 255 }).requestFrame 126).isSome = true ∧
    (Instr.scanFrame 126 65535 10 (List.replicate 10 ⟨255, 255, 255, 65535⟩)).wf = true ∧
    (Instr.headStatus 126 126 18 (List.replicate 18 ⟨255, 255, 255⟩)).wf = true ∧
    (Instr.scanFrame 1 0 0 []).wf = true ∧ ([0#8, 0#8, 1#8] : List Byte).length ≠ 3 + 5 * 1 ∧
    ([8#8] : List Byte).length ≠ 1 + 3 * 8 := by
  decide

/-- R179, R177: a SCAN and a HEAD STATUS payload written out byte by byte. -/
theorem test_frames_spell_scan_and_status :
    scanCommand 21 [0x03#8, 0xE8#8, 0x01#8, 0x03#8, 0x01#8, 0x02#8, 0x01#8, 0x2C#8] =
      .scanFrame 21 1000 1 [⟨3, 1, 2, 300⟩] ∧
    scanCommand 21 [0x03#8, 0xE8#8, 0x02#8, 0x03#8, 0x01#8, 0x02#8, 0x01#8, 0x2C#8] = .scanFrame 21 1000 2 [] ∧
    statusCommand 5 52 [0x02#8, 0x00#8, 0x03#8, 0x00#8, 0x01#8, 0x01#8, 0x04#8] =
      .headStatus 5 52 2 [⟨0, 3, 0⟩, ⟨1, 1, 4⟩] := by decide

theorem witness_BuiltFramesPassTheTests : nodeOk 1 = true ∧ nodeOk 126 = true ∧ 1 ≤ 255 ∧ 255 < 256 ∧
    (List.replicate 56 (0xFF#8)).length ≤ 56 := by decide

theorem witness_BadRequestsAreRefused : ([0x01#8] : List Byte).length < 2 ∧
    bodyLength 0x77 [0] ≠ some 0 ∧ bodyLength 0x01 [0, 0] ≠ some 1 ∧ bodyLength 0x10 [0, 5] ≠ some 36 ∧
    bodyLength 0x22 [] ≠ some 0 ∧
    4 ≤ (ask 4).subject ∧ 16 ≤ (ask 16).subject ∧ 64 ≤ (ask 64).subject := by decide

/-- A valid entry record of ramp 1. -/
def record : EntryRecord := ⟨1, 23, 0, 0, 1, 0, 64⟩

theorem witness_DetectorWriteSetsEntriesUp : (ask 63).subject < 64 ∧ 1 ≤ [record].length ∧
    (List.replicate 4 record).length ≤ 4 ∧ entryValid 63 record = true ∧
    (stationsNamed (writeRun 63 [record] metering.detectors)).length ≤ 24 := by decide

theorem witness_DetectorReadReturnsTheRun : (ask 63).subject < 64 ∧ metering.detector 63 = none ∧
    metering.detector 12 = some (entry 21 3 .spill) ∧
    (let d : Detector := .fresh ⟨126, 15, .queue, 3, some 63, 255, true⟩
     1 ≤ d.config.station ∧ d.config.station ≤ 126 ∧ d.config.channel ≤ 15 ∧ 32 ≤ d.config.scale ∧
     d.config.scale ≤ 255 ∧ (∀ j, d.config.substitute = some j → j < 64) ∧ d.config.substitute ≠ some 0) := by
  refine ⟨by decide, by decide, by decide, by decide, by decide, by decide, by decide, by decide, ?_, by decide⟩
  intro j h
  cases h
  decide

theorem witness_ForceOutAndRestore : 64 ≤ (ask 64).subject ∧ (ask 63).subject < 64 ∧
    (metering.took (.forceOut (ask 63))).detector 63 = none ∧
    (metering.took (.forceOut (ask 12))).detector 12 = some (entry 21 3 .spill) := by decide

theorem witness_ScanFramesUpdateTheirEntries : metering.stations.get 23 = none ∧
    metering.stations.get 21 = some station ∧ 50 ≤ 1000 ∧ [ScanRecord.mk 3 1 15 50].length = 1 ∧
    (List.replicate 8 (ScanRecord.mk 3 1 15 50)).length = 8 ∧ metering.detector 12 = some (entry 21 3 .spill) ∧
    recordFor 21 [⟨3, 1, 15, 50⟩] (entry 21 3 .spill) = some ⟨3, 1, 15, 50⟩ ∧
    recordFor 21 [⟨3, 1, 16, 50⟩] (entry 21 3 .spill) = none := by decide

theorem witness_ScanFramesDriveTriggers : (metering.stations.get 21).isSome = true ∧
    (metering.ramp 1).laneConfig 0 = some ⟨52, 0, some 20, false, some 13, true⟩ ∧ (metering.ramp 1).state ≠ .dark ∧
    (metering.stationHeard 21).sourceEntry 1 .passage 13 = some (entry 21 4 .passage) ∧
    recordFor 21 [⟨4, 0, 1, 300⟩] (entry 21 4 .passage) = some ⟨4, 0, 1, 300⟩ ∧ (metering.ramp 0).state = .dark ∧
    metering.spillConcerned (fun i => i == 12) 1 = true ∧ metering.demandConcerned (fun i => i == 20) 1 0 = true := by
  decide

theorem witness_PassagesAreCounted :
    let x : Lane := { laneIn .off with served := 255, window := 255, extra := 255, violations := 255,
                                       timings := some ⟨10, 3, 5, 2⟩ }
    x.served ≤ 255 ∧ x.window ≤ 255 ∧ x.extra ≤ 255 ∧ x.violations ≤ 255 ∧ x.heldSize ≤ 2 ∧ x.cycle = .off ∧
    (laneIn .ready).cycle = .ready ∧ (laneIn (.red 20)).cycle = .red 20 ∧ (laneIn (.red 20)).grace = none ∧
    (laneIn (.green 10)).windowOpen = true := by decide

/-- An entry that names entry 20 as its substitute and has failed. -/
def failedEntry : Detector :=
  { entry 22 1 .demand with health := .failed, config := { (entry 22 1 .demand).config with substitute := some 20 } }

theorem witness_StationTimersAndTriggerSources : (metering.stations.get 23).bind (fun st => st.timer) = none ∧
    (metering.stations.get 21).bind (fun st => st.timer) ≠ none ∧ metering.source 1 .demand 20 = some 20 ∧
    metering.stationLive 22 = true ∧ metering.lastSources.get 12 = metering.source 1 .spill 12 ∧
    ({ metering with detectors := metering.detectors.insert 21 failedEntry }).source 1 .demand 21 = some 20 ∧
    ¬(failedEntry.health = .good ∨ failedEntry.health = .suspect) ∧ failedEntry.config.substitute = some 20 ∧
    ({ metering with detectors := metering.detectors.insert 21 { failedEntry with
      config := (entry 22 1 .demand).config } }).source 1 .demand 21 = none ∧
    metering.detector 63 = none ∧ metering.source 1 .demand 12 = none ∧
    metering.detector 20 = some (entry 22 0 .demand) := by decide

theorem witness_HealthUpdateFollowsTheTables :
    let d (h : Health) (n c : Nat) : Detector := { entry 21 3 .mainUp with health := h, symptomatic := n, clean := c }
    (d .good 0 0).health = .good ∧ (d .suspect 1 0).health = .suspect ∧
    (d .suspect 1 0).symptomatic + 1 < Limits.reset.fail ∧ Limits.reset.fail ≤ (d .suspect 2 0).symptomatic + 1 ∧
    (d .failed 0 3).health = .failed ∧ min 255 ((d .failed 0 3).clean + 1) < Limits.reset.recovery ∧
    Limits.reset.recovery ≠ 0 ∧ Limits.reset.recovery ≤ min 255 ((d .failed 0 4).clean + 1) ∧
    (d .forcedOut 0 0).health = .forcedOut := by decide

theorem witness_MeasuresOfOneEntry : (1 : Nat) ≠ 0 ∧ (655350 : Nat) ≤ 655350 ∧ 1 ≤ 1 ∧ 16 ≤ 16 ∧
    rawMeasure 65535 1 1 = some ⟨9999, 10000⟩ ∧ rawMeasure 0 0 0 = none := by decide

theorem witness_IntervalCloseJudgesTheEntries :
    let s := { metering with detectors := metering.detectors.insert 40 { entry 21 5 .mainUp with
      config := ⟨21, 5, .mainUp, 0, none, 64, false⟩ } }
    s.detectors.wf 64 = true ∧ (s.ramp 1).intervalTimer = some 30 ∧
    (s.ramp 1).config = some (configOf configRecord) ∧ (s.detector 40).map (fun d => d.config.ramp) = some 0 ∧
    (s.detector 12).map (fun d => d.config.ramp) = some 1 ∧ s.detector 63 = none := by decide

theorem witness_UsabilityAndGroupMeasures :
    let covered : Closing := ⟨{ entry 21 0 .mainUp with smoothed := some ⟨1560, 0⟩ }, 13, 15000⟩
    let short : Closing := ⟨{ entry 21 0 .mainUp with held := some ⟨700, 820, 1⟩ }, 2, 14999⟩
    let failed : Closing := ⟨{ failedEntry with smoothed := some ⟨106, 0⟩ }, 0, 30000⟩
    covered.span ≠ 0 ∧ 30000 ≤ 2 * covered.span ∧ covered.entry.smoothed = some ⟨1560, 0⟩ ∧
    ¬30000 ≤ 2 * short.span ∧ short.entry.held = some ⟨700, 820, 1⟩ ∧ short.entry.config.drop = false ∧
    failed.entry.health = .failed ∧ failed.entry.config.substitute = some 20 ∧
    rowsGet [(20, covered)] 20 = some covered ∧ failed.entry.held = none ∧
    (closeRecord [({ entry 21 0 .queue with config := ⟨21, 0, .queue, 1, none, 64, false⟩ }, some ⟨0, 10000⟩)] false).qocc =
      some 10000 := by decide

theorem witness_PlanWriteReplacesTheRecord : (ask 15).subject < 16 ∧ planFault planRecord = none ∧
    planFault { planRecord with weight := 17 } = some 12 ∧ planRecord.wf = true ∧ (metering.ramp 1).top = 4 ∧
    (metering.ramp 0).top ≠ 4 ∧ metering.plans.get 15 = none ∧ metering.plans.get 4 = some plan := by decide

theorem witness_StackFlagAndFaultPending :
    (metering.topPlan 1).map (fun p : Plan => p.unmasked.stack) = some false ∧
    (({ metering with plans := ⟨[(4, { plan with unmasked := .onlyStack })]⟩ }).topPlan 1).map
      (fun p : Plan => p.unmasked.stack) = some true ∧ (metering.ramp 1).state ≠ .dark := by decide

theorem witness_StackRequestsChangeTheStack : (ask 3).subject = (3 : Fin 4).val ∧ (metering.ramp 1).stack.length ≤ 1 ∧
    ((part { meteringRamp with stack := [4, 4, 4, 4] }).ramp 1).stack.length = 4 ∧ metering.plans.get 15 = none := by
  decide

theorem witness_RateTermsFollowTheSteps :
    let x : Snapshot := ⟨4, plan, some 300, some 1320, 2⟩
    let num (o : Nat) : Int := (plan.gain : Int) * ((plan.target : Int) - (o : Int))
    (0 ≤ num 1800 ∧ num 1801 < 0) ∧ plan.capacity ≠ 0 ∧ plan9.capacity = 0 ∧ x.share = some 300 ∧
    (closeCase 3100).qdem = some 1460 ∧ plan.stepLimit ≠ 0 ∧ plan9.stepLimit = 0 ∧
    (x.prev + (plan.stepLimit : Int) < 1521 ∧ (1119 : Int) < x.prev - (plan.stepLimit : Int)) ∧
    (x.prev - (plan.stepLimit : Int) ≤ 1120 ∧ (1520 : Int) ≤ x.prev + (plan.stepLimit : Int)) ∧
    implausible plan { closeCase 3100 with od := some 6001 } = true ∧
    implausible plan { closeCase 3100 with od := some 6000 } = false := by decide

theorem witness_PeriodsAreConvertedAndFloored : 1 ≤ plan.rMin ∧ plan.rMin ≤ plan.rMax ∧
    (plan.rMax : Int) < 1801 ∧ (599 : Int) < (plan.rMin : Int) ∧ plan.rounding = .nearest ∧
    (planOf { planRecord with rounding := 1 }).rounding = .short ∧ plan9.rounding = .long ∧
    planFault planRecord = none ∧ plan = planOf planRecord := by decide

theorem witness_JobStartReadsTheSnapshot : metering.jobs = [] ∧ jobCase.rcu = .idle ∧
    jobCase.jobs = ⟨1, .interval (closeCase 3100)⟩ :: [] ∧ jobCase.topPlan 1 = some plan ∧
    ({ jobCase with plans := .empty }).topPlan 1 = none ∧ (jobCase.ramp 1).rPrev ≠ none ∧
    ({ jobCase with jobs := [⟨1, .start none⟩] }).startJob.rcu = .busy (some ⟨4, plan, none, none, 2⟩) ∧
    ({ jobCase with rcu := .busy none }).rcu ≠ .idle := by decide

/-- The snapshot of 5.6. -/
def snapshot : Snapshot := ⟨4, plan, some 300, some 1320, 2⟩

theorem witness_IntervalJobsDeliver : let s := { jobCase with rcu := .busy (some snapshot) }
    s.rcu = .busy (some snapshot) ∧ s.jobs = ⟨1, .interval (closeCase 3100)⟩ :: [] ∧
    ({ s with rcu := .busy none }).rcu = .busy none := by decide

theorem witness_ReportsAreLaidOut : meteringRamp.used 1 = true ∧ meteringRamp.used 2 = false := by decide

theorem witness_StartJobsDeliver :
    let s := { part { meteringRamp with clock := ⟨.stopped, false, true, none, none, none, none⟩ } with
      rcu := .busy (some snapshot), jobs := [⟨1, .start (some 3100)⟩] }
    s.rcu = .busy (some snapshot) ∧ s.jobs = ⟨1, .start (some 3100)⟩ :: [] ∧ (s.ramp 1).state = .metering ∧
    (s.ramp 1).clock.awaiting = true ∧ s.topPlan 1 = some plan ∧ ({ s with rcu := .busy none }).rcu = .busy none := by
  decide

theorem witness_StatusIsReadAndCleared : 4 ≤ (ask 4).subject ∧ (ask 3).subject = (3 : Fin 4).val := by decide

theorem witness_ResumeStagesAReturn : (ask 1).subject = (1 : Fin 4).val ∧ (metering.ramp 1).state ≠ .fallback ∧
    ((rampIn .fallback).ramp 1).state = .fallback ∧ (rampIn .fallback).topPlan 1 = some plan := by decide

theorem witness_ContextIsDumpedAndLoaded : (ask 1).subject = (1 : Fin 4).val ∧ (dark.ramp 1).state = .dark ∧
    dark.jobs.any (fun j => j.ramp == 1) = false ∧ jobCase.jobs.any (fun j => j.ramp == 1) = true := by decide

theorem witness_ConfigurationIsWrittenInDark : (ask 1).subject = (1 : Fin 4).val ∧ (dark.ramp 1).state = .dark ∧
    (metering.ramp 1).state ≠ .dark ∧ dark.configFault 1 configRecord = none ∧
    dark.configFault 1 { configRecord with lanesUsed := 4 } = some 1 ∧ (dark.ramp 0).config = none ∧
    (dark.ramp 1).config = some (configOf configRecord) := by decide

theorem witness_StartChecksAndStarts : (ask 1).subject = (1 : Fin 4).val ∧ (dark.ramp 1).state = .dark ∧
    (dark.ramp 1).config = some (configOf configRecord) ∧ dark.topPlan 1 = some plan ∧
    (dark.ramp 1).inService = true ∧ dark.jobs = [] := by decide

theorem witness_StopClearsTheRamp : (ask 1).subject = (1 : Fin 4).val ∧ (metering.ramp 1).state = .metering ∧
    ((metering.ramp 1).config.map (fun c => c.clear)).getD 0 = 5 := by decide

theorem witness_HoldsSuspendTheRamp : (ask 1).subject = (1 : Fin 4).val ∧ (metering.ramp 1).state.isSuspended = false ∧
    ((rampIn (.suspended .starting)).ramp 1).state.isSuspended = true ∧ (metering.ramp 1).holdInput = false ∧
    (metering.ramp 1).holdMode = some .latched := by decide

theorem witness_HoldsEndTogether : let s := part { meteringRamp with state := .suspended .metering, requestHold := true }
    (ask 1).subject = (1 : Fin 4).val ∧ s.topPlan 1 = some plan ∧ (s.ramp 1).inputHold = false ∧
    (s.ramp 1).state = .suspended .metering ∧ (metering.ramp 0).state.isSuspended = false ∧
    metering.topPlan 0 = none := by decide

theorem witness_WarningAndClearTimesEnd :
    let s := part { meteringRamp with state := .starting, warningTimer := some 10 }
    let t := part { meteringRamp with state := .clearing, clearTimer := some 5 }
    (s.ramp 1).state = .starting ∧ (s.ramp 1).warningTimer ≠ none ∧ s.topPlan 1 = some plan ∧
    (t.ramp 1).state = .clearing ∧ (t.ramp 1).clearTimer ≠ none ∧ (metering.ramp 1).state ≠ .starting ∧
    (metering.ramp 1).state ≠ .clearing := by decide

theorem witness_ShareIsStored : (ask 1).subject = (1 : Fin 4).val ∧ ¬(1 < 1 ∨ 15 < 1) ∧ ¬(15 < 1 ∨ 15 < 15) := by decide

theorem witness_LanesAreClosedAndOpened : (ask 1).subject = (1 : Fin 4).val ∧ 3 ≤ 3 ∧ (2 : Fin 3).val = 2 ∧
    metering.topPlan 1 = some plan ∧ (dark.ramp 1).state.metersOrHeld = false ∧ (metering.ramp 1).laneConfig 2 = none ∧ ((metering.ramp 1).lane 0).cycle = .ready ∧
    (((withLanes (.green 10) .ready).ramp 1).lane 0).cycle.busy = true := by decide

theorem witness_ReleaseDueSwapsAndChecks : (clockOf metering).frozen = false ∧ (clockOf metering).state = .running 40 ∧
    metering.topPlan 1 = some plan ∧ (clockOf dark).state = .stopped := by decide

theorem witness_PickServesByTheMode :
    let r : Ramp := { meteringRamp with clock := { meteringRamp.clock with state := .due } }
    r.clock.state = .due ∧ r.clock.frozen = false ∧ r.state = .metering ∧ r.clock.active = some 40 ∧
    r.eligible plan.gating 0 = true ∧ r.waitOrder.head? = some 0 ∧ plan.leveling = .waitGuard ∧
    ∀ l, r.used l = true → (r.lane l).starvation < plan.starvationLimit := by decide

theorem witness_LaneTimesEnd : metering.topPlan 1 = some plan ∧
    (((withLanes (.green 10) .ready).ramp 1).lane 0).cycle.isGreen = true ∧
    (((withLanes (.amber 3) .ready).ramp 1).lane 0).cycle.isAmber = true ∧
    (((withLanes (.red 20) .ready).ramp 1).lane 0).cycle.isRed = true ∧
    ((metering.ramp 1).lane 0).cycle.isGreen = false ∧ ((metering.ramp 1).lane 0).cycle.isAmber = false ∧
    ((metering.ramp 1).lane 0).cycle.isRed = false := by decide

theorem witness_HeadsAreToldTheirTargets : (meteringRamp.lane 2).isOpen = true ∧ (meteringRamp.lane 0).isOpen = true ∧
    meteringRamp.disabled 0 = false ∧ headDue metering [] (withLanes (.green 10) .ready) (1, 0) = true := by decide

theorem witness_HeadStatusIsJudged : metering.ownAddress = 5 ∧
    ((metering.ramp 1).laneConfig 0).map (fun c => c.driver) = some 52 ∧
    [StatusRecord.mk 0 1 2].length = 1 ∧ (List.replicate 8 (StatusRecord.mk 3 4 0)).length = 8 ∧
    (metering.ramp 1).head 0 = some (headAt .red) ∧ (metering.ramp 1).config = some (configOf configRecord) ∧
    (headAt .red).disabled = none ∧ (2 : Nat).testBit 1 = true := by decide

theorem witness_HeadTimersExpire : (metering.ramp 1).head 0 = some (headAt .red) ∧ (metering.ramp 1).used 0 = true ∧
    metering.topPlan 1 = some plan ∧ (dark.ramp 1).state = .dark ∧ (headAt .red).confirm = none ∧ (headAt .red).silence ≠ none ∧
    ({ headAt .red with confirm := some 10, silence := none } : Head).confirm ≠ none := by decide

/-! ### Invariants: the metering part satisfies each, and steps -/

theorem witness_StepsKeepTheBounds : step metering = .next metering ∧ metering.queuesBounded ∧ metering.oneJobEach ∧
    metering.stacksBounded ∧ metering.plansHeld := by
  refine ⟨rfl, ?_⟩
  unfold State.queuesBounded State.oneJobEach State.stacksBounded State.plansHeld
  decide

theorem witness_StepsKeepOneGreenWindow : let s := withLanes (.green 10) .ready
    step s = .next s ∧ s.oneGreenWindow ∧ s.greensServed := by
  refine ⟨rfl, ?_⟩
  unfold State.oneGreenWindow State.greensServed
  decide

theorem witness_StepsKeepRampsConsistent : let s := part { meteringRamp with state := .suspended .metering, requestHold := true }
    step s = .next s ∧ s.quiet ∧ s.holdsAgree := by
  refine ⟨rfl, ?_⟩
  unfold State.quiet Ramp.quiet State.holdsAgree
  decide

theorem metering_entries (i : Nat) (d : Detector) (h : metering.detector i = some d) :
    (i, d) = (12, entry 21 3 .spill) ∨ (i, d) = (13, entry 21 4 .passage) ∨ (i, d) = (20, entry 22 0 .demand) ∨
    (i, d) = (21, entry 22 1 .demand) := by
  have := rowsGet_mem h
  simpa [metering, part] using this

theorem witness_StepsKeepTheDetectorTable : step metering = .next metering ∧ metering.detectorsKept := by
  refine ⟨rfl, by decide, by decide, by decide, ?_, ?_, by decide, ?_⟩
  · intro i d h
    rcases metering_entries i d h with h | h | h | h <;> cases h <;> decide
  · intro a
    constructor
    · intro h
      obtain ⟨st, hs⟩ := Option.isSome_iff_exists.mp h
      have hm := rowsGet_mem hs
      have : a = 21 ∨ a = 22 := by
        simp only [metering, part, List.mem_cons, Prod.mk.injEq, List.not_mem_nil, or_false] at hm
        tauto
      rcases this with rfl | rfl
      · exact ⟨12, _, rfl, rfl⟩
      · exact ⟨20, _, rfl, rfl⟩
    · rintro ⟨i, d, h, rfl⟩
      rcases metering_entries i d h with h | h | h | h <;> cases h <;> decide
  · intro i h
    obtain ⟨j, hj⟩ := Option.isSome_iff_exists.mp h
    have hm := rowsGet_mem hj
    simp only [metering, part, List.mem_cons, Prod.mk.injEq, List.not_mem_nil, or_false] at hm
    rw [hm.1]
    exact ⟨_, rfl, rfl⟩

theorem witness_StepsKeepTheHeads : step metering = .next metering ∧ metering.headsKept ∧ metering.headsDistinct := by
  refine ⟨rfl, ?_, ?_⟩
  · unfold State.headsKept
    decide
  · unfold State.headsDistinct
    decide

theorem witness_headsInStep : metering.headsInStep := by
  intro k l h hh
  fin_cases k <;> fin_cases l <;> cases hh <;> decide

theorem witness_StepsKeepThePeriods : step metering = .next metering ∧ metering.periodsSound := by
  refine ⟨rfl, ?_, ?_, ?_⟩
  · intro n p h
    have := rowsGet_mem h
    simp only [metering, part, List.mem_cons, Prod.mk.injEq, List.not_mem_nil, or_false] at this
    exact ⟨planRecord, by decide, this.2⟩
  · intro x h
    cases h
  · intro k
    fin_cases k <;> refine ⟨?_, ?_, ?_, ?_, ?_⟩ <;> intro x h <;> cases h <;> decide

theorem witness_ResetIsSound : ∃ t, exec (.hardReset 127 true) metering = .next t ∧ t.plans = .empty := ⟨_, rfl, rfl⟩

end Sys2Proof.Tests
end

section
/-! The health update of one entry (02_detector_health_and_substitution.md, R27 to R29): `Detector.judge` says once per
health and kind of interval what an entry becomes, and O24 is assembled from that. -/

namespace Sys2Proof.Machine

section JudgeByHealth
variable {lim : Limits} {d : Detector}

theorem Detector.judge_good (h : d.health = .good) (symptomatic : Bool) :
    d.judge lim symptomatic =
      if symptomatic then { d with health := .suspect, symptomatic := 1 } else { d with symptomatic := 0 } := by
  simp only [Detector.judge, h]

theorem Detector.judge_suspect_clean (h : d.health = .suspect) :
    d.judge lim false = { d with health := .good, symptomatic := 0 } := by
  simp [Detector.judge, h]

theorem Detector.judge_suspect_symptomatic (h : d.health = .suspect) :
    d.judge lim true =
      if d.symptomatic + 1 < lim.fail then { d with symptomatic := d.symptomatic + 1 }
      else { d with health := .failed, symptomatic := 0, clean := 0 } := by
  simp [Detector.judge, h]

theorem Detector.judge_failed_symptomatic (h : d.health = .failed) : d.judge lim true = { d with clean := 0 } := by
  simp [Detector.judge, h]

theorem Detector.judge_failed_clean (h : d.health = .failed) :
    d.judge lim false =
      if lim.recovery ≠ 0 ∧ lim.recovery ≤ min 255 (d.clean + 1) then
        { d with health := .good, symptomatic := 0, clean := 0 }
      else { d with clean := min 255 (d.clean + 1) } := by
  simp [Detector.judge, h, saturate]

theorem Detector.judge_forcedOut (h : d.health = .forcedOut) (symptomatic : Bool) :
    d.judge lim symptomatic = { d with symptomatic := 0, clean := 0 } := by
  simp only [Detector.judge, h]

end JudgeByHealth

/-- Settles O24: the rows of R27 to R29, health by health; each threshold decides its branch. -/
theorem healthUpdateFollowsTheTables : Obligations.HealthUpdateFollowsTheTables := by
  intro lim d
  refine ⟨fun good => ?clean, fun good => ?turnsSuspect, Detector.judge_suspect_clean, fun suspect below => ?counts,
    fun suspect reached => ?fails, Detector.judge_failed_symptomatic, fun failed notYet => ?waits,
    fun failed automatic reached => ?recovers, Detector.judge_forcedOut⟩
  case clean => exact Detector.judge_good good false
  case turnsSuspect => exact Detector.judge_good good true
  case counts => rw [Detector.judge_suspect_symptomatic suspect, if_pos below]
  case fails => rw [Detector.judge_suspect_symptomatic suspect, if_neg (Nat.not_lt.mpr reached)]
  case waits =>
    have notReached : ¬(lim.recovery ≠ 0 ∧ lim.recovery ≤ min 255 (d.clean + 1)) := by omega
    rw [Detector.judge_failed_clean failed, if_neg notReached]
  case recovers => rw [Detector.judge_failed_clean failed, if_pos ⟨automatic, reached⟩]

end Sys2Proof.Machine
end

section
/-! Rounded division (00_scope.md 5.3) and the steps of rate computation (05_rate_computation.md, R75 to R84, R90), one
lemma per branch of each step; O31 and O32 are assembled from them. -/

namespace Sys2Proof.Machine

/-! ## Rounding -/

/-- A quotient rounded half up lies within a half of the exact one; an exact half goes up. -/
theorem halfUp_spec {den : Nat} (pos : 0 < den) (num : Nat) :
    2 * den * halfUp num den ≤ 2 * num + den ∧ 2 * num + den < 2 * den * (halfUp num den + 1) :=
  ⟨Nat.mul_div_le _ _, Nat.lt_mul_div_succ _ (Nat.mul_pos two_pos pos)⟩

theorem halfAway_of_nonneg {num : Int} (h : 0 ≤ num) (den : Nat) : halfAway num den = halfUp num.natAbs den := if_pos h

theorem halfAway_of_neg {num : Int} (h : num < 0) (den : Nat) : halfAway num den = -(halfUp num.natAbs den : Int) :=
  if_neg (Int.not_le.mpr h)

/-- The rounding of R76: in hundredths, a half goes away from zero on both sides. -/
theorem halfAway_hundred_spec (num : Int) :
    (0 ≤ num → 100 * (2 * halfAway num 100 - 1) ≤ 2 * num ∧ 2 * num < 100 * (2 * halfAway num 100 + 1)) ∧
    (num < 0 → 100 * (2 * halfAway num 100 - 1) < 2 * num ∧ 2 * num ≤ 100 * (2 * halfAway num 100 + 1)) := by
  obtain ⟨below, above⟩ := halfUp_spec (den := 100) (by decide) num.natAbs
  constructor
  · intro h
    rw [halfAway_of_nonneg h]
    omega
  · intro h
    rw [halfAway_of_neg h]
    omega

/-! ## The terms of an INTERVAL job (R75 to R78, R80) -/

theorem atMost_eq_false {limit : Nat} {v : Option Nat} : atMost limit v = false ↔ ∃ n, v = some n ∧ limit < n := by
  cases v <;> simp [atMost]

/-- R75: step 1 finds a job implausible by the occupancy or by the flow. -/
theorem implausible_iff {p : Plan} {c : CloseRecord} :
    implausible p c = true ↔ (∃ o, c.od = some o ∧ p.occCeiling < o) ∨ (∃ v, c.qu = some v ∧ p.flowCeiling < v) := by
  rw [implausible, Bool.not_eq_true', Bool.and_eq_false_iff, atMost_eq_false, atMost_eq_false]

section Terms
variable {x : Snapshot} {c : CloseRecord}

theorem feedbackRate_of_od_none (h : c.od = none) : feedbackRate x c = x.prev := by
  simp only [feedbackRate, h]

theorem feedbackRate_of_od_some {o : Nat} (h : c.od = some o) :
    feedbackRate x c = x.prev + halfAway ((x.plan.gain : Int) * ((x.plan.target : Int) - (o : Int))) 100 := by
  simp only [feedbackRate, h]

theorem localRate_of_absent (h : x.plan.capacity = 0 ∨ c.qu = none) : localRate x c = feedbackRate x c := by
  obtain h | h := h <;> simp [localRate, h]

theorem localRate_of_qu_some (capacity : x.plan.capacity ≠ 0) {v : Nat} (h : c.qu = some v) :
    localRate x c = min (feedbackRate x c) (max 0 ((x.plan.capacity : Int) - (v : Int))) := by
  simp only [localRate, if_neg capacity, h]

theorem coordinatedRate_of_absent (h : x.share = none ∨ c.qdem = none) : coordinatedRate x c = localRate x c := by
  obtain h | h := h
  · simp only [coordinatedRate, h]
  · cases share : x.share <;> simp only [coordinatedRate, share, h]

theorem coordinatedRate_of_share {reduction v : Nat} (share : x.share = some reduction) (h : c.qdem = some v) :
    coordinatedRate x c = min (localRate x c) (max 0 ((v : Int) - (reduction : Int))) := by
  simp only [coordinatedRate, share, h]

/-- R80: the two ways in which the queue override is in force. -/
theorem overrideInForce_iff {p : Plan} : overrideInForce p c = true ↔
    c.spill = true ∨ (p.queueThreshold ≠ 0 ∧ ∃ v, c.qocc = some v ∧ p.queueThreshold ≤ v) := by
  cases h : c.qocc <;> simp [overrideInForce, h]

/-- R76 to R78, R80: the four ways in which a step lacks its group. -/
theorem missing_iff : missing x c = true ↔
    c.od = none ∨ (x.plan.capacity ≠ 0 ∧ c.qu = none) ∨ (x.share ≠ none ∧ c.qdem = none) ∨
      (x.plan.queueThreshold ≠ 0 ∧ c.qocc = none) := by
  simp [missing, Option.isSome_iff_ne_none, or_assoc]

end Terms

/-! ## The step limit (R81) -/

section StepLimit
variable {p : Plan} {prev pre : Int}

theorem stepLimited_of_none (h : p.stepLimit = 0) (inForce : Bool) : stepLimited p prev pre inForce = pre := if_pos h

theorem stepLimited_of_rise (limit : p.stepLimit ≠ 0) (h : prev + (p.stepLimit : Int) < pre) (inForce : Bool) :
    stepLimited p prev pre inForce = if inForce then pre else prev + (p.stepLimit : Int) := by
  have rises : (p.stepLimit : Int) < pre - prev := by omega
  rw [stepLimited, if_neg limit, if_pos rises]

/-- A fall is limited whether the override is in force or not. -/
theorem stepLimited_of_fall (limit : p.stepLimit ≠ 0) (h : pre < prev - (p.stepLimit : Int)) (inForce : Bool) :
    stepLimited p prev pre inForce = prev - (p.stepLimit : Int) := by
  have noRise : ¬(p.stepLimit : Int) < pre - prev := by omega
  have falls : pre - prev < -(p.stepLimit : Int) := by omega
  rw [stepLimited, if_neg limit, if_neg noRise, if_pos falls]

theorem stepLimited_of_within (low : prev - (p.stepLimit : Int) ≤ pre) (high : pre ≤ prev + (p.stepLimit : Int))
    (inForce : Bool) : stepLimited p prev pre inForce = pre := by
  have noRise : ¬(p.stepLimit : Int) < pre - prev := by omega
  have noFall : ¬pre - prev < -(p.stepLimit : Int) := by omega
  rw [stepLimited, if_neg noRise, if_neg noFall, ite_self]

end StepLimit

/-! ## The jobs -/

/-- R75: an implausible job holds r_prev, which no step limit moves. -/
theorem computeInterval_of_implausible {x : Snapshot} {c : CloseRecord} (h : implausible x.plan c = true) :
    computeInterval x c = finishRate x.plan x.lanes x.prev false true := by
  have holds : stepLimited x.plan x.prev x.prev false = x.prev := stepLimited_of_within (by omega) (by omega) false
  rw [computeInterval, if_pos h, holds]

theorem computeInterval_of_plausible {x : Snapshot} {c : CloseRecord} (h : implausible x.plan c = false) :
    computeInterval x c =
      finishRate x.plan x.lanes (stepLimited x.plan x.prev (overriddenRate x c) (overrideInForce x.plan c))
        (missing x c) false := by
  rw [computeInterval, if_neg (Bool.eq_false_iff.mp h)]

/-- Settles O31: each step of R75 to R81 by the lemmas of its branches; the feedback term is the distance of
`feedbackRate` from r_prev. -/
theorem rateTermsFollowTheSteps : Obligations.RateTermsFollowTheSteps := by
  refine ⟨fun x c pre => ⟨rfl, implausible_iff, feedbackRate_of_od_none, fun o od => ?feedback, localRate_of_absent,
    fun capacity v qu => localRate_of_qu_some capacity qu, coordinatedRate_of_absent,
    fun reduction v share qdem => coordinatedRate_of_share share qdem, overrideInForce_iff, rfl, missing_iff,
    stepLimited_of_none, fun limit => ⟨fun rise => ?rise, stepLimited_of_fall limit, stepLimited_of_within⟩⟩,
    fun x c carried => ⟨computeInterval_of_implausible, computeInterval_of_plausible, rfl⟩⟩
  case rise => exact ⟨stepLimited_of_rise limit rise false, stepLimited_of_rise limit rise true⟩
  case feedback =>
    have term : feedbackRate x c - x.prev =
        halfAway ((x.plan.gain : Int) * ((x.plan.target : Int) - (o : Int))) 100 := by
      rw [feedbackRate_of_od_some od, add_sub_cancel_left]
    simp only [term]
    exact halfAway_hundred_spec _

/-! ## The clamp (R82) -/

section Clamp
variable {p : Plan} {v : Int}

theorem clampRate_of_above (h : (p.rMax : Int) < v) : clampRate p v = p.rMax := if_pos h

theorem clampRate_of_below (band : p.rMin ≤ p.rMax) (h : v < (p.rMin : Int)) : clampRate p v = p.rMin := by
  have notAbove : ¬(p.rMax : Int) < v := by omega
  rw [clampRate, if_neg notAbove, if_pos h]

theorem clampRate_of_inBand (low : (p.rMin : Int) ≤ v) (high : v ≤ (p.rMax : Int)) : (clampRate p v : Int) = v := by
  have nonneg : 0 ≤ v := by omega
  rw [clampRate, if_neg (Int.not_lt.mpr high), if_neg (Int.not_lt.mpr low), Int.toNat_of_nonneg nonneg]

theorem clampRate_mem_band (band : p.rMin ≤ p.rMax) (v : Int) : p.rMin ≤ clampRate p v ∧ clampRate p v ≤ p.rMax := by
  rcases lt_or_ge (p.rMax : Int) v with above | notAbove
  · simp [clampRate_of_above above, band]
  · rcases lt_or_ge v (p.rMin : Int) with below | inBand
    · simp [clampRate_of_below band below, band]
    · have same := clampRate_of_inBand inBand notAbove
      omega

/-- In a plan's band, a value below r_min is not above r_max, so LOW needs no further test. -/
theorem clampLow_eq (band : p.rMin ≤ p.rMax) (v : Int) : clampLow p v = decide (v < (p.rMin : Int)) := by
  have exclusive : v < (p.rMin : Int) → v ≤ (p.rMax : Int) := by omega
  simpa [clampLow, clampHigh] using exclusive

end Clamp

/-! ## The conversion (R83) -/

section Conversion
variable {p : Plan} {r : Nat}

theorem convertRate_nearest (mode : p.rounding = .nearest) : convertRate p r = halfUp (36000 * p.size) r := by
  simp only [convertRate, mode]

theorem convertRate_short (mode : p.rounding = .short) : convertRate p r = 36000 * p.size / r := by
  simp only [convertRate, mode]

theorem convertRate_long (mode : p.rounding = .long) : convertRate p r = (36000 * p.size + r - 1) / r := by
  simp only [convertRate, mode]

theorem convertRate_nearest_spec (pos : 0 < r) (mode : p.rounding = .nearest) :
    2 * r * convertRate p r ≤ 2 * (36000 * p.size) + r ∧
      2 * (36000 * p.size) + r < 2 * r * (convertRate p r + 1) := by
  rw [convertRate_nearest mode]
  exact halfUp_spec pos _

theorem convertRate_short_spec (pos : 0 < r) (mode : p.rounding = .short) :
    r * convertRate p r ≤ 36000 * p.size ∧ 36000 * p.size < r * (convertRate p r + 1) := by
  rw [convertRate_short mode]
  exact ⟨Nat.mul_div_le _ _, Nat.lt_mul_div_succ _ pos⟩

theorem convertRate_long_spec (pos : 0 < r) (mode : p.rounding = .long) :
    36000 * p.size ≤ r * convertRate p r ∧ r * convertRate p r < 36000 * p.size + r := by
  rw [convertRate_long mode]
  have upper := Nat.mul_div_le (36000 * p.size + r - 1) r
  have lower := Nat.lt_mul_div_succ (36000 * p.size + r - 1) pos
  rw [Nat.mul_succ] at lower
  omega

/-- In every mode the period is less than 1 ds from the exact quotient. -/
theorem convertRate_near (pos : 0 < r) (p : Plan) :
    36000 * p.size < r * (convertRate p r + 1) ∧ r * convertRate p r < 36000 * p.size + r := by
  rw [Nat.mul_succ]
  cases mode : p.rounding with
  | nearest =>
    obtain ⟨upper, lower⟩ := convertRate_nearest_spec pos mode
    rw [Nat.mul_succ, Nat.mul_assoc] at lower
    rw [Nat.mul_assoc] at upper
    omega
  | short =>
    obtain ⟨upper, lower⟩ := convertRate_short_spec pos mode
    rw [Nat.mul_succ] at lower
    omega
  | long =>
    obtain ⟨lower, upper⟩ := convertRate_long_spec pos mode
    omega

theorem inexact_eq (p : Plan) (r : Nat) : inexact p r = decide (¬ r ∣ 36000 * p.size) := by
  rw [inexact, decide_eq_decide, ne_eq, Nat.dvd_iff_mod_eq_zero]

end Conversion

/-! ## The lane floor (R84) -/

/-- The lane floor is the least period that holds a green and an amber, and whose round over the lanes in service
holds the minimum red besides. -/
theorem laneFloor_le_iff {p : Plan} {n f : Nat} :
    laneFloor p n ≤ f ↔ p.green + p.amber ≤ f ∧ p.green + p.amber + p.minRed ≤ f * (if n = 0 then 1 else n) := by
  have lanes : max n 1 = if n = 0 then 1 else n := by split <;> omega
  have pos : 0 < max n 1 := by omega
  rw [laneFloor, max_le_iff, ← Nat.ceilDiv_eq_add_pred_div, ceilDiv_le_iff_le_mul pos, ← lanes, Nat.mul_comm f]

/-! ## Plans that a PLAN WRITE can write (R39) -/

theorem within_iff {lo hi n : Nat} : within lo hi n = true ↔ lo ≤ n ∧ n ≤ hi := by simp [within]

theorem lowestFailing_eq_none {checks : List (Nat × Bool)} :
    lowestFailing checks = none ↔ ∀ x ∈ checks, x.2 = true := by
  induction checks with
  | nil => simp [lowestFailing]
  | cons check rest ih =>
    obtain ⟨n, ok⟩ := check
    cases ok <;> simp [lowestFailing, ih]

/-- R39 fields 1, 2 and 17: the band of rates and the release size. -/
theorem Plan.sound.rates {p : Plan} (h : p.sound) : 180 ≤ p.rMin ∧ p.rMax ≤ 5400 ∧ 1 ≤ p.size ∧ p.size ≤ 2 := by
  obtain ⟨rec, valid, rfl⟩ := h
  simp only [planFault, lowestFailing_eq_none, List.forall_mem_cons, within_iff] at valid
  simp [planOf, valid]

/-- R39 fields 13 to 15: green, amber and minimum red. -/
theorem Plan.sound.timings {p : Plan} (h : p.sound) :
    5 ≤ p.green ∧ p.green ≤ 50 ∧ p.amber ≤ 30 ∧ p.minRed ≤ 100 := by
  obtain ⟨rec, valid, rfl⟩ := h
  simp only [planFault, lowestFailing_eq_none, List.forall_mem_cons, within_iff] at valid
  simp [planOf, valid]

/-- A valid plan's rates convert to 6-400 ds. -/
theorem Plan.sound.convertRate_bounds {p : Plan} (h : p.sound) {r : Nat} (low : p.rMin ≤ r) (high : r ≤ p.rMax) :
    6 ≤ convertRate p r ∧ convertRate p r ≤ 400 := by
  obtain ⟨hMin, hMax, one, two⟩ := h.rates
  obtain ⟨lower, upper⟩ := convertRate_near (r := r) (by omega) p
  constructor
  · by_contra short
    have small : r * (convertRate p r + 1) ≤ 5400 * 6 := Nat.mul_le_mul (by omega) (by omega)
    omega
  · by_contra long
    have large : r * 401 ≤ r * convertRate p r := Nat.mul_le_mul_left r (by omega)
    omega

/-- A valid plan's lane floor lies in 5-180 ds. -/
theorem Plan.sound.laneFloor_bounds {p : Plan} (h : p.sound) (n : Nat) : 5 ≤ laneFloor p n ∧ laneFloor p n ≤ 180 := by
  obtain ⟨green, greenMax, amberMax, redMax⟩ := h.timings
  constructor
  · have cycle := (laneFloor_le_iff (p := p) (n := n)).mp le_rfl
    omega
  · have lanes : 1 ≤ if n = 0 then 1 else n := by split <;> omega
    exact laneFloor_le_iff.mpr ⟨by omega, by omega⟩

/-- R82 to R84: the flags of a finished rate, in the words of the manual. -/
theorem finishRate_flags {p : Plan} (band : p.rMin ≤ p.rMax) (n : Nat) (v : Int) (miss impl : Bool) :
    (finishRate p n v miss impl).flags =
      { miss := miss, impl := impl
        high := decide ((p.rMax : Int) < v) || decide (convertRate p (clampRate p v) < laneFloor p n)
        low := decide (v < (p.rMin : Int)), round := decide (¬ clampRate p v ∣ 36000 * p.size), stack := false } := by
  simp only [finishRate, clampLow_eq band, inexact_eq, clampHigh, floorHigh]

/-- Settles O32: the clamp, the conversion by its mode and the lane floor as a least bound; the ranges of a valid plan
follow from those three. -/
theorem periodsAreConvertedAndFloored : Obligations.PeriodsAreConvertedAndFloored := by
  intro p n v miss impl rMinPos band
  obtain ⟨low, high⟩ := clampRate_mem_band band v
  have pos : 0 < clampRate p v := by omega
  obtain ⟨cycle, round⟩ := (laneFloor_le_iff (p := p) (n := n)).mp le_rfl
  refine ⟨clampRate_of_above, clampRate_of_below band, clampRate_of_inBand, low, high, convertRate_nearest_spec pos,
    convertRate_short_spec pos, convertRate_long_spec pos, cycle, round, fun f fits fitsRound =>
    laneFloor_le_iff.mpr ⟨fits, fitsRound⟩, rfl, finishRate_flags band n v miss impl, fun rec valid isPlan => ?ranges⟩
  case ranges =>
    have sound : p.sound := ⟨rec, valid, isPlan⟩
    obtain ⟨least, most⟩ := sound.convertRate_bounds low high
    obtain ⟨floorLeast, floorMost⟩ := sound.laneFloor_bounds n
    exact ⟨least, most, floorLeast, floorMost, le_max_of_le_right floorLeast, max_le most (by omega)⟩

end Sys2Proof.Machine
end

section
/-! Passage accounting and the pick (08_release_clock_and_lane_cycles.md, R134 to R138). What a passage event does to a
lane is said once per branch and carried over `n` events by induction; O22 is assembled from that. What the pick chooses
is the head of one list of lanes, `Ramp.serveOrder`; O49 is assembled from that and from what `Ramp.give` writes. -/

namespace Sys2Proof.Machine

/-! ## Passages (R138) -/

section Passages
variable {x : Lane}

/-- R138: an event counts as served in GREEN, in AMBER, and in RED while the grace time runs. -/
theorem Lane.windowOpen_iff : x.windowOpen = true ↔ (∃ m, x.cycle = .green m) ∨ (∃ m, x.cycle = .amber m) ∨
    (∃ m, x.cycle = .red m ∧ x.grace ≠ none) := by
  cases cycle : x.cycle <;> simp [Lane.windowOpen, cycle, Option.isSome_iff_ne_none]

/-- R138: an event counts as a violation in READY, and in RED without grace time. -/
theorem Lane.violated_iff : x.violated = true ↔ x.cycle = .ready ∨ ∃ m, x.cycle = .red m ∧ x.grace = none := by
  cases cycle : x.cycle <;> simp [Lane.violated, cycle]

/-- No event is both served and a violation. -/
theorem Lane.windowOpen_of_violated (h : x.violated = true) : x.windowOpen = false := by
  rw [← Bool.not_eq_true, Lane.windowOpen_iff]
  obtain ready | ⟨m, red, noGrace⟩ := Lane.violated_iff.mp h
  · simp [ready]
  · simp [red, noGrace]

theorem Lane.passageEvent_of_windowOpen (h : x.windowOpen = true) :
    x.passageEvent = { x with
      served := min 255 (x.served + 1), window := min 255 (x.window + 1),
      extra := if x.heldSize < min 255 (x.window + 1) then min 255 (x.extra + 1) else x.extra } := if_pos h

theorem Lane.passageEvent_of_violated (h : x.violated = true) :
    x.passageEvent = { x with violations := min 255 (x.violations + 1) } := by
  rw [Lane.passageEvent, if_neg (Bool.eq_false_iff.mp (Lane.windowOpen_of_violated h)), if_pos h, saturate]

theorem Lane.passageEvent_of_off (h : x.cycle = .off) : x.passageEvent = x := by
  simp [Lane.passageEvent, Lane.windowOpen, Lane.violated, h]

theorem Lane.passages_of_off (off : x.cycle = .off) (n : Nat) : x.passages n = x := by
  induction n with
  | zero => rfl
  | succ n ih => rw [Lane.passages, Lane.passageEvent_of_off off, ih]

/-- A violation changes nothing that decides how the next event counts. -/
theorem Lane.passages_of_violated (h : x.violated = true) (bound : x.violations ≤ 255) (n : Nat) :
    x.passages n = { x with violations := min 255 (x.violations + n) } := by
  induction n generalizing x with
  | zero => simp [Lane.passages, bound]
  | succ n ih =>
    have same : ({ x with violations := min 255 (x.violations + 1) } : Lane).violated = true := h
    have count : min 255 (min 255 (x.violations + 1) + n) = min 255 (x.violations + (n + 1)) := by omega
    rw [Lane.passages, Lane.passageEvent_of_violated h, ih same (min_le_left _ _), count]

/-- The extra count takes the events that come once the window count has reached the release size held. -/
theorem Lane.passages_of_windowOpen (h : x.windowOpen = true) (served : x.served ≤ 255) (window : x.window ≤ 255)
    (extra : x.extra ≤ 255) (size : x.heldSize < 255) (n : Nat) :
    x.passages n = { x with
      served := min 255 (x.served + n), window := min 255 (x.window + n),
      extra := min 255 (x.extra + (n - (x.heldSize - x.window))) } := by
  induction n generalizing x with
  | zero => simp [Lane.passages, served, window, extra]
  | succ n ih =>
    rw [Lane.passages, Lane.passageEvent_of_windowOpen h]
    have extraBound : (if x.heldSize < min 255 (x.window + 1) then min 255 (x.extra + 1) else x.extra) ≤ 255 := by
      split <;> omega
    refine Eq.trans (ih h (min_le_left _ _) (min_le_left _ _) extraBound size) ?_
    have servedCount : min 255 (min 255 (x.served + 1) + n) = min 255 (x.served + (n + 1)) := by omega
    have windowCount : min 255 (min 255 (x.window + 1) + n) = min 255 (x.window + (n + 1)) := by omega
    have extraCount : min 255 ((if x.heldSize < min 255 (x.window + 1) then min 255 (x.extra + 1) else x.extra) +
        (n - (x.heldSize - min 255 (x.window + 1)))) = min 255 (x.extra + (n + 1 - (x.heldSize - x.window))) := by
      split <;> omega
    rw [Lane.mk.injEq]
    exact ⟨rfl, rfl, rfl, rfl, windowCount, rfl, rfl, rfl, rfl, rfl, servedCount, rfl, extraCount⟩

end Passages

/-- Settles O22: a lane in OFF counts nothing, and the two ways to count are carried over the `n` events. -/
theorem passagesAreCounted : Obligations.PassagesAreCounted := by
  intro x n served window extra violations size
  exact ⟨fun off => Lane.passages_of_off off n,
    fun ready => Lane.passages_of_violated (Lane.violated_iff.mpr (.inl ready)) violations n,
    fun m red noGrace => Lane.passages_of_violated (Lane.violated_iff.mpr (.inr ⟨m, red, noGrace⟩)) violations n,
    fun opened => Lane.passages_of_windowOpen opened served window extra (by omega) n,
    Lane.windowOpen_iff⟩

/-! ## The choice among the eligible lanes (R137) -/

/-- The eligible lanes in rotation order. -/
def Ramp.eligibleRotation (r : Ramp) (gating : Bool) : List (Fin 3) :=
  [r.pointer + 1, r.pointer + 2, r.pointer].filter (r.eligible gating)

/-- The eligible lanes in the wait order. -/
def Ramp.eligibleWaiting (r : Ramp) (gating : Bool) : List (Fin 3) := r.waitOrder.filter (r.eligible gating)

/-- The eligible lanes in rotation order whose starvation count reaches the plan's limit. -/
def Ramp.eligibleStarved (r : Ramp) (p : Plan) : List (Fin 3) :=
  (r.eligibleRotation p.gating).filter (fun l => decide (p.starvationLimit ≤ (r.lane l).starvation))

/-- R137: the eligible lanes as the plan's leveling mode ranks them. -/
def Ramp.serveOrder (r : Ramp) (p : Plan) : List (Fin 3) :=
  if p.leveling = .rotate then r.eligibleRotation p.gating
  else if p.leveling = .wait then r.eligibleWaiting p.gating ++ r.eligibleRotation p.gating
  else r.eligibleStarved p ++ r.eligibleWaiting p.gating ++ r.eligibleRotation p.gating

section Choice
variable {r : Ramp} {p : Plan}

theorem Ramp.used_of_eligible {gating : Bool} {l : Fin 3} (h : r.eligible gating l = true) : r.used l = true := by
  obtain ⟨inService, -⟩ := (Ramp.eligible_iff r gating l).mp h
  simp only [Ramp.laneInService, Bool.and_eq_true] at inService
  exact inService.1.1

/-- An eligible lane is a used one, so the eligible lanes in rotation order are found among all three. -/
theorem Ramp.filter_rotation (gating : Bool) : r.rotation.filter (r.eligible gating) = r.eligibleRotation gating := by
  rw [Ramp.rotation, List.filter_filter]
  refine List.filter_congr fun l _ => ?_
  cases eligible : r.eligible gating l
  · rfl
  · rw [Ramp.used_of_eligible eligible, Bool.and_true]

theorem Ramp.find?_rotation (gating : Bool) :
    r.rotation.find? (r.eligible gating) = (r.eligibleRotation gating).head? := by
  rw [← Ramp.filter_rotation, List.head?_filter]

theorem Ramp.find?_rotation_starved :
    r.rotation.find? (fun l => r.eligible p.gating l && decide (p.starvationLimit ≤ (r.lane l).starvation)) =
      (r.eligibleStarved p).head? := by
  rw [Ramp.eligibleStarved, ← Ramp.filter_rotation, List.filter_filter, List.head?_filter]
  simp only [Bool.and_comm]

theorem Ramp.chooseWaiting_eq_head? (gating : Bool) :
    r.chooseWaiting gating = (r.eligibleWaiting gating ++ r.eligibleRotation gating).head? := by
  rw [Ramp.chooseWaiting, List.head?_append, ← Ramp.find?_rotation, Ramp.eligibleWaiting, List.head?_filter]
  cases r.waitOrder.find? (r.eligible gating) <;> rfl

theorem Ramp.choose_eq_head? : r.choose p = (r.serveOrder p).head? := by
  cases mode : p.leveling with
  | rotate => simp [Ramp.choose, Ramp.serveOrder, mode, Ramp.find?_rotation]
  | wait => simp [Ramp.choose, Ramp.serveOrder, mode, Ramp.chooseWaiting_eq_head?]
  | waitGuard =>
    simp only [Ramp.choose, Ramp.serveOrder, mode, reduceCtorEq, if_false, Ramp.find?_rotation_starved,
      Ramp.chooseWaiting_eq_head?, List.append_assoc]
    rw [List.head?_append (l := r.eligibleStarved p)]
    cases (r.eligibleStarved p).head? <;> rfl

end Choice

/-! ## The pick (R125, R136) -/

section Pick
variable {r : Ramp} {p : Plan}

theorem RampState.meters_iff {s : RampState} : s.meters = true ↔ s = .metering ∨ s = .fallback := by
  cases s <;> simp [RampState.meters]

theorem Ramp.waitsAtDue_iff : r.waitsAtDue = true ↔ r.clock.active.isSome = true ∧
    r.clock.state = .due ∧ r.clock.frozen = false ∧ (r.state = .metering ∨ r.state = .fallback) := by
  simp only [Ramp.waitsAtDue, Bool.and_eq_true, decide_eq_true_eq, Bool.not_eq_true', RampState.meters_iff]
  tauto

theorem Ramp.pick_of_not_waitsAtDue (h : ¬r.waitsAtDue = true) : r.pick p = r := if_neg h

theorem Ramp.pick_of_choose_none (h : r.choose p = none) : r.pick p = r := by
  simp only [Ramp.pick, h, ite_self]

theorem Ramp.pick_of_choose_some {l : Fin 3} {a : Nat} (waits : r.waitsAtDue = true) (h : r.choose p = some l)
    (active : r.clock.active = some a) : r.pick p = r.give p l a := by
  simp only [Ramp.pick, waits, if_true, h, active, Option.getD_some]

end Pick

/-- Settles O49: the order of the obligation is `serveOrder`, whose head the pick chooses; what the pick then writes is
what `give` writes, field by field. -/
theorem pickServesByTheMode : Obligations.PickServesByTheMode := by
  intro p r eligible rotation waiting starved order waits
  have ranked : order = r.serveOrder p := rfl
  have chosen : r.choose p = order.head? := by rw [ranked, Ramp.choose_eq_head?]
  refine ⟨fun idle => ?nothing, fun due l a first active => ?served⟩
  case nothing =>
    obtain notDue | nobody := idle
    · exact Ramp.pick_of_not_waitsAtDue fun h => notDue (Ramp.waitsAtDue_iff.mp h).2
    · exact Ramp.pick_of_choose_none (by rw [chosen, nobody, List.head?_nil])
  case served =>
    have waitsAtDue : r.waitsAtDue = true := Ramp.waitsAtDue_iff.mpr ⟨by rw [active, Option.isSome_some], due⟩
    exact Ramp.pick_of_choose_some waitsAtDue (chosen.trans first) active

end Sys2Proof.Machine
end

section
/-! The layout of an interval report (11_management_requests_and_frame_layouts.md, R182). A lane hands over its counts, or
zeros when it is not used, so its bytes are three at fixed places; O35 reads the places off that. -/

namespace Sys2Proof.Machine

/-! ## What a lane hands over (R139) -/

/-- One of lane `l`'s counts as a report shows it. -/
def Ramp.reportedCount (r : Ramp) (count : Lane → Nat) (l : Fin 3) : Nat := if r.used l then count (r.lane l) else 0

section ReportedCount
variable {r : Ramp} {l : Fin 3}

theorem Ramp.reportedCount_of_used (h : r.used l = true) (count : Lane → Nat) :
    r.reportedCount count l = count (r.lane l) := if_pos h

theorem Ramp.reportedCount_of_not_used (h : r.used l = false) (count : Lane → Nat) : r.reportedCount count l = 0 :=
  if_neg (Bool.eq_false_iff.mp h)

end ReportedCount

theorem Ramp.laneBytes_eq (r : Ramp) (l : Fin 3) : r.laneBytes l =
    [u8 (r.reportedCount Lane.greens l), u8 (r.reportedCount Lane.served l), u8 (r.reportedCount Lane.violations l)] := by
  cases used : r.used l <;> simp [Ramp.laneBytes, Ramp.reportedCount, used]

theorem Ramp.extraSum_eq (r : Ramp) :
    r.extraSum = min 255 ((allLanes.filter r.used).map (fun l => (r.lane l).extra)).sum := by
  rw [Ramp.extraSum, saturate, List.sum_map_ite, List.map_const', List.sum_replicate, smul_zero, add_zero]
  simp only [Bool.decide_eq_true]

/-! ## The payload (R182) -/

section Payload
variable (k : Fin 4) (r : Ramp) (flags : Flags) (c : CloseRecord) (number : Nat)

theorem length_reportPayload : (reportPayload k r flags c number).length = 26 := by
  simp [reportPayload, groupBytes, u16, allLanes, Ramp.laneBytes_eq]

/-- The three bytes of lane `l` stand 17 bytes and `l` lanes into the payload. -/
theorem reportPayload_lane (l : Fin 3) : let b := reportPayload k r flags c number
    b[17 + 3 * l.val]? = some (u8 (r.reportedCount Lane.greens l)) ∧
    b[18 + 3 * l.val]? = some (u8 (r.reportedCount Lane.served l)) ∧
    b[19 + 3 * l.val]? = some (u8 (r.reportedCount Lane.violations l)) := by
  have lanes : allLanes.flatMap r.laneBytes = r.laneBytes 0 ++ (r.laneBytes 1 ++ (r.laneBytes 2 ++ [])) := rfl
  simp only [reportPayload, lanes, Ramp.laneBytes_eq]
  match l with
  | 0 => exact ⟨rfl, rfl, rfl⟩
  | 1 => exact ⟨rfl, rfl, rfl⟩
  | 2 => exact ⟨rfl, rfl, rfl⟩

end Payload

/-- Settles O35: the 17 bytes before the lanes stand in `reportPayload` one by one, and each lane's three are its reported
counts. -/
theorem reportsAreLaidOut : Obligations.ReportsAreLaidOut := by
  intro k r flags c number b word
  refine ⟨length_reportPayload k r flags c number, rfl, rfl, rfl, ⟨rfl, rfl⟩, ⟨rfl, rfl⟩, ⟨rfl, rfl⟩, ⟨rfl, rfl⟩,
    ⟨rfl, rfl⟩, ⟨rfl, rfl⟩, ?extras, rfl, fun l used => ?used, fun l unused => ?unused⟩
  case extras =>
    rw [← Ramp.extraSum_eq]
    rfl
  case used => simpa only [Ramp.reportedCount_of_used used] using reportPayload_lane k r flags c number l
  case unused => simpa only [Ramp.reportedCount_of_not_used unused, u8] using reportPayload_lane k r flags c number l

end Sys2Proof.Machine
end

section
/-! What an event can do to a ramp: `RampMove` lists the moves that the manual's rules make on one ramp, each with the guard
under which its rule makes it. Every invariant of a ramp (R42, R94, R105, R114 to R117, R122, R132, R134) is then one
induction-free case analysis over the moves. -/

namespace Sys2Proof.Machine

/-- What a part of an event may do to the aspects last sent to the heads (R147, R149). -/
inductive HeadUse where
  | keeps
  | invalidates
  | tells

/-- The aspect last sent may go from `a` to `b`. -/
def HeadUse.allows (u : HeadUse) (a b : Option Aspect) : Prop :=
  match u with
  | .keeps => b = a
  | .invalidates => b = a ∨ b = none
  | .tells => True

theorem HeadUse.allows_refl (u : HeadUse) (a : Option Aspect) : u.allows a a := by
  cases u <;> simp [HeadUse.allows]

theorem HeadUse.allows_trans {u : HeadUse} {a b c : Option Aspect} (h1 : u.allows a b) (h2 : u.allows b c) :
    u.allows a c := by
  cases u <;> simp_all [HeadUse.allows]
  rcases h2 with h2 | h2 <;> simp_all

/-- The ramps agree in all that an invariant of ramps speaks of, but for the aspects last sent to their heads. -/
structure Ramp.Alike (u : HeadUse) (r r' : Ramp) : Prop where
  stack : r'.stack = r.stack
  rPrev : r'.rPrev = r.rPrev
  config : r'.config = r.config
  state : r'.state = r.state
  requestHold : r'.requestHold = r.requestHold
  inputHold : r'.inputHold = r.inputHold
  waitOrder : r'.waitOrder = r.waitOrder
  faultPending : r'.faultPending = r.faultPending
  clock : r'.clock = { r.clock with awaiting := r'.clock.awaiting }
  cycle : ∀ l, (r'.lane l).cycle = (r.lane l).cycle
  isOpen : ∀ l, (r'.lane l).isOpen = (r.lane l).isOpen
  disabled : ∀ l, (r'.head l).map (fun h => h.disabled) = (r.head l).map (fun h => h.disabled)
  sent : ∀ l, u.allows ((r.head l).bind (fun h => h.sent)) ((r'.head l).bind (fun h => h.sent))

/-- The state that a ramp returns to from SUSPENDED (R107, R117). -/
def HeldFrom.back (h : HeldFrom) : RampState :=
  match h with
  | .starting => .metering
  | .metering => .metering
  | .fallback => .fallback

/-- The clock comes to DUE and a staged period is swapped in (R124 step 1). -/
def Ramp.swapDue (r : Ramp) : Ramp :=
  (r.updClock (fun c => { c with state := .due, frozen := false, awaiting := false })).swap

/-- One move on a ramp under the plan table `plans`; `running` holds of the plan of the running job, and `u` says what the
move may do to the aspects last sent. -/
inductive RampMove (plans : Table Plan) (running : Plan → Prop) (u : HeadUse) : Ramp → Ramp → Prop where
  | aside {r r'} : r.Alike u r' → RampMove plans running u r r'
  | pick {r p} : plans.get r.top = some p → RampMove plans running u r (r.pick p)
  | swapDue {r} : (r.state.metersOrHeld = true ∨ r.clock.counting = true) → RampMove plans running u r r.swapDue
  | faultCheck {r p} : plans.get r.top = some p → RampMove plans running u r (r.faultCheck p)
  | lanesToRed {r} (p) : r.state.metersOrHeld = true → RampMove plans running u r (r.lanesToRed p)
  | suspend {r} (a b) : r.state.active = true → (a || b) = true →
      RampMove plans running u r ({ r with requestHold := a, inputHold := b } : Ramp).enterSuspended
  | holds {r} (a b) : ((a || b) = r.state.isSuspended ∨ (a || b) = (r.requestHold || r.inputHold)) →
      RampMove plans running u r { r with requestHold := a, inputHold := b }
  | back {r h} : r.state = .suspended h → RampMove plans running u r
      { r with requestHold := false, inputHold := false, state := h.back, clock := { r.clock with frozen := false } }
  | begin {r} : r.state = .starting → RampMove plans running u r { r with state := .metering, warningTimer := none }
  | toDark {r} : RampMove plans running u r r.toDark
  | toClearing {r} : r.state.active = true → RampMove plans running u r r.toClearing
  | started {r} (c) : r.state = .dark → (plans.get r.top).isSome = true → RampMove plans running u r (r.started c)
  | setFaultPending {r} : r.state.active = true → RampMove plans running u r r.setFaultPending
  | deliverInterval {r x} (c) : running x.plan → r.state.active = true →
      RampMove plans running u r (r.deliverInterval x.plan (computeInterval x c))
  | deliverStart {r x} (carried) : running x.plan → r.state.active = true →
      RampMove plans running u r (r.deliverStart (computeStart x carried))
  | resumed {r p} : plans.get r.top = some p → r.state = .fallback → RampMove plans running u r (r.resumed p)
  | deliverDemand {r} (l b) : RampMove plans running u r (r.deliverDemand l b)
  | flushStart {r p} : plans.get r.top = some p → RampMove plans running u r (r.flushStart p)
  | flushEnd {r p} : plans.get r.top = some p → RampMove plans running u r (r.flushEnd p)
  | endGreen {r l} : (r.lane l).cycle.busy = true → RampMove plans running u r (r.endGreen l)
  | endWindow {r l} : (r.lane l).cycle.busy = true → RampMove plans running u r (r.endWindow l)
  | enterReady {r l} : (r.lane l).cycle.isRed = true → RampMove plans running u r (r.enterReady l)
  | closePending {r} (l) : RampMove plans running u r (r.updLane l (fun x => { x with closePending := true }))
  | laneOff {r} (l) : RampMove plans running u r (r.laneOff l)
  | disable {r} (l cause) : RampMove plans running u r
      ((r.updHead l (fun h => { h with disabled := some cause })).laneDisabled l)
  | openLane {r} (l) : RampMove plans running u r (r.openLane l)
  | redAtOpen {r} (l p) : RampMove plans running u r (r.redAtOpen l p)
  | stack {r} (st) : st ≠ [] → (st.length ≤ 4 ∨ st.length ≤ r.stack.length) →
      (∀ n ∈ st, n ∈ r.stack ∨ (plans.get n).isSome = true) →
      (∀ n ∈ st.drop 1, n ∈ r.stack.drop 1 ∨ (plans.get n).isSome = true) →
      (r.state ≠ .dark → (plans.get (st.getLast?.getD 0)).isSome = true ∨ st.getLast?.getD 0 = r.top) →
      RampMove plans running u r { r with stack := st }

end Sys2Proof.Machine
end

section
/-! What the operations on one ramp make of its lanes (R127, R133): cycle states, open flags, and the order in which greens end. -/

namespace Sys2Proof.Machine

/-! ## Lanes after an operation on one ramp -/

@[simp] theorem Lane.landed_cycle (x : Lane) : x.landed.cycle = x.cycle := by
  simp only [Lane.landed]; split <;> rfl

theorem Ramp.cycle_laneOff (r : Ramp) (l j : Fin 3) :
    ((r.laneOff l).lane j).cycle = if j = l then .off else (r.lane j).cycle := by
  rw [Ramp.lane_laneOff]
  split <;> simp

theorem Ramp.isOpen_laneOff (r : Ramp) {l j : Fin 3} (h : j ≠ l) : ((r.laneOff l).lane j).isOpen = (r.lane j).isOpen := by
  rw [Ramp.lane_laneOff, if_neg h]

theorem Ramp.cycle_lanesOff (r : Ramp) (j : Fin 3) : (r.lanesOff.lane j).cycle = .off := by
  rw [Ramp.lane_lanesOff, Lane.landed_cycle]

/-- The end of a green window leaves every other lane as it is, and the lane itself RED or OFF. -/
theorem Ramp.lane_endWindow (r : Ramp) (l j : Fin 3) : (r.endWindow l).lane j = 
    if j = l then (if (r.lane l).closePending then { r.lane l with cycle := .off, grace := none }.landed
      else (r.lane l).toRed) else r.lane j := by
  simp only [Ramp.endWindow]
  split
  · rw [Ramp.lane_laneOff]
  · simp

theorem Ramp.lane_endGreen (r : Ramp) (l j : Fin 3) : (r.endGreen l).lane j =
    if j = l then (if (r.lane l).heldAmber = 0 then (r.endWindow l).lane l
      else { r.lane l with cycle := .amber (r.lane l).heldAmber }) else r.lane j := by
  simp only [Ramp.endGreen]
  by_cases hj : j = l
  · subst hj
    split <;> simp
  · split <;> simp [hj, Ramp.lane_endWindow]

/-- The lane holds no green window after its window ended. -/
theorem Ramp.busy_endWindow (r : Ramp) (l : Fin 3) : ((r.endWindow l).lane l).cycle.busy = false := by
  rw [Ramp.lane_endWindow, if_pos rfl]
  split <;> simp [Lane.toRed, LaneCycle.busy]

theorem Ramp.isGreen_endGreen (r : Ramp) (l : Fin 3) : ((r.endGreen l).lane l).cycle.isGreen = false := by
  rw [Ramp.lane_endGreen, if_pos rfl]
  split
  · have := r.busy_endWindow l
    cases h : ((r.endWindow l).lane l).cycle <;> simp_all [LaneCycle.busy, LaneCycle.isGreen]
  · rfl

/-- The greens of a ramp that enters SUSPENDED end one lane after another. -/
def Ramp.greensEnded (r : Ramp) : Ramp :=
  allLanes.foldl (fun r l =>
    match (r.lane l).cycle with
    | .green _ => r.endGreen l
    | _ => r) r

/-- A green of lane `l` ends, if it has one. -/
def Ramp.greenEnded (r : Ramp) (l : Fin 3) : Ramp := if (r.lane l).cycle.isGreen then r.endGreen l else r

theorem Ramp.greensEnded_eq (r : Ramp) : r.greensEnded = ((r.greenEnded 0).greenEnded 1).greenEnded 2 := by
  have step : ∀ (r : Ramp) (l : Fin 3),
      (match (r.lane l).cycle with | .green _ => r.endGreen l | _ => r) = r.greenEnded l := by
    intro r l
    cases h : (r.lane l).cycle <;> simp [Ramp.greenEnded, h, LaneCycle.isGreen]
  simp only [Ramp.greensEnded, allLanes, List.foldl_cons, List.foldl_nil, step]

/-- The state a ramp is SUSPENDED in, entered from its present one. -/
theorem Ramp.enterSuspended_eq (r : Ramp) : r.enterSuspended =
    match r.state with
    | .starting => { r with state := .suspended .starting, warningTimer := none }
    | .metering => { r.greensEnded with
        state := .suspended .metering, clock := { r.greensEnded.clock with frozen := decide (r.greensEnded.clock.state ≠ .stopped) } }
    | .fallback => { r.greensEnded with
        state := .suspended .fallback, clock := { r.greensEnded.clock with frozen := decide (r.greensEnded.clock.state ≠ .stopped) } }
    | _ => r := rfl

end Sys2Proof.Machine
end

section
/-! Lanes in GREEN or AMBER after the operations on one ramp, and facts read off a ramp (R134). -/

namespace Sys2Proof.Machine

theorem LaneCycle.busy_of_isGreen {c : LaneCycle} (h : c.isGreen = true) : c.busy = true := by
  cases c <;> simp_all [LaneCycle.isGreen, LaneCycle.busy]

@[simp] theorem Ramp.greenEnded_keeps (r : Ramp) (l : Fin 3) :
    (r.greenEnded l).stack = r.stack ∧ (r.greenEnded l).rPrev = r.rPrev ∧ (r.greenEnded l).config = r.config ∧
    (r.greenEnded l).state = r.state ∧ (r.greenEnded l).requestHold = r.requestHold ∧
    (r.greenEnded l).inputHold = r.inputHold ∧ (r.greenEnded l).holdInput = r.holdInput ∧
    (r.greenEnded l).faultPending = r.faultPending ∧ (r.greenEnded l).clock = r.clock ∧
    (r.greenEnded l).heads = r.heads := by
  simp only [Ramp.greenEnded]; split <;> simp

@[simp] theorem Ramp.greensEnded_keeps (r : Ramp) :
    r.greensEnded.stack = r.stack ∧ r.greensEnded.rPrev = r.rPrev ∧ r.greensEnded.config = r.config ∧
    r.greensEnded.state = r.state ∧ r.greensEnded.requestHold = r.requestHold ∧
    r.greensEnded.inputHold = r.inputHold ∧ r.greensEnded.holdInput = r.holdInput ∧
    r.greensEnded.faultPending = r.faultPending ∧ r.greensEnded.clock = r.clock ∧
    r.greensEnded.heads = r.heads := by
  simp [Ramp.greensEnded_eq]

/-- The end of a green leaves no window where none was. -/
theorem Ramp.busy_endGreen {r : Ramp} {l j : Fin 3} (h : ((r.endGreen l).lane j).cycle.busy = true)
    (hl : (r.lane l).cycle.busy = true) : (r.lane j).cycle.busy = true := by
  by_cases hj : j = l
  · rwa [hj]
  · rwa [Ramp.lane_endGreen, if_neg hj] at h

theorem Ramp.busy_greenEnded {r : Ramp} {l j : Fin 3} (h : ((r.greenEnded l).lane j).cycle.busy = true) :
    (r.lane j).cycle.busy = true := by
  simp only [Ramp.greenEnded] at h
  split at h
  · rename_i hl
    exact Ramp.busy_endGreen h (LaneCycle.busy_of_isGreen hl)
  · exact h

theorem Ramp.isGreen_greenEnded (r : Ramp) (l j : Fin 3) :
    ((r.greenEnded l).lane j).cycle.isGreen = if j = l then false else (r.lane j).cycle.isGreen := by
  simp only [Ramp.greenEnded]
  by_cases hl : (r.lane l).cycle.isGreen = true
  · rw [if_pos hl]
    split
    · subst j
      exact r.isGreen_endGreen l
    · rename_i hj
      rw [Ramp.lane_endGreen, if_neg hj]
  · rw [if_neg hl]
    split
    · subst j
      simpa using hl
    · rfl

theorem Ramp.busy_greensEnded {r : Ramp} {j : Fin 3} (h : (r.greensEnded.lane j).cycle.busy = true) :
    (r.lane j).cycle.busy = true := by
  rw [Ramp.greensEnded_eq] at h
  exact Ramp.busy_greenEnded (Ramp.busy_greenEnded (Ramp.busy_greenEnded h))

theorem Ramp.isGreen_greensEnded (r : Ramp) (j : Fin 3) : (r.greensEnded.lane j).cycle.isGreen = false := by
  rw [Ramp.greensEnded_eq]
  simp only [Ramp.isGreen_greenEnded]
  fin_cases j <;> rfl

/-! ## Facts read off a ramp after a move -/

theorem Ramp.used_congr {r r' : Ramp} (h : r'.config = r.config) (l : Fin 3) : r'.used l = r.used l := by
  simp [Ramp.used, Ramp.laneConfig, h]

theorem Ramp.disabled_eq (r : Ramp) (l : Fin 3) : r.disabled l = (((r.head l).map (fun h => h.disabled)).getD none).isSome := by
  unfold Ramp.disabled
  cases r.head l <;> rfl

theorem RampState.active_of_metersOrHeld {st : RampState} (h : st.metersOrHeld = true) : st.active = true := by
  cases st <;> simp_all [RampState.metersOrHeld, RampState.active]

theorem RampState.metersOrHeld_of_meters {st : RampState} (h : st.meters = true) : st.metersOrHeld = true := by
  cases st <;> simp_all [RampState.metersOrHeld, RampState.meters]

@[simp] theorem Ramp.laneDisabled_keeps (r : Ramp) (l : Fin 3) :
    (r.laneDisabled l).stack = r.stack ∧ (r.laneDisabled l).rPrev = r.rPrev ∧ (r.laneDisabled l).config = r.config ∧
    (r.laneDisabled l).state = r.state ∧ (r.laneDisabled l).requestHold = r.requestHold ∧
    (r.laneDisabled l).inputHold = r.inputHold ∧ (r.laneDisabled l).holdInput = r.holdInput ∧
    (r.laneDisabled l).faultPending = r.faultPending ∧ (r.laneDisabled l).clock = r.clock ∧
    (r.laneDisabled l).heads = r.heads := by
  simp only [Ramp.laneDisabled]; split <;> simp

@[simp] theorem Ramp.openLane_keeps (r : Ramp) (l : Fin 3) :
    (r.openLane l).stack = r.stack ∧ (r.openLane l).rPrev = r.rPrev ∧ (r.openLane l).config = r.config ∧
    (r.openLane l).state = r.state ∧ (r.openLane l).requestHold = r.requestHold ∧
    (r.openLane l).inputHold = r.inputHold ∧ (r.openLane l).holdInput = r.holdInput ∧
    (r.openLane l).waitOrder = r.waitOrder ∧
    (r.openLane l).faultPending = r.faultPending ∧ (r.openLane l).clock = r.clock := by
  simp [Ramp.openLane]

@[simp] theorem Ramp.redAtOpen_keeps (r : Ramp) (l : Fin 3) (p : Plan) :
    (r.redAtOpen l p).stack = r.stack ∧ (r.redAtOpen l p).rPrev = r.rPrev ∧ (r.redAtOpen l p).config = r.config ∧
    (r.redAtOpen l p).state = r.state ∧ (r.redAtOpen l p).requestHold = r.requestHold ∧
    (r.redAtOpen l p).inputHold = r.inputHold ∧ (r.redAtOpen l p).holdInput = r.holdInput ∧
    (r.redAtOpen l p).waitOrder = r.waitOrder ∧ (r.redAtOpen l p).faultPending = r.faultPending ∧
    (r.redAtOpen l p).clock = r.clock ∧ (r.redAtOpen l p).heads = r.heads := by
  simp only [Ramp.redAtOpen]; split <;> simp

@[simp] theorem Ramp.swapDue_keeps (r : Ramp) :
    r.swapDue.stack = r.stack ∧ r.swapDue.rPrev = r.rPrev ∧ r.swapDue.config = r.config ∧
    r.swapDue.requestHold = r.requestHold ∧ r.swapDue.inputHold = r.inputHold ∧ r.swapDue.holdInput = r.holdInput ∧
    r.swapDue.faultPending = r.faultPending ∧ r.swapDue.lanes = r.lanes ∧ r.swapDue.waitOrder = r.waitOrder ∧
    r.swapDue.heads = r.heads := by
  simp [Ramp.swapDue]

@[simp] theorem Ramp.countClean_keeps (r : Ramp) (p : Plan) (n : Nat) :
    (r.countClean p n).stack = r.stack ∧ (r.countClean p n).rPrev = r.rPrev ∧ (r.countClean p n).config = r.config ∧
    (r.countClean p n).state = r.state ∧ (r.countClean p n).requestHold = r.requestHold ∧
    (r.countClean p n).inputHold = r.inputHold ∧ (r.countClean p n).holdInput = r.holdInput ∧
    (r.countClean p n).lanes = r.lanes ∧ (r.countClean p n).waitOrder = r.waitOrder ∧
    (r.countClean p n).heads = r.heads := by
  simp only [Ramp.countClean]; split <;> simp

@[simp] theorem Ramp.deliverInterval_keeps (r : Ramp) (p : Plan) (x : JobResult) :
    (r.deliverInterval p x).stack = r.stack ∧ (r.deliverInterval p x).rPrev = some x.rate ∧
    (r.deliverInterval p x).config = r.config ∧
    (r.deliverInterval p x).state = r.state ∧ (r.deliverInterval p x).requestHold = r.requestHold ∧
    (r.deliverInterval p x).inputHold = r.inputHold ∧ (r.deliverInterval p x).holdInput = r.holdInput ∧
    (r.deliverInterval p x).lanes = r.lanes ∧ (r.deliverInterval p x).waitOrder = r.waitOrder ∧
    (r.deliverInterval p x).heads = r.heads := by
  simp only [Ramp.deliverInterval]; split <;> simp

@[simp] theorem Ramp.deliverStart_keeps (r : Ramp) (x : JobResult) :
    (r.deliverStart x).stack = r.stack ∧ (r.deliverStart x).rPrev = some x.rate ∧
    (r.deliverStart x).config = r.config ∧
    (r.deliverStart x).state = r.state ∧ (r.deliverStart x).requestHold = r.requestHold ∧
    (r.deliverStart x).inputHold = r.inputHold ∧ (r.deliverStart x).holdInput = r.holdInput ∧
    (r.deliverStart x).faultPending = r.faultPending ∧
    (r.deliverStart x).lanes = r.lanes ∧ (r.deliverStart x).waitOrder = r.waitOrder ∧
    (r.deliverStart x).heads = r.heads := by
  simp [Ramp.deliverStart]

@[simp] theorem Ramp.resumed_keeps (r : Ramp) (p : Plan) :
    (r.resumed p).stack = r.stack ∧ (r.resumed p).rPrev = r.rPrev ∧ (r.resumed p).config = r.config ∧
    (r.resumed p).state = r.state ∧ (r.resumed p).requestHold = r.requestHold ∧
    (r.resumed p).inputHold = r.inputHold ∧ (r.resumed p).holdInput = r.holdInput ∧
    (r.resumed p).lanes = r.lanes ∧ (r.resumed p).waitOrder = r.waitOrder ∧ (r.resumed p).heads = r.heads := by
  simp [Ramp.resumed]

@[simp] theorem Ramp.started_keeps (r : Ramp) (c : RampConfig) :
    (r.started c).stack = r.stack ∧ (r.started c).rPrev = r.rPrev ∧ (r.started c).config = r.config ∧
    (r.started c).state = .starting ∧ (r.started c).requestHold = r.requestHold ∧
    (r.started c).inputHold = r.inputHold ∧ (r.started c).holdInput = r.holdInput ∧
    (r.started c).faultPending = r.faultPending ∧ (r.started c).clock = r.clock ∧
    (r.started c).lanes = r.lanes ∧ (r.started c).waitOrder = r.waitOrder := by
  simp [Ramp.started]

@[simp] theorem Ramp.toDark_keeps (r : Ramp) :
    r.toDark.stack = r.stack ∧ r.toDark.rPrev = r.rPrev ∧ r.toDark.config = r.config ∧ r.toDark.state = .dark ∧
    r.toDark.requestHold = false ∧ r.toDark.inputHold = false ∧ r.toDark.holdInput = r.holdInput ∧
    r.toDark.faultPending = false ∧ r.toDark.clock = r.clock.stop ∧ r.toDark.waitOrder = [] := by
  simp [Ramp.toDark]

@[simp] theorem Ramp.toClearing_keeps (r : Ramp) :
    r.toClearing.stack = r.stack ∧ r.toClearing.rPrev = r.rPrev ∧ r.toClearing.config = r.config ∧
    r.toClearing.state = .clearing ∧ r.toClearing.requestHold = false ∧ r.toClearing.inputHold = false ∧
    r.toClearing.holdInput = r.holdInput ∧ r.toClearing.faultPending = false ∧
    r.toClearing.clock = r.clock.stop ∧ r.toClearing.waitOrder = [] ∧ r.toClearing.heads = r.heads := by
  simp [Ramp.toClearing]

@[simp] theorem Ramp.enterSuspended_keeps (r : Ramp) :
    r.enterSuspended.stack = r.stack ∧ r.enterSuspended.rPrev = r.rPrev ∧ r.enterSuspended.config = r.config ∧
    r.enterSuspended.requestHold = r.requestHold ∧ r.enterSuspended.inputHold = r.inputHold ∧
    r.enterSuspended.holdInput = r.holdInput ∧ r.enterSuspended.faultPending = r.faultPending ∧
    r.enterSuspended.clock = { r.clock with frozen := r.enterSuspended.clock.frozen } ∧
    r.enterSuspended.heads = r.heads := by
  rw [Ramp.enterSuspended_eq]; split <;> simp

end Sys2Proof.Machine
end

section
/-! What no move changes, and the one green window that every move keeps (R134). -/

namespace Sys2Proof.Machine

section Moves
variable {plans : Table Plan} {running : Plan → Prop} {u : HeadUse} {r r' : Ramp}

/-! ## What no move changes -/

theorem RampMove.config (m : RampMove plans running u r r') : r'.config = r.config := by
  cases m with
  | aside h => exact h.config
  | _ => simp

theorem RampMove.used (m : RampMove plans running u r r') (l : Fin 3) : r'.used l = r.used l :=
  Ramp.used_congr m.config l

/-- A move changes the aspects last sent as `u` allows. -/
theorem RampMove.sent (m : RampMove plans running u r r') (l : Fin 3) :
    u.allows ((r.head l).bind (fun h => h.sent)) ((r'.head l).bind (fun h => h.sent)) ∧
    (r'.head l).isSome = (r.head l).isSome := by
  have heads : r'.heads = r.heads → u.allows ((r.head l).bind (fun h => h.sent)) ((r'.head l).bind (fun h => h.sent)) ∧
      (r'.head l).isSome = (r.head l).isSome := by
    intro h
    simp only [Ramp.head, h]
    exact ⟨u.allows_refl _, trivial⟩
  have mapped : ∀ f : Head → Head, (∀ h, (f h).sent = h.sent) → r'.head l = (r.head l).map f →
      u.allows ((r.head l).bind (fun h => h.sent)) ((r'.head l).bind (fun h => h.sent)) ∧
      (r'.head l).isSome = (r.head l).isSome := by
    intro f hf h
    rw [h]
    cases r.head l <;> simp [hf, u.allows_refl]
  cases m with
  | aside h =>
    have := congrArg Option.isSome (h.disabled l)
    simp only [Option.isSome_map] at this
    exact ⟨h.sent l, this⟩
  | toDark => 
    refine mapped (fun h => { h with silence := none }) (fun _ => rfl) ?_
    simp [Ramp.toDark, Ramp.head]
  | started c => 
    refine mapped (Head.started c.headTimeout) (fun _ => rfl) ?_
    simp [Ramp.started, Ramp.head]
  | disable j cause =>
    have : ∀ r : Ramp, (r.laneDisabled j).head l = r.head l := fun r => by simp [Ramp.head]
    rw [this, Ramp.head_updHead]
    split
    · subst j
      cases r.head l <;> simp [u.allows_refl]
    · exact ⟨u.allows_refl _, rfl⟩
  | openLane j =>
    simp only [Ramp.openLane, Ramp.head_updHead, Ramp.head_updLane]
    split
    · subst j
      cases r.head l <;> simp [u.allows_refl]
    · exact ⟨u.allows_refl _, rfl⟩
  | _ => exact heads (by simp)

/-! ## One green window (R134) -/

/-- No two lanes of the ramp hold a green window. -/
def Ramp.oneWindow (r : Ramp) : Prop := ∀ l m, (r.lane l).cycle.busy = true → (r.lane m).cycle.busy = true → l = m

theorem Ramp.oneWindow_of_busy {r r' : Ramp} (h : r.oneWindow)
    (hb : ∀ l, (r'.lane l).cycle.busy = true → (r.lane l).cycle.busy = true) : r'.oneWindow :=
  fun l m hl hm => h l m (hb l hl) (hb m hm)

theorem Ramp.lane_of_lanes {r r' : Ramp} (h : r'.lanes = r.lanes) (l : Fin 3) : r'.lane l = r.lane l :=
  congrArg (fun v => v.get l) h

/-- A lane of a ramp that enters SUSPENDED stays, or its green ends. -/
theorem Ramp.lane_enterSuspended (r : Ramp) (l : Fin 3) :
    r.enterSuspended.lane l = r.lane l ∨ r.enterSuspended.lane l = r.greensEnded.lane l := by
  rw [Ramp.enterSuspended_eq]
  split
  · exact .inl rfl
  · exact .inr rfl
  · exact .inr rfl
  · exact .inl rfl

/-- But for the pick, no move makes a lane hold a green window that it did not hold. -/
theorem RampMove.busy_or_pick (m : RampMove plans running u r r') :
    (∃ p l a, r.waitsAtDue = true ∧ r.eligible p.gating l = true ∧ r.clock.active = some a ∧ r' = r.give p l a) ∨
    ∀ l, (r'.lane l).cycle.busy = true → (r.lane l).cycle.busy = true ∧
      ((r'.lane l).cycle.isGreen = true → (r.lane l).cycle.isGreen = true) := by
  have lanes : r'.lanes = r.lanes → ∀ l, (r'.lane l).cycle.busy = true → (r.lane l).cycle.busy = true ∧
      ((r'.lane l).cycle.isGreen = true → (r.lane l).cycle.isGreen = true) := by
    intro h l hb
    rw [Ramp.lane_of_lanes h] at hb ⊢
    exact ⟨hb, id⟩
  have cycles : (∀ l, (r'.lane l).cycle = (r.lane l).cycle ∨ (r'.lane l).cycle.busy = false) →
      ∀ l, (r'.lane l).cycle.busy = true → (r.lane l).cycle.busy = true ∧
      ((r'.lane l).cycle.isGreen = true → (r.lane l).cycle.isGreen = true) := by
    intro h l hb
    rcases h l with h | h
    · rw [h] at hb ⊢
      exact ⟨hb, id⟩
    · rw [h] at hb
      cases hb
  cases m with
  | aside h => exact .inr (cycles fun l => .inl (h.cycle l))
  | @pick p hp =>
    obtain h | ⟨l, a, hw, he, ha, h⟩ := r.pick_cases p
    · rw [h]
      exact .inr fun l hb => ⟨hb, id⟩
    · exact .inl ⟨p, l, a, hw, he, ha, h⟩
  | lanesToRed p hm =>
    refine .inr (cycles fun l => ?_)
    simp only [Ramp.lanesToRed, Ramp.lane, Three.get_tabulate]
    split
    · exact .inr rfl
    · exact .inl rfl
  | suspend a b ha hab =>
    refine .inr fun l hb => ?_
    have same : ({ r with requestHold := a, inputHold := b } : Ramp).lane l = r.lane l := rfl
    obtain h | h := Ramp.lane_enterSuspended { r with requestHold := a, inputHold := b } l
    · rw [h, same] at hb ⊢
      exact ⟨hb, id⟩
    · rw [h] at hb ⊢
      rw [← same]
      exact ⟨Ramp.busy_greensEnded hb, fun hg => absurd hg (by simp [Ramp.isGreen_greensEnded])⟩
  | toDark =>
    refine .inr (cycles fun l => .inr ?_)
    have : (r.toDark.lane l).cycle = (r.lanesOff.lane l).cycle := by
      simp [Ramp.toDark, Ramp.lane, Ramp.clearCounts, Lane.clearCounts]
    rw [this, Ramp.cycle_lanesOff]
    rfl
  | toClearing ha =>
    refine .inr (cycles fun l => .inr ?_)
    have : (r.toClearing.lane l).cycle = (r.lanesOff.lane l).cycle := rfl
    rw [this, Ramp.cycle_lanesOff]
    rfl
  | deliverDemand l b =>
    refine .inr (cycles fun j => .inl ?_)
    rw [Ramp.deliverDemand]
    have hu : (((r.updLane l (fun x => { x with demand := b }))).lane j).cycle = (r.lane j).cycle := by
      simp only [Ramp.lane_updLane]
      split
      · subst j; rfl
      · rfl
    split_ifs
    · rw [Ramp.lane_of_lanes (r := r.updLane l (fun x => { x with demand := b })) (by simp)]
      exact hu
    · exact hu
    · rw [Ramp.lane_of_lanes (r := r.updLane l (fun x => { x with demand := b })) (by simp)]
      exact hu
  | @endGreen l hl =>
    refine .inr fun j hb => ⟨Ramp.busy_endGreen hb hl, fun hg => ?_⟩
    by_cases hj : j = l
    · subst j
      rw [r.isGreen_endGreen l] at hg
      cases hg
    · rwa [Ramp.lane_endGreen, if_neg hj] at hg
  | @endWindow l hl =>
    refine .inr (cycles fun j => ?_)
    by_cases hj : j = l
    · subst j
      exact .inr (r.busy_endWindow l)
    · rw [Ramp.lane_endWindow, if_neg hj]
      exact .inl rfl
  | @enterReady l hl =>
    refine .inr (cycles fun j => ?_)
    have : (r.enterReady l).lane j = if j = l then { r.lane l with cycle := .ready } else r.lane j := by
      simp only [Ramp.enterReady]
      split
      · rw [Ramp.lane_of_lanes (r := r.updLane l (fun x => { x with cycle := .ready })) (by simp)]
        simp
      · simp
    rw [this]
    split
    · exact .inr rfl
    · exact .inl rfl
  | closePending l =>
    refine .inr (cycles fun j => .inl ?_)
    simp only [Ramp.lane_updLane]
    split
    · subst j; rfl
    · rfl
  | laneOff l =>
    refine .inr (cycles fun j => ?_)
    rw [Ramp.cycle_laneOff]
    split
    · exact .inr rfl
    · exact .inl rfl
  | disable l cause =>
    refine .inr (cycles fun j => ?_)
    simp only [Ramp.laneDisabled]
    split
    · exact .inl rfl
    · simp only [Ramp.lane_updLane]
      by_cases hj : j = l
      · subst j
        simp [Ramp.cycle_laneOff, LaneCycle.busy]
      · simp [hj, Ramp.cycle_laneOff]
  | openLane l =>
    refine .inr (cycles fun j => .inl ?_)
    simp only [Ramp.openLane, Ramp.lane_updHead, Ramp.lane_updLane]
    split
    · subst j; rfl
    · rfl
  | redAtOpen l p =>
    refine .inr (cycles fun j => ?_)
    simp only [Ramp.redAtOpen]
    split
    · simp only [Ramp.lane_updLane]
      split
      · exact .inr rfl
      · exact .inl rfl
    · exact .inl rfl
  | _ => exact .inr (lanes (by simp))

theorem RampMove.keeps_oneWindow (m : RampMove plans running u r r') (h : r.oneWindow) : r'.oneWindow := by
  obtain ⟨p, l, a, -, he, -, rfl⟩ | hb := m.busy_or_pick
  · obtain ⟨-, hready, hfree, -⟩ := (Ramp.eligible_iff _ _ _).mp he
    have only : ∀ j, ((r.give p l a).lane j).cycle.busy = true → j = l := by
      intro j hj
      rw [Ramp.cycle_give] at hj
      by_contra hne
      rw [if_neg hne, hfree j hne] at hj
      cases hj
    exact fun j m hj hm => (only j hj).trans (only m hm).symm
  · exact Ramp.oneWindow_of_busy h (fun l hl => (hb l hl).1)

end Moves
end Sys2Proof.Machine
end

section
/-! Every move keeps each GREEN lane in service (R132). -/

namespace Sys2Proof.Machine

section Moves
variable {plans : Table Plan} {running : Plan → Prop} {u : HeadUse} {r r' : Ramp}

/-! ## GREEN only in service (R132) -/

theorem Ramp.laneInService_congr {r r' : Ramp} {l : Fin 3} (hc : r'.config = r.config)
    (hd : r'.disabled l = r.disabled l) (ho : (r'.lane l).isOpen = (r.lane l).isOpen) :
    r'.laneInService l = r.laneInService l := by
  rw [Ramp.laneInService, Ramp.laneInService, Ramp.used_congr hc, hd, ho]

theorem Ramp.disabled_of_heads {r r' : Ramp} (h : r'.heads = r.heads) (l : Fin 3) : r'.disabled l = r.disabled l := by
  simp [Ramp.disabled, Ramp.head, h]

theorem Ramp.isOpen_endGreen (r : Ramp) (l j : Fin 3) : ((r.endGreen l).lane j).cycle = .off ∨
    ((r.endGreen l).lane j).isOpen = (r.lane j).isOpen := by
  rw [Ramp.lane_endGreen]
  split_ifs with hj ha
  · subst j
    rw [Ramp.lane_endWindow, if_pos rfl]
    split_ifs
    · exact .inl (Lane.landed_cycle _)
    · exact .inr rfl
  · subst j
    exact .inr rfl
  · exact .inr rfl

theorem Ramp.isOpen_greenEnded (r : Ramp) (l j : Fin 3) : ((r.greenEnded l).lane j).cycle = .off ∨
    ((r.greenEnded l).lane j).isOpen = (r.lane j).isOpen := by
  simp only [Ramp.greenEnded]
  split
  · exact r.isOpen_endGreen l j
  · exact .inr rfl

theorem Ramp.isOpen_pick (r : Ramp) (p : Plan) (j : Fin 3) : ((r.pick p).lane j).isOpen = (r.lane j).isOpen := by
  obtain h | ⟨l, a, -, -, -, h⟩ := r.pick_cases p
  · rw [h]
  · rw [h, Ramp.lane_give, Ramp.countedLane]
    split_ifs <;> rfl

theorem Ramp.isOpen_deliverDemand (r : Ramp) (l j : Fin 3) (b : Bool) :
    ((r.deliverDemand l b).lane j).isOpen = (r.lane j).isOpen ∧
    ((r.deliverDemand l b).lane j).cycle = (r.lane j).cycle := by
  have h : (r.deliverDemand l b).lanes = (r.updLane l (fun x => { x with demand := b })).lanes := by
    rw [Ramp.deliverDemand]
    split_ifs <;> simp
  rw [Ramp.lane_of_lanes h]
  simp only [Ramp.lane_updLane]
  split
  · subst j
    exact ⟨rfl, rfl⟩
  · exact ⟨rfl, rfl⟩

theorem Ramp.lane_enterReady (r : Ramp) (l j : Fin 3) :
    (r.enterReady l).lane j = if j = l then { r.lane l with cycle := .ready } else r.lane j := by
  have h : (r.enterReady l).lanes = (r.updLane l (fun x => { x with cycle := .ready })).lanes := by
    rw [Ramp.enterReady]
    split_ifs <;> simp
  rw [Ramp.lane_of_lanes h]
  simp

theorem Ramp.disabled_openLane (r : Ramp) (l j : Fin 3) :
    (r.openLane l).disabled j = if j = l then false else r.disabled j := by
  rw [Ramp.disabled_eq, Ramp.disabled_eq, Ramp.openLane, Ramp.head_updHead]
  split_ifs
  · cases h : (r.updLane l Lane.opened).head l <;> rfl
  · rfl

/-- A lane that is not a green stays in service, unless a move takes it OFF. -/
theorem RampMove.inService (m : RampMove plans running u r r') (l : Fin 3) :
    (r'.lane l).cycle.isGreen = false ∨ (r.laneInService l = true → r'.laneInService l = true) := by
  have hc := m.config
  have same : r'.heads = r.heads → (r'.lane l).isOpen = (r.lane l).isOpen →
      (r'.lane l).cycle.isGreen = false ∨ (r.laneInService l = true → r'.laneInService l = true) :=
    fun hh ho => .inr (fun h => by rwa [Ramp.laneInService_congr hc (Ramp.disabled_of_heads hh l) ho])
  have off : (r'.lane l).cycle = .off →
      (r'.lane l).cycle.isGreen = false ∨ (r.laneInService l = true → r'.laneInService l = true) :=
    fun h => .inl (by rw [h]; rfl)
  cases m with
  | aside h =>
    refine .inr fun hs => ?_
    rwa [Ramp.laneInService_congr hc (by rw [Ramp.disabled_eq, Ramp.disabled_eq, h.disabled]) (h.isOpen l)]
  | pick hp => exact same (by simp) (r.isOpen_pick _ l)
  | lanesToRed p hm =>
    refine same (by simp) ?_
    simp only [Ramp.lanesToRed, Ramp.lane, Three.get_tabulate]
    split <;> rfl
  | suspend a b ha hab =>
    obtain h | h := Ramp.lane_enterSuspended { r with requestHold := a, inputHold := b } l
    · exact same (by simp) (by rw [h]; rfl)
    · exact .inl (by rw [h, Ramp.isGreen_greensEnded])
  | toDark =>
    refine off ?_
    have : (r.toDark.lane l).cycle = (r.lanesOff.lane l).cycle := by
      simp [Ramp.toDark, Ramp.lane, Ramp.clearCounts, Lane.clearCounts]
    rw [this, Ramp.cycle_lanesOff]
  | toClearing ha => exact off (r.cycle_lanesOff l)
  | started c hd ht =>
    refine .inr fun hs => ?_
    have : (r.started c).disabled l = false := by
      simp only [Ramp.disabled, Ramp.head, Ramp.started, Three.get_tabulate]
      cases r.heads.get l <;> rfl
    simp only [Ramp.laneInService, Bool.and_eq_true] at hs ⊢
    rw [this, Ramp.used_congr hc]
    exact ⟨⟨hs.1.1, hs.1.2⟩, rfl⟩
  | deliverDemand j b => exact same (by simp) (r.isOpen_deliverDemand j l b).1
  | @endGreen j hj =>
    obtain h | h := r.isOpen_endGreen j l
    · exact off h
    · exact same (by simp) h
  | @endWindow j hj =>
    by_cases h : l = j
    · subst l
      have := r.busy_endWindow j
      exact .inl (by
        by_contra hg
        rw [LaneCycle.busy_of_isGreen (by simpa using hg)] at this
        cases this)
    · exact same (by simp) (by rw [Ramp.lane_endWindow, if_neg h])
  | @enterReady j hj =>
    refine same (by simp) ?_
    rw [Ramp.lane_enterReady]
    split
    · subst l; rfl
    · rfl
  | closePending j =>
    refine same (by simp) ?_
    rw [Ramp.lane_updLane]
    split
    · subst l; rfl
    · rfl
  | laneOff j =>
    by_cases h : l = j
    · exact off (by rw [Ramp.cycle_laneOff, if_pos h])
    · exact same (by simp) (r.isOpen_laneOff h)
  | disable j cause =>
    by_cases h : l = j
    · subst l
      refine off ?_
      simp only [Ramp.laneDisabled]
      split
      · assumption
      · simp [Ramp.cycle_laneOff]
    · refine .inr fun hs => ?_
      rwa [Ramp.laneInService_congr hc]
      · have hh : ∀ r : Ramp, (r.laneDisabled j).head l = r.head l := fun r => by simp [Ramp.head]
        simp only [Ramp.disabled, hh, Ramp.head_updHead, if_neg h]
      · simp only [Ramp.laneDisabled]
        split
        · rfl
        · rw [Ramp.lane_updLane, if_neg h, Ramp.isOpen_laneOff _ h]
          rfl
  | openLane j =>
    refine .inr fun hs => ?_
    simp only [Ramp.laneInService, Bool.and_eq_true, Bool.not_eq_true'] at hs ⊢
    obtain ⟨⟨hu, ho⟩, hd⟩ := hs
    refine ⟨⟨by rwa [Ramp.used_congr hc], ?_⟩, ?_⟩
    · simp only [Ramp.openLane, Ramp.lane_updHead, Ramp.lane_updLane]
      split
      · rfl
      · exact ho
    · rw [Ramp.disabled_openLane, hd]
      split <;> rfl
  | redAtOpen j p =>
    refine same (by simp) ?_
    simp only [Ramp.redAtOpen]
    split
    · rw [Ramp.lane_updLane]
      split
      · subst l; rfl
      · rfl
    · rfl
  | _ => exact same (by simp) (by rw [Ramp.lane_of_lanes (r := r) (by simp)])

/-- R132: each GREEN lane of the ramp is in service, and the ramp meters. -/
def Ramp.greensServed (r : Ramp) : Prop :=
  ∀ l, (r.lane l).cycle.isGreen = true → r.state.meters = true ∧ r.laneInService l = true

/-- A ramp that meters stops metering only where it has no green left. -/
theorem RampMove.meters (m : RampMove plans running u r r') (h : r.state.meters = true) :
    r'.state.meters = true ∨ ∀ l, (r'.lane l).cycle.isGreen = false := by
  cases m with
  | aside ha => exact .inl (ha.state ▸ h)
  | swapDue hg =>
    refine .inl ?_
    simp only [Ramp.swapDue, Ramp.swap]
    split
    · exact h
    · split
      · rfl
      · exact h
  | faultCheck hp =>
    refine .inl ?_
    simp only [Ramp.faultCheck]
    split
    · rfl
    · exact h
  | suspend a b ha hab =>
    right
    intro l
    rw [Ramp.enterSuspended_eq]
    obtain hs | hs := RampState.meters_iff.mp h
    · simp only [hs]
      exact Ramp.isGreen_greensEnded _ _
    · simp only [hs]
      exact Ramp.isGreen_greensEnded _ _
  | @back g hs => rw [hs] at h; cases h
  | begin hs => exact .inl rfl
  | toDark =>
    refine .inr fun l => ?_
    have : (r.toDark.lane l).cycle = (r.lanesOff.lane l).cycle := by
      simp [Ramp.toDark, Ramp.lane, Ramp.clearCounts, Lane.clearCounts]
    rw [this, Ramp.cycle_lanesOff]
    rfl
  | toClearing ha =>
    refine .inr fun l => ?_
    have : (r.toClearing.lane l).cycle = (r.lanesOff.lane l).cycle := rfl
    rw [this, Ramp.cycle_lanesOff]
    rfl
  | started c hd ht => rw [hd] at h; cases h
  | _ => exact .inl (by simpa using h)

theorem RampMove.keeps_greensServed (m : RampMove plans running u r r') (h : r.greensServed) : r'.greensServed := by
  intro l hg
  have serves : r.state.meters = true → r.laneInService l = true → r'.state.meters = true ∧ r'.laneInService l = true := by
    intro hm hs
    refine ⟨(m.meters hm).resolve_right (fun hn => ?_), ((m.inService l).resolve_left (by simp [hg])) hs⟩
    rw [hn l] at hg
    cases hg
  obtain ⟨p, j, a, hw, he, -, rfl⟩ | hb := m.busy_or_pick
  · by_cases hj : l = j
    · subst l
      simp only [Ramp.waitsAtDue, Bool.and_eq_true] at hw
      exact serves hw.2 ((Ramp.eligible_iff _ _ _).mp he).1
    · rw [Ramp.cycle_give, if_neg hj] at hg
      exact serves (h l hg).1 (h l hg).2
  · obtain ⟨hm, hs⟩ := h l ((hb l (LaneCycle.busy_of_isGreen hg)).2 hg)
    exact serves hm hs

end Moves
end Sys2Proof.Machine
end

section
/-! Every move keeps a ramp quiet outside metering, its hold sources in step with SUSPENDED, its stack bounded, its plans valid
and its heads in step with its lanes (R94, R114 to R117, R38, R42, R145). -/

namespace Sys2Proof.Machine

section Moves
variable {plans : Table Plan} {running : Plan → Prop} {u : HeadUse} {r r' : Ramp}

/-! ## Quiet outside metering (R94, R122, R133, R135) -/

theorem Ramp.quiet_of_meters (h : r.state.metersOrHeld = true) : r.quiet :=
  ⟨fun hn => (by simp [h] at hn), fun hn => (by simp [RampState.active_of_metersOrHeld h] at hn)⟩

/-- A ramp that keeps what quietness speaks of stays quiet. -/
theorem Ramp.quiet.of_same (hq : r.quiet) (hs : r'.state = r.state)
    (hc : r'.clock.state = r.clock.state ∧ r'.clock.active = r.clock.active ∧ r'.clock.frozen = r.clock.frozen)
    (hw : r.waitOrder = [] → (∀ l, (r.lane l).cycle = .off) →
      r'.waitOrder = [] ∧ ∀ l, (r'.lane l).cycle = .off)
    (hp : r.state.active = false → r.clock.flush = none →
      r'.clock.staged = r.clock.staged ∧ r'.clock.flush = none ∧ r'.faultPending = r.faultPending) : r'.quiet := by
  obtain ⟨h1, h2⟩ := hq
  obtain ⟨hstate, hactive, hfrozen⟩ := hc
  refine ⟨fun hm => ?_, fun ha => ?_⟩
  · rw [hs] at hm
    obtain ⟨c1, c2, c3, c4, c5⟩ := h1 hm
    obtain ⟨w1, w2⟩ := hw c4 c5
    exact ⟨hstate.trans c1, hactive.trans c2, hfrozen.trans c3, w1, w2⟩
  · rw [hs] at ha
    obtain ⟨p1, p2, p3⟩ := h2 ha
    obtain ⟨q1, q2, q3⟩ := hp ha p2
    exact ⟨q1.trans p1, q2, q3.trans p3⟩

/-- While no lane is in a state to begin with, a move on the lanes of a ramp that does not meter leaves all OFF. -/
theorem Ramp.quiet.of_lanes (hq : r.quiet) (hs : r'.state = r.state) (hc : r'.clock = r.clock)
    (hf : r'.faultPending = r.faultPending)
    (hw : r.waitOrder = [] → (∀ l, (r.lane l).cycle = .off) →
      r'.waitOrder = [] ∧ ∀ l, (r'.lane l).cycle = .off) : r'.quiet :=
  hq.of_same hs (by simp [hc]) hw (fun _ h => by simp [hc, hf, h])

theorem Ramp.waitOrder_deliverDemand (l : Fin 3) (b : Bool) (hw : r.waitOrder = [])
    (ho : (r.lane l).cycle = .off) : (r.deliverDemand l b).waitOrder = [] := by
  simp [Ramp.deliverDemand, ho]
  split <;> simp [Ramp.leaveWait, hw]

theorem Ramp.waitOrder_laneOff (l : Fin 3) (hw : r.waitOrder = []) : (r.laneOff l).waitOrder = [] := by
  simp [Ramp.laneOff, Ramp.leaveWait, hw]

theorem Clock.stop_quiet (c : Clock) : c.stop.state = .stopped ∧ c.stop.active = none ∧ c.stop.frozen = false ∧
    c.stop.staged = none ∧ c.stop.flush = none := ⟨rfl, rfl, rfl, rfl, rfl⟩

theorem Ramp.cycle_toDark (r : Ramp) (l : Fin 3) : (r.toDark.lane l).cycle = .off := by
  have : (r.toDark.lane l).cycle = (r.lanesOff.lane l).cycle := by
    simp [Ramp.toDark, Ramp.lane, Ramp.clearCounts, Lane.clearCounts]
  rw [this, Ramp.cycle_lanesOff]

/-- A job's delivery leaves the clock's state, active period and freeze as they are. -/
theorem Ramp.clock_deliverInterval (p : Plan) (x : JobResult) :
    (r.deliverInterval p x).clock.state = r.clock.state ∧ (r.deliverInterval p x).clock.active = r.clock.active ∧
    (r.deliverInterval p x).clock.frozen = r.clock.frozen := by
  simp only [Ramp.deliverInterval, Ramp.countClean, Ramp.stageComputed]
  split_ifs <;> exact ⟨rfl, rfl, rfl⟩

theorem Ramp.clock_deliverStart (x : JobResult) :
    (r.deliverStart x).clock.state = r.clock.state ∧ (r.deliverStart x).clock.active = r.clock.active ∧
    (r.deliverStart x).clock.frozen = r.clock.frozen := by
  simp only [Ramp.deliverStart, Ramp.stageComputed]
  split_ifs <;> exact ⟨rfl, rfl, rfl⟩

/-- An end of spill leaves the clock's state, active period and freeze, and without a flush the whole ramp. -/
theorem Ramp.clock_flushEnd (p : Plan) :
    (r.flushEnd p).clock.state = r.clock.state ∧ (r.flushEnd p).clock.active = r.clock.active ∧
    (r.flushEnd p).clock.frozen = r.clock.frozen := by
  simp only [Ramp.flushEnd]
  cases r.clock.flush with
  | none => exact ⟨rfl, rfl, rfl⟩
  | some f =>
    cases r.clock.computed <;> dsimp only <;> split_ifs <;> exact ⟨rfl, rfl, rfl⟩

theorem RampMove.keeps_quiet (m : RampMove plans running u r r') (h : r.quiet) : r'.quiet := by
  have active : r.state.active = true → r'.state = r.state →
      (r'.clock.state = r.clock.state ∧ r'.clock.active = r.clock.active ∧ r'.clock.frozen = r.clock.frozen) →
      (r'.waitOrder = r.waitOrder ∧ r'.lanes = r.lanes) → r'.quiet := by
    intro ha hs hc ⟨hw, hl⟩
    exact h.of_same hs hc (fun w c => ⟨hw.trans w, fun l => by rw [Ramp.lane_of_lanes hl, c]⟩)
      (fun hn => by simp [ha] at hn)
  -- A lane that is not OFF belongs to a ramp that meters or is held from metering.
  have moving : ∀ l, (r.lane l).cycle ≠ .off → r.state.metersOrHeld = true := by
    intro l hl
    by_contra hn
    exact hl ((h.1 (by simpa using hn)).2.2.2.2 l)
  cases m with
  | aside ha =>
    refine h.of_same ha.state (by rw [ha.clock]; exact ⟨rfl, rfl, rfl⟩)
      (fun hw hc => ⟨ha.waitOrder.trans hw, fun l => (ha.cycle l).trans (hc l)⟩) (fun _ hf => ?_)
    rw [ha.clock]
    exact ⟨rfl, hf, ha.faultPending⟩
  | @pick p hp =>
    obtain hpick | ⟨l, a, hw, -, -, hpick⟩ := r.pick_cases p
    · rwa [hpick]
    · obtain ⟨-, -, -, hst⟩ := Ramp.waitsAtDue_iff.mp hw
      exact Ramp.quiet_of_meters (RampState.metersOrHeld_of_meters (by simpa [RampState.meters_iff] using hst))
  | swapDue hg =>
    have hm : r.state.metersOrHeld = true := by
      by_contra hn
      obtain ⟨hstop, -⟩ := h.1 (by simpa using hn)
      rcases hg with hg | hg
      · exact hn hg
      · rw [Clock.counting, hstop] at hg
        cases hg
    refine Ramp.quiet_of_meters ?_
    simp only [Ramp.swapDue, Ramp.swap]
    split
    · exact hm
    · split
      · rfl
      · exact hm
  | faultCheck hp =>
    simp only [Ramp.faultCheck]
    split
    · exact Ramp.quiet_of_meters rfl
    · exact h
  | lanesToRed p hm => exact Ramp.quiet_of_meters (by simpa using hm)
  | suspend a b ha hab =>
    rw [Ramp.enterSuspended_eq]
    split
    · rename_i hs
      refine ⟨fun _ => h.1 ?_, fun hn => by simp [RampState.active] at hn⟩
      rw [show r.state = .starting from hs]
      rfl
    · exact Ramp.quiet_of_meters rfl
    · exact Ramp.quiet_of_meters rfl
    · exact h
  | holds a b hab => exact h
  | @back g hs => exact Ramp.quiet_of_meters (by cases g <;> rfl)
  | begin hs => exact Ramp.quiet_of_meters rfl
  | toDark =>
    obtain ⟨c1, c2, c3, c4, c5⟩ := r.clock.stop_quiet
    refine ⟨fun _ => ⟨?_, ?_, ?_, ?_, r.cycle_toDark⟩, fun _ => ⟨?_, ?_, ?_⟩⟩ <;> simp [*]
  | toClearing ha =>
    obtain ⟨c1, c2, c3, c4, c5⟩ := r.clock.stop_quiet
    refine ⟨fun _ => ⟨?_, ?_, ?_, ?_, r.cycle_lanesOff⟩, fun _ => ⟨?_, ?_, ?_⟩⟩ <;> simp [*]
  | started c hd ht =>
    refine ⟨fun _ => h.1 (by rw [hd]; rfl), fun hn => by simp [RampState.active] at hn⟩
  | setFaultPending ha =>
    refine active ha (by simp) ?_ (by simp)
    simp only [Ramp.setFaultPending]
    split <;> exact ⟨rfl, rfl, rfl⟩
  | deliverInterval c hr ha => exact active ha (by simp) (Ramp.clock_deliverInterval _ _) (by simp)
  | deliverStart c hr ha => exact active ha (by simp) (Ramp.clock_deliverStart _) (by simp)
  | resumed hp hs => exact active (by rw [hs]; rfl) (by simp) ⟨rfl, rfl, rfl⟩ (by simp)
  | deliverDemand l b =>
    exact h.of_lanes (by simp) (by simp) (by simp) (fun hw hc =>
      ⟨Ramp.waitOrder_deliverDemand l b hw (hc l), fun j => by rw [(r.isOpen_deliverDemand l j b).2, hc]⟩)
  | @flushStart p hp =>
    by_cases hm : r.state.metersOrHeld = true
    · exact Ramp.quiet_of_meters (by simpa using hm)
    · have : r.flushStart p = r := by
        simp only [Ramp.flushStart, hm, Bool.false_and]
        split <;> rfl
      rwa [this]
  | @flushEnd p hp =>
    refine h.of_same (by simp) (Ramp.clock_flushEnd p) (fun hw hc => ⟨by simpa using hw, fun l => ?_⟩) (fun ha hf => ?_)
    · rw [Ramp.lane_of_lanes (r := r) (by simp), hc]
    · have : r.flushEnd p = r := by simp [Ramp.flushEnd, hf]
      rw [this]
      exact ⟨rfl, hf, rfl⟩
  | @endGreen l hl =>
    exact Ramp.quiet_of_meters (by simpa using moving l (fun hn => by rw [hn] at hl; cases hl))
  | @endWindow l hl =>
    exact Ramp.quiet_of_meters (by simpa using moving l (fun hn => by rw [hn] at hl; cases hl))
  | @enterReady l hl =>
    exact Ramp.quiet_of_meters (by simpa using moving l (fun hn => by rw [hn] at hl; cases hl))
  | closePending l =>
    refine h.of_lanes (by simp) (by simp) (by simp) (fun hw hc => ⟨by simpa using hw, fun j => ?_⟩)
    rw [Ramp.lane_updLane]
    split
    · exact hc l
    · exact hc j
  | laneOff l =>
    refine h.of_lanes (by simp) (by simp) (by simp) (fun hw hc => ⟨Ramp.waitOrder_laneOff l hw, fun j => ?_⟩)
    rw [Ramp.cycle_laneOff, hc, ite_self]
  | disable l cause =>
    refine h.of_lanes (by simp) (by simp) (by simp) (fun hw hc => ?_)
    have : ((r.updHead l (fun h => { h with disabled := some cause })).lane l).cycle = .off := hc l
    rw [Ramp.laneDisabled, if_pos this]
    exact ⟨hw, hc⟩
  | openLane l =>
    refine h.of_lanes (by simp) (by simp) (by simp) (fun hw hc => ⟨by simpa using hw, fun j => ?_⟩)
    simp only [Ramp.openLane, Ramp.lane_updHead, Ramp.lane_updLane]
    split
    · exact hc l
    · exact hc j
  | redAtOpen l p =>
    by_cases hm : r.state.metersOrHeld = true
    · exact Ramp.quiet_of_meters (by simpa using hm)
    · rwa [Ramp.redAtOpen, if_neg (fun hn => hm hn.2)]
  | stack st => exact h

/-! ## SUSPENDED and its hold sources (R114 to R117) -/

/-- The ramp is SUSPENDED exactly while a hold source is set. -/
def Ramp.holdsAgree (r : Ramp) : Prop := r.state.isSuspended = (r.requestHold || r.inputHold)

/-- The state that entry to SUSPENDED leaves. -/
theorem Ramp.isSuspended_enterSuspended (h : r.state.active = true) : r.enterSuspended.state.isSuspended = true := by
  rw [Ramp.enterSuspended_eq]
  split
  · rfl
  · rfl
  · rfl
  · cases hs : r.state <;> simp_all [RampState.active, RampState.isSuspended]

theorem RampMove.keeps_holdsAgree (m : RampMove plans running u r r') (h : r.holdsAgree) : r'.holdsAgree := by
  cases m with
  | aside ha => simpa [Ramp.holdsAgree, ha.state, ha.requestHold, ha.inputHold] using h
  | swapDue hg =>
    have : r.swapDue.state.isSuspended = r.state.isSuspended := by
      simp only [Ramp.swapDue, Ramp.swap]
      split
      · rfl
      · split
        · rename_i hr
          rw [show r.state = .fallback from hr.2]
          rfl
        · rfl
    simpa [Ramp.holdsAgree, this] using h
  | faultCheck hp =>
    simp only [Ramp.faultCheck]
    split
    · rename_i ht
      simp only [Ramp.takesFault, Bool.and_eq_true, decide_eq_true_eq] at ht
      simpa [Ramp.holdsAgree, ht.1, Ramp.enterFallback, RampState.isSuspended] using h
    · exact h
  | suspend a b ha hab =>
    rw [Ramp.holdsAgree, Ramp.isSuspended_enterSuspended (by exact ha)]
    simp [hab]
  | holds a b hab =>
    rcases hab with hab | hab
    · exact hab.symm
    · exact h.trans hab.symm
  | @back g hs => cases g <;> rfl
  | begin hs => simpa [Ramp.holdsAgree, hs, RampState.isSuspended] using h
  | toDark => simp [Ramp.holdsAgree, RampState.isSuspended]
  | toClearing ha => simp [Ramp.holdsAgree, RampState.isSuspended]
  | started c hd ht => simpa [Ramp.holdsAgree, hd, RampState.isSuspended] using h
  | _ => simpa [Ramp.holdsAgree] using h

/-! ## Stacks (R38, R42) -/

/-- The stack holds one to four entries, each a plan 0-15. -/
def Ramp.stackBounded (r : Ramp) : Prop :=
  1 ≤ r.stack.length ∧ r.stack.length ≤ Config.stackDepth ∧ ∀ p ∈ r.stack, p < Config.planRecords

theorem RampMove.keeps_stackBounded (m : RampMove plans running u r r')
    (hp : ∀ n, (plans.get n).isSome = true → n < Config.planRecords) (h : r.stackBounded) : r'.stackBounded := by
  cases m with
  | aside ha => simpa [Ramp.stackBounded, ha.stack] using h
  | stack st hne hlen hmem hdrop htop =>
    obtain ⟨h1, h4, hb⟩ := h
    refine ⟨List.length_pos_iff.mpr hne, ?_, fun n hn => ?_⟩
    · rcases hlen with hlen | hlen
      · exact hlen
      · exact hlen.trans h4
    · rcases hmem n hn with hn | hn
      · exact hb n hn
      · exact hp n hn
  | _ => simpa [Ramp.stackBounded] using h

/-- R42: a ramp that is not DARK has a valid plan on top of its stack, and the entries above the base are valid. -/
def Ramp.plansHeld (plans : Table Plan) (r : Ramp) : Prop :=
  (r.state ≠ .dark → (plans.get r.top).isSome = true) ∧ ∀ n ∈ r.stack.drop 1, (plans.get n).isSome = true

theorem Ramp.top_of_stack (h : r'.stack = r.stack) : r'.top = r.top := by simp [Ramp.top, h]

/-- A move that takes a ramp out of DARK finds a valid plan on top. -/
theorem RampMove.dark (m : RampMove plans running u r r') (h : r.state = .dark) :
    r'.state = .dark ∨ (plans.get r.top).isSome = true := by
  cases m with
  | aside ha => exact .inl (ha.state.trans h)
  | swapDue hg =>
    left
    simp only [Ramp.swapDue, Ramp.swap]
    split
    · exact h
    · rw [if_neg (fun hn => by simp [h] at hn)]
      exact h
  | faultCheck hp => exact .inr (by simp [hp])
  | suspend a b ha => rw [h] at ha; cases ha
  | back hs => rw [h] at hs; cases hs
  | begin hs => rw [h] at hs; cases hs
  | toDark => exact .inl (by simp)
  | toClearing ha => rw [h] at ha; cases ha
  | started c hd ht => exact .inr ht
  | _ => exact .inl (by simpa using h)

theorem RampMove.keeps_plansHeld (m : RampMove plans running u r r') (h : r.plansHeld plans) : r'.plansHeld plans := by
  have same : r'.stack = r.stack → r'.plansHeld plans := by
    intro hs
    refine ⟨fun hd => ?_, by rw [hs]; exact h.2⟩
    rw [Ramp.top_of_stack hs]
    by_cases hr : r.state = .dark
    · exact (m.dark hr).resolve_left hd
    · exact h.1 hr
  cases m with
  | aside ha => exact same ha.stack
  | stack st hne hlen hmem hdrop htop =>
    refine ⟨fun hd => ?_, fun n hn => (hdrop n hn).elim (h.2 n) id⟩
    rcases htop hd with ht | ht
    · exact ht
    · change (plans.get (st.getLast?.getD 0)).isSome = true
      rw [ht]
      exact h.1 hd
  | _ => exact same (by simp)

/-- R105, R145: a head record stands for each used lane and for no other. -/
def Ramp.headsKept (r : Ramp) : Prop := ∀ l, (r.head l).isSome = r.used l

theorem RampMove.keeps_headsKept (m : RampMove plans running u r r') (h : r.headsKept) : r'.headsKept :=
  fun l => by rw [(m.sent l).2, h l, m.used l]

end Moves
end Sys2Proof.Machine
end

section
/-! The periods that an operation on a ramp's clock can bring into it, and r_prev (R122, R73). -/

namespace Sys2Proof.Machine

/-! ## Periods (R122, R73) -/

/-- The clock holds the period `n`: active, staged, for a flush, or computed. -/
def Clock.holds (c : Clock) (n : Nat) : Prop :=
  c.active = some n ∨ (∃ x, c.staged = some x ∧ x.period = n) ∨ c.flush = some n ∨ c.computed = some n

/-- R122, R73: every period the ramp's clock holds lies in 1-400 ds, and its r_prev in 180-5400. -/
def Ramp.periodsSound (r : Ramp) : Prop :=
  (∀ n, r.clock.holds n → 1 ≤ n ∧ n ≤ 400) ∧ ∀ n, r.rPrev = some n → 180 ≤ n ∧ n ≤ 5400

theorem State.periodsSound_iff (s : State) : s.periodsSound ↔
    (∀ n p, s.plans.get n = some p → p.sound) ∧ (∀ x, s.rcu = .busy (some x) → x.plan.sound) ∧
    ∀ k, (s.ramp k).periodsSound := by
  refine and_congr_right fun _ => and_congr_right fun _ => forall_congr' fun k => ?_
  simp only [Ramp.periodsSound, Clock.holds]
  constructor
  · rintro ⟨ha, hs, hf, hc, hr⟩
    refine ⟨fun n hn => ?_, hr⟩
    rcases hn with hn | ⟨x, hx, rfl⟩ | hn | hn
    · exact ha n hn
    · exact hs x hx
    · exact hf n hn
    · exact hc n hn
  · rintro ⟨h, hr⟩
    exact ⟨fun a ha => h a (.inl ha), fun x hx => h _ (.inr (.inl ⟨x, hx, rfl⟩)),
      fun f hf => h f (.inr (.inr (.inl hf))), fun c hc => h c (.inr (.inr (.inr hc))), hr⟩

/-- R39, R40: the band of a sound plan's rates. -/
theorem Plan.sound.band {p : Plan} (h : p.sound) : p.rMin ≤ p.rInit ∧ p.rInit ≤ p.rMax := by
  obtain ⟨rec, hf, rfl⟩ := h
  simp only [planFault, lowestFailing_eq_none, List.forall_mem_cons, within_iff] at hf
  exact hf.2.2.1

/-- R39, R40: the flush and fallback periods of a sound plan. -/
theorem Plan.sound.periods {p : Plan} (h : p.sound) :
    (1 ≤ p.flushPeriod ∧ p.flushPeriod ≤ 400) ∧ (1 ≤ p.fallbackPeriod ∧ p.fallbackPeriod ≤ 400) := by
  obtain ⟨rec, hf, rfl⟩ := h
  simp only [planFault, lowestFailing_eq_none, List.forall_mem_cons, within_iff] at hf
  simp only [planOf]
  omega

/-- R83, R84: the period of a rate in a sound plan's band. -/
theorem Plan.sound.flooredPeriod_bounds {p : Plan} (h : p.sound) (n : Nat) {r : Nat} (low : p.rMin ≤ r)
    (high : r ≤ p.rMax) : 1 ≤ flooredPeriod p n r ∧ flooredPeriod p n r ≤ 400 := by
  have := h.convertRate_bounds low high
  have := h.laneFloor_bounds n
  simp only [flooredPeriod]
  omega

/-- R82 to R84: a job under a sound plan gives a rate and a period in range. -/
theorem Plan.sound.finishRate_bounds {p : Plan} (h : p.sound) (n : Nat) (v : Int) (miss impl : Bool) :
    (180 ≤ (finishRate p n v miss impl).rate ∧ (finishRate p n v miss impl).rate ≤ 5400) ∧
    1 ≤ (finishRate p n v miss impl).period ∧ (finishRate p n v miss impl).period ≤ 400 := by
  have hb := clampRate_mem_band (h.band.1.trans h.band.2) v
  have hr := h.rates
  refine ⟨?_, h.flooredPeriod_bounds n hb.1 hb.2⟩
  simp only [finishRate]
  omega

theorem computeInterval_bounds {x : Snapshot} (h : x.plan.sound) (c : CloseRecord) :
    (180 ≤ (computeInterval x c).rate ∧ (computeInterval x c).rate ≤ 5400) ∧
    1 ≤ (computeInterval x c).period ∧ (computeInterval x c).period ≤ 400 := by
  rw [computeInterval]
  split <;> exact h.finishRate_bounds _ _ _ _

theorem computeStart_bounds {x : Snapshot} (h : x.plan.sound) (carried : Option Nat) :
    (180 ≤ (computeStart x carried).rate ∧ (computeStart x carried).rate ≤ 5400) ∧
    1 ≤ (computeStart x carried).period ∧ (computeStart x carried).period ≤ 400 :=
  h.finishRate_bounds _ _ _ _

section Holds
variable {r : Ramp} {p : Plan} {n : Nat}

/-! What each operation on the clock may bring into it. -/

/-- The clock after it came to DUE and a staged period was swapped in. -/
theorem Ramp.clock_swapDue (r : Ramp) : r.swapDue.clock =
    { r.clock with
      state := .due, frozen := false, awaiting := false, staged := none
      active := (r.clock.staged.map (fun x => r.clock.limited x.period)).or r.clock.active } := by
  have hs : ((r.updClock (fun c => { c with state := .due, frozen := false, awaiting := false })).clock).staged =
      r.clock.staged := rfl
  rw [Ramp.swapDue, Ramp.swap, hs]
  cases h : r.clock.staged with
  | none => simp [Ramp.updClock, h]
  | some x =>
    dsimp only
    split <;> rfl

theorem Clock.limited_cases (c : Clock) (n : Nat) : c.limited n = n ∨ c.flush = some (c.limited n) := by
  simp only [Clock.limited]
  split
  · exact .inl rfl
  · split
    · exact .inr ‹_›
    · exact .inl rfl

theorem Ramp.holds_swapDue (h : r.swapDue.clock.holds n) : r.clock.holds n := by
  rw [Ramp.clock_swapDue] at h
  rcases h with ha | ⟨y, hy, -⟩ | hf | hc
  · cases hs : r.clock.staged with
    | none => exact .inl (by simpa [hs] using ha)
    | some x =>
      have hn : r.clock.limited x.period = n := by simpa [hs] using ha
      rcases r.clock.limited_cases x.period with hl | hl
      · exact .inr (.inl ⟨x, hs, hl.symm.trans hn⟩)
      · exact .inr (.inr (.inl (hl.trans (congrArg some hn))))
  · cases hy
  · exact .inr (.inr (.inl hf))
  · exact .inr (.inr (.inr hc))

theorem Ramp.holds_faultCheck (h : (r.faultCheck p).clock.holds n) : r.clock.holds n ∨ n = p.fallbackPeriod := by
  simp only [Ramp.faultCheck, Ramp.enterFallback] at h
  split at h
  · rcases h with ha | ⟨y, hy, hn⟩ | hf | hc
    · exact .inr (by simpa using ha.symm)
    · dsimp only at hy
      split at hy
      · cases hy
      · split at hy
        · cases hy
          exact .inl (.inr (.inr (.inl (by simp_all))))
        · cases hy
    · exact .inl (.inr (.inr (.inl hf)))
    · exact .inl (.inr (.inr (.inr hc)))
  · exact .inl h

theorem Ramp.holds_stop (h : r.clock.stop.holds n) : r.clock.holds n := by
  rcases h with ha | ⟨y, hy, -⟩ | hf | hc
  · cases ha
  · cases hy
  · cases hf
  · exact .inr (.inr (.inr hc))

theorem Ramp.holds_setFaultPending (h : r.setFaultPending.clock.holds n) : r.clock.holds n := by
  simp only [Ramp.setFaultPending] at h
  split at h
  · rcases h with ha | ⟨y, hy, hn⟩ | hf | hc
    · exact .inl ha
    · dsimp only at hy
      split at hy
      · cases hy
      · split at hy
        · cases hy
        · cases hy
          exact .inr (.inl ⟨_, ‹_›, hn⟩)
    · exact .inr (.inr (.inl hf))
    · exact .inr (.inr (.inr hc))
  · exact h

theorem Ramp.holds_stage {m : Nat} {mark : Mark} (h : (r.stage m mark).clock.holds n) : r.clock.holds n ∨ n = m := by
  rcases h with ha | ⟨y, hy, hn⟩ | hf | hc
  · exact .inl (.inl ha)
  · cases hy
    exact .inr hn.symm
  · exact .inl (.inr (.inr (.inl hf)))
  · exact .inl (.inr (.inr (.inr hc)))

theorem Ramp.holds_recordComputed {m : Nat} (h : (r.recordComputed m).clock.holds n) : r.clock.holds n ∨ n = m := by
  rcases h with ha | hs | hf | hc
  · exact .inl (.inl ha)
  · exact .inl (.inr (.inl hs))
  · exact .inl (.inr (.inr (.inl hf)))
  · exact .inr (Option.some.inj hc).symm

theorem Ramp.holds_stageComputed {m : Nat} (h : (r.stageComputed m).clock.holds n) : r.clock.holds n ∨ n = m := by
  simp only [Ramp.stageComputed] at h
  split at h
  · exact .inl h
  · exact Ramp.holds_stage h

theorem Ramp.holds_deliverInterval {x : JobResult} (h : (r.deliverInterval p x).clock.holds n) :
    r.clock.holds n ∨ n = x.period := by
  have base : ∀ m : Ramp, m.clock = (r.recordComputed x.period).clock → m.clock.holds n → r.clock.holds n ∨ n = x.period :=
    fun m hm hh => Ramp.holds_recordComputed (by rwa [hm] at hh)
  simp only [Ramp.deliverInterval, Ramp.countClean] at h
  split_ifs at h
  · exact (Ramp.holds_stage h).elim (base _ rfl) .inr
  · exact base _ rfl h
  · exact (Ramp.holds_stageComputed h).elim (base _ rfl) .inr

theorem Ramp.holds_deliverStart {x : JobResult} (h : (r.deliverStart x).clock.holds n) : r.clock.holds n ∨ n = x.period :=
  (Ramp.holds_stageComputed (r := r.recordComputed x.period) h).elim Ramp.holds_recordComputed .inr

theorem Ramp.holds_resumed (h : (r.resumed p).clock.holds n) : r.clock.holds n ∨ n = resumePeriod p r.openLanes := by
  have : (r.stage (r.resumeChoice p) .returning).clock.holds n := h
  rcases Ramp.holds_stage this with h | h
  · exact .inl h
  · rw [Ramp.resumeChoice] at h
    split at h
    · rename_i c hl hc
      exact .inl (.inr (.inr (.inr (h ▸ hc))))
    · exact .inr h

theorem Ramp.holds_flushStart (h : (r.flushStart p).clock.holds n) : r.clock.holds n ∨ n = p.flushPeriod := by
  simp only [Ramp.flushStart] at h
  split at h
  · exact .inl h
  · split at h
    · rcases h with ha | ⟨y, hy, hn⟩ | hf | hc
      · exact .inl (.inl ha)
      · simp only [Ramp.updClock] at hy
        rcases ite_eq_iff.mp hy with ⟨-, hy⟩ | ⟨-, hy⟩
        · exact .inl (.inr (.inl ⟨y, hy, hn⟩))
        · cases hy
          exact .inr hn.symm
      · exact .inr (Option.some.inj hf).symm
      · exact .inl (.inr (.inr (.inr hc)))
    · exact .inl h

theorem Ramp.holds_flushEnd (h : (r.flushEnd p).clock.holds n) : r.clock.holds n ∨ n = p.fallbackPeriod := by
  have cleared : ∀ m : Ramp, m.clock = { r.clock with flush := none } → m.clock.holds n → r.clock.holds n := by
    intro m hm hh
    rw [hm] at hh
    rcases hh with ha | hs | hf | hc
    · exact .inl ha
    · exact .inr (.inl hs)
    · cases hf
    · exact .inr (.inr (.inr hc))
  simp only [Ramp.flushEnd] at h
  split at h
  · exact .inl h
  · split_ifs at h
    · exact .inl (cleared _ rfl h)
    · exact (Ramp.holds_stage h).imp (cleared _ rfl) id
    · split at h
      · exact .inl (cleared _ rfl h)
      · rename_i c hc
        exact .inl ((Ramp.holds_stage h).elim (cleared _ rfl) (fun hn => .inr (.inr (.inr (hn ▸ hc)))))
    · exact .inl (cleared _ rfl h)

theorem Ramp.clock_pick (r : Ramp) (p : Plan) : (r.pick p).clock = { r.clock with state := (r.pick p).clock.state } := by
  obtain h | ⟨l, a, -, -, -, h⟩ := r.pick_cases p <;> rw [h] <;> rfl

end Holds

theorem RampMove.keeps_periodsSound {plans : Table Plan} {running : Plan → Prop} {u : HeadUse} {r r' : Ramp}
    (m : RampMove plans running u r r') (hplans : ∀ n p, plans.get n = some p → p.sound)
    (hrunning : ∀ p, running p → p.sound) (h : r.periodsSound) : r'.periodsSound := by
  have clock : (∀ n, r'.clock.holds n → r.clock.holds n ∨ (1 ≤ n ∧ n ≤ 400)) → r'.rPrev = r.rPrev → r'.periodsSound :=
    fun hc hr => ⟨fun n hn => (hc n hn).elim (h.1 n) id, by rw [hr]; exact h.2⟩
  cases m with
  | aside ha =>
    refine clock (fun n hn => .inl ?_) ha.rPrev
    rw [ha.clock] at hn
    exact hn
  | pick hp =>
    refine clock (fun n hn => .inl ?_) (by simp)
    rw [Ramp.clock_pick] at hn
    exact hn
  | swapDue hg => exact clock (fun n hn => .inl (Ramp.holds_swapDue hn)) (by simp)
  | faultCheck hp =>
    exact clock (fun n hn => (Ramp.holds_faultCheck hn).imp id (fun e => by rw [e]; exact (hplans _ _ hp).periods.2)) (by simp)
  | suspend a b ha hab =>
    refine clock (fun n hn => .inl ?_) (by simp)
    have : (({ r with requestHold := a, inputHold := b } : Ramp).enterSuspended).clock =
        { r.clock with frozen := (({ r with requestHold := a, inputHold := b } : Ramp).enterSuspended).clock.frozen } :=
      (Ramp.enterSuspended_keeps _).2.2.2.2.2.2.2.1
    rw [this] at hn
    exact hn
  | back hs => exact clock (fun n hn => .inl hn) rfl
  | toDark => exact clock (fun n hn => .inl (Ramp.holds_stop (by simpa using hn))) (by simp)
  | toClearing ha => exact clock (fun n hn => .inl (Ramp.holds_stop (by simpa using hn))) (by simp)
  | setFaultPending ha => exact clock (fun n hn => .inl (Ramp.holds_setFaultPending hn)) (by simp)
  | deliverInterval c hr ha =>
    obtain ⟨hrate, hperiod⟩ := computeInterval_bounds (hrunning _ hr) c
    refine ⟨fun n hn => ?_, fun n hn => ?_⟩
    · exact (Ramp.holds_deliverInterval hn).elim (h.1 n) (fun e => e ▸ hperiod)
    · rw [(Ramp.deliverInterval_keeps _ _ _).2.1] at hn
      exact Option.some.inj hn ▸ hrate
  | deliverStart c hr ha =>
    obtain ⟨hrate, hperiod⟩ := computeStart_bounds (hrunning _ hr) c
    refine ⟨fun n hn => ?_, fun n hn => ?_⟩
    · exact (Ramp.holds_deliverStart hn).elim (h.1 n) (fun e => e ▸ hperiod)
    · rw [(Ramp.deliverStart_keeps _ _).2.1] at hn
      exact Option.some.inj hn ▸ hrate
  | resumed hp hs =>
    have hsound := hplans _ _ hp
    exact clock (fun n hn => (Ramp.holds_resumed hn).imp id
      (fun e => by rw [e]; exact hsound.flooredPeriod_bounds _ hsound.band.1 hsound.band.2)) (by simp)
  | flushStart hp =>
    exact clock (fun n hn => (Ramp.holds_flushStart hn).imp id (fun e => by rw [e]; exact (hplans _ _ hp).periods.1)) (by simp)
  | flushEnd hp =>
    exact clock (fun n hn => (Ramp.holds_flushEnd hn).imp id (fun e => by rw [e]; exact (hplans _ _ hp).periods.2)) (by simp)
  | started c hd ht => exact clock (fun n hn => .inl hn) (by simp)
  | _ => exact clock (fun n hn => .inl (by simpa using hn)) (by simp)

end Sys2Proof.Machine
end

section
/-! What every part of an event leaves of a state: `State.Evolves` is kept under composition and holds of each shared
operation of the model, so that a command's event is a chain of such parts. -/

namespace Sys2Proof.Machine

open Relation (ReflTransGen)

/-- Every part of an event that writes no plan leaves the plans and the bounds as they are, starts no job of a plan that is
not valid, and moves each ramp by `RampMove`s. -/
structure State.Moves (running : Plan → Prop) (u : HeadUse) (s t : State) : Prop where
  pending : t.pending = s.pending
  freeCount : s.freeCount ≤ t.freeCount
  plans : t.plans = s.plans
  queues : s.queuesBounded → t.queuesBounded
  jobs : s.oneJobEach → t.oneJobEach
  rcu : ∀ x, t.rcu = .busy (some x) → s.rcu = .busy (some x) ∨ ∃ n, s.plans.get n = some x.plan
  ramps : ∀ k, ReflTransGen (RampMove s.plans running u) (s.ramp k) (t.ramp k)

/-- The tables of detectors and stations stay in step (R3, R6, R7, R17). -/
def State.KeepsTables (s t : State) : Prop := s.detectorsKept → t.detectorsKept

/-- What every part of an event leaves that writes neither a setting nor a detector's configuration. -/
structure State.Evolves (running : Plan → Prop) (u : HeadUse) (s t : State) : Prop where
  moves : s.Moves running u t
  tables : s.KeepsTables t

section Evolves
variable {running : Plan → Prop} {u : HeadUse} {s t w : State}

theorem State.Moves.refl (s : State) : s.Moves running u s :=
  ⟨rfl, le_refl _, rfl, id, id, fun _ h => .inl h, fun _ => .refl⟩

theorem State.Moves.trans (h1 : s.Moves running u t) (h2 : t.Moves running u w) : s.Moves running u w where
  pending := h2.pending.trans h1.pending
  freeCount := h1.freeCount.trans h2.freeCount
  plans := h2.plans.trans h1.plans
  queues := h2.queues ∘ h1.queues
  jobs := h2.jobs ∘ h1.jobs
  rcu x hx := (h2.rcu x hx).elim (h1.rcu x) (fun ⟨n, hn⟩ => .inr ⟨n, h1.plans ▸ hn⟩)
  ramps k := (h1.ramps k).trans (h1.plans ▸ h2.ramps k)

theorem State.KeepsTables.of_eq (hd : t.detectors = s.detectors) (hs : t.stations = s.stations)
    (hl : t.lastSources = s.lastSources) : s.KeepsTables t := by
  have h : ∀ i, t.detector i = s.detector i := fun i => by simp [State.detector, hd]
  intro hk
  simpa only [State.detectorsKept, h, hd, hs, hl] using hk

theorem State.Evolves.refl (s : State) : s.Evolves running u s := ⟨.refl s, id⟩

theorem State.Evolves.trans (h1 : s.Evolves running u t) (h2 : t.Evolves running u w) : s.Evolves running u w :=
  ⟨h1.moves.trans h2.moves, h2.tables ∘ h1.tables⟩

/-- A fold of parts is a part. -/
theorem State.Evolves.foldl {β : Type} {f : State → β → State} (h : ∀ (s : State) x, s.Evolves running u (f s x)) (l : List β)
    (s : State) : s.Evolves running u (l.foldl f s) := by
  induction l generalizing s with
  | nil => exact .refl s
  | cons x rest ih => exact (h s x).trans (ih _)

/-- A change of fields that no invariant speaks of is a part of an event. -/
theorem State.Evolves.of_fields (pending : t.pending = s.pending) (freeCount : s.freeCount ≤ t.freeCount)
    (plans : t.plans = s.plans)
    (queues : s.queuesBounded → t.queuesBounded) (jobs : t.jobs = s.jobs) (rcu : t.rcu = s.rcu)
    (ramps : t.ramps = s.ramps) (detectors : t.detectors = s.detectors) (stations : t.stations = s.stations)
    (lastSources : t.lastSources = s.lastSources) : s.Evolves running u t := by
  refine ⟨⟨pending, freeCount, plans, queues, ?_, ?_, fun k => ?_⟩,
    .of_eq detectors stations lastSources⟩
  · simp [State.oneJobEach, jobs]
  · intro x hx
    exact .inl (rcu ▸ hx)
  · rw [State.ramp_of_ramps ramps k]

/-! ## One ramp -/

theorem State.Evolves.setRamp {k : Fin 4} {r : Ramp} (h : ReflTransGen (RampMove s.plans running u) (s.ramp k) r) :
    s.Evolves running u (s.setRamp k r) := by
  refine ⟨⟨rfl, le_refl _, rfl, id, id, fun _ h => .inl h, fun j => ?_⟩, .of_eq rfl rfl rfl⟩
  rw [State.ramp_setRamp]
  split
  · subst j
    exact h
  · exact .refl

theorem State.Evolves.updRamp {k : Fin 4} {f : Ramp → Ramp} (h : RampMove s.plans running u (s.ramp k) (f (s.ramp k))) :
    s.Evolves running u (s.updRamp k f) := .setRamp (.single h)

theorem State.Evolves.withPlan {k : Fin 4} {f : Plan → Ramp → Ramp}
    (h : ∀ p, s.plans.get (s.ramp k).top = some p → RampMove s.plans running u (s.ramp k) (f p (s.ramp k))) :
    s.Evolves running u (s.withPlan k f) := by
  simp only [State.withPlan, State.topPlan]
  cases hp : s.plans.get (s.ramp k).top with
  | none => exact .refl s
  | some p => exact .updRamp (h p hp)

theorem State.evolves_rerunPick (s : State) (k : Fin 4) : s.Evolves running u (s.rerunPick k) :=
  .withPlan fun _ hp => .pick hp

/-! ## Offers -/

theorem State.evolves_offerNormal (s : State) (o : Outgoing) : s.Evolves running u (s.offerNormal o) := by
  refine .of_fields (by simp) (by simp) (by simp) ?_ (by simp) (by simp) (by simp) (by simp) (by simp) (by simp)
  rintro ⟨hf, hu, hn, hw⟩
  exact ⟨by simpa using hf, by simpa using hu, s.offerNormal_bound o hn, by simpa using hw⟩

theorem State.evolves_offerUrgent (s : State) (f : Frame) : s.Evolves running u (s.offerUrgent f) := by
  refine .of_fields (by simp) (by simp) (by simp) ?_ (by simp) (by simp) (by simp) (by simp) (by simp) (by simp)
  rintro ⟨hf, hu, hn, hw⟩
  exact ⟨by simpa using hf, s.offerUrgent_bound f hu, by simpa using hn, by simpa using hw⟩

theorem State.evolves_offerSequenced (s : State) (n : Nat) (p : List Byte) :
    s.Evolves running u (s.offerSequenced n p) := by
  have h : s.Evolves running u { s with sequence := (s.sequence + 1) % 256 } :=
    .of_fields rfl (le_refl _) rfl id rfl rfl rfl rfl rfl rfl
  exact h.trans (State.evolves_offerNormal _ _)

theorem State.evolves_rampChanged (s : State) (k : Fin 4) (before : RampState) (c : RampCause) :
    s.Evolves running u (s.rampChanged k before c) := by
  simp only [State.rampChanged]
  split
  · exact .refl s
  · exact s.evolves_offerSequenced _ _

theorem State.evolves_offerHeadNotice (s : State) (k : Fin 4) (l : Fin 3) (n : Nat) (a : Option Aspect) :
    s.Evolves running u (s.offerHeadNotice k l n a) := by
  simp only [State.offerHeadNotice]
  split
  · exact s.evolves_offerSequenced _ _
  · exact .refl s

theorem State.evolves_disableNotices (s0 s : State) : s.Evolves running u (State.disableNotices s0 s) := by
  refine .foldl (fun s x => ?_) _ s
  split
  · exact s.evolves_offerHeadNotice _ _ _ _
  · exact .refl s

theorem State.evolves_darkNotices (s0 s : State) (red : List (Fin 4)) :
    s.Evolves running u (State.darkNotices s0 red s) :=
  .foldl (fun s _ => s.evolves_rampChanged _ _ _) _ s

theorem State.evolves_reply (s : State) (q : Request) (code : Nat) (x : Result) (body : List Byte) :
    s.Evolves running u (s.reply q code x body) := s.evolves_offerNormal _

theorem State.evolves_drew (s : State) (n : Nat) : s.Evolves running u (s.drew n) :=
  .of_fields rfl (by simp) rfl id rfl rfl rfl rfl rfl rfl

theorem State.evolves_badValueUnstated (s : State) (q : Request) (code : Nat) :
    s.Evolves running u (s.badValueUnstated q code) := (s.evolves_reply _ _ _ _).trans (State.evolves_drew _ _)

theorem State.evolves_took (s : State) (c : Instr) : s.Evolves running u (s.took c) :=
  .of_fields (by simp) (by simp) (by simp) (by simp [State.queuesBounded]) (by simp) (by simp) (by simp) (by simp)
    (by simp) (by simp)

/-! ## Tables -/

/-- A change of the entries' dynamic state and of the station records keeps the tables in step. -/
theorem State.KeepsTables.of_map {f : Nat → Detector → Detector}
    (hconfig : s.detectorsKept → ∀ i d, s.detector i = some d → (f i d).config = d.config)
    (htime : s.detectorsKept → ∀ i d, s.detector i = some d → (f i d).onTime ≤ (f i d).span)
    (hd : t.detectors = s.detectors.map f) (hl : t.lastSources = s.lastSources)
    (hs : s.stations.wf Config.broadcast = true → t.stations.wf Config.broadcast = true ∧
      t.stations.rows.length = s.stations.rows.length ∧ ∀ a, (t.stations.get a).isSome = (s.stations.get a).isSome) :
    s.KeepsTables t := by
  have h : ∀ i, t.detector i = (s.detector i).map (f i) := fun i => by simp [State.detector, hd]
  intro hk
  specialize hconfig hk
  specialize htime hk
  obtain ⟨h1, h2, h3, h4, h5, h6, h7⟩ := hk
  obtain ⟨hwf, hlen, hkeys⟩ := hs h2
  refine ⟨by rw [hd]; exact Table.wf_map f h1, hwf, by rwa [hlen], ?_, ?_, by rwa [hl], ?_⟩
  · intro i d hi
    rw [h, Option.map_eq_some_iff] at hi
    obtain ⟨e, he, rfl⟩ := hi
    exact htime i e he
  · intro a
    rw [hkeys, h5]
    constructor
    · rintro ⟨i, d, hi, ha⟩
      exact ⟨i, f i d, by rw [h, hi]; rfl, by rw [hconfig i d hi, ha]⟩
    · rintro ⟨i, d, hi, ha⟩
      rw [h, Option.map_eq_some_iff] at hi
      obtain ⟨e, he, rfl⟩ := hi
      exact ⟨i, e, he, by rw [← ha, hconfig i e he]⟩
  · intro i hi
    rw [hl] at hi
    obtain ⟨d, hd, hr⟩ := h7 i hi
    exact ⟨f i d, by rw [h, hd]; rfl, by rw [hconfig i d hd, hr]⟩

/-- A part that leaves all but the tables as it is. -/
theorem State.Evolves.of_tables (h : s.KeepsTables t)
    (he : t = { s with detectors := t.detectors, stations := t.stations, lastSources := t.lastSources }) :
    s.Evolves running u t := by
  refine ⟨⟨?_, ?_, ?_, ?_, ?_, ?_, fun k => ?_⟩, h⟩
  all_goals rw [he]
  · exact id
  · exact id
  · exact fun x hx => .inl hx
  · exact .refl

theorem Table.rows_length_map {α : Type} (f : Nat → α → α) (t : Table α) : (t.map f).rows.length = t.rows.length := by
  simp [Table.map]

theorem State.evolves_clearAccumulators (s : State) (k : Fin 4) : s.Evolves running u (s.clearAccumulators k) := by
  refine .of_tables (.of_map (f := fun _ d =>
    if d.config.ramp = k then { d with arrivals := 0, onTime := 0, span := 0 } else d)
    (fun _ i d _ => ?_) (fun hk i d hi => ?_) rfl rfl (fun h => ⟨h, rfl, fun _ => rfl⟩)) rfl
  · split <;> rfl
  · split
    · exact le_refl _
    · exact hk.2.2.2.1 i d hi

theorem State.evolves_resetMarks (s : State) (k : Fin 4) : s.Evolves running u (s.resetMarks k) := by
  refine .of_tables (.of_map (f := fun _ d => d) (fun _ _ _ _ => rfl) (fun hk i d hi => hk.2.2.2.1 i d hi) ?_ rfl
    (fun h => ⟨Table.wf_map _ h, Table.rows_length_map _ _, fun a => ?_⟩)) rfl
  · simp [State.resetMarks, Table.map]
  · simp [State.resetMarks]

/-- A resolution of sources keeps the tables in step. -/
theorem State.evolves_resolveSources (s : State) (which : Fin 4 → Nat → Bool) :
    s.Evolves running u (s.resolveSources which) := by
  refine .of_tables ?_ rfl
  rintro ⟨h1, h2, h3, h4, h5, -, -⟩
  exact ⟨h1, h2, h3, h4, h5, State.resolveSources_wf which h1,
    fun i hi => State.lastSource_spill (s := s) (w := which) (by simpa using hi)⟩

end Evolves
end Sys2Proof.Machine
end

section
/-! The shared operations on a ramp, its lanes, its heads and its triggers are chains of moves. -/

namespace Sys2Proof.Machine

open Relation (ReflTransGen)

/-! ## Moves aside -/

/-- A change of the fields that no invariant of ramps speaks of. -/
theorem Ramp.Alike.of_aside {u : HeadUse} {r r' : Ramp}
    (h : r' = { r with
      intervalTimer := r'.intervalTimer, overrun := r'.overrun, spill := r'.spill, sticky := r'.sticky, last := r'.last,
      lastResult := r'.lastResult, recovery := r'.recovery, startFault := r'.startFault, holdInput := r'.holdInput,
      warningTimer := r'.warningTimer, clearTimer := r'.clearTimer, share := r'.share, carriedRate := r'.carriedRate,
      pointer := r'.pointer, clock := { r.clock with awaiting := r'.clock.awaiting }, lanes := r'.lanes,
      heads := r'.heads })
    (hl : ∀ l, (r'.lane l).cycle = (r.lane l).cycle ∧ (r'.lane l).isOpen = (r.lane l).isOpen)
    (hd : ∀ l, (r'.head l).map (fun h => h.disabled) = (r.head l).map (fun h => h.disabled))
    (hs : ∀ l, u.allows ((r.head l).bind (fun h => h.sent)) ((r'.head l).bind (fun h => h.sent))) : r.Alike u r' where
  stack := by rw [h]
  rPrev := by rw [h]
  config := by rw [h]
  state := by rw [h]
  requestHold := by rw [h]
  inputHold := by rw [h]
  waitOrder := by rw [h]
  faultPending := by rw [h]
  clock := by rw [h]
  cycle l := (hl l).1
  isOpen l := (hl l).2
  disabled := hd
  sent := hs

/-- A change that also leaves lanes and heads. -/
theorem Ramp.Alike.of_fields {u : HeadUse} {r r' : Ramp}
    (h : r' = { r with
      intervalTimer := r'.intervalTimer, overrun := r'.overrun, spill := r'.spill, sticky := r'.sticky, last := r'.last,
      lastResult := r'.lastResult, recovery := r'.recovery, startFault := r'.startFault, holdInput := r'.holdInput,
      warningTimer := r'.warningTimer, clearTimer := r'.clearTimer, share := r'.share, carriedRate := r'.carriedRate,
      pointer := r'.pointer, clock := { r.clock with awaiting := r'.clock.awaiting } }) : r.Alike u r' := by
  have hl : r'.lanes = r.lanes := by rw [h]
  have hh : ∀ l, r'.head l = r.head l := fun l => by rw [h]; rfl
  refine .of_aside ?_ (fun l => by rw [Ramp.lane_of_lanes hl]; exact ⟨rfl, rfl⟩) (fun l => by rw [hh])
    (fun l => by rw [hh]; exact u.allows_refl _)
  conv_lhs => rw [h]
  simp only [hl]
  rw [h]

/-- A change of lanes that leaves their cycles and whether they are open. -/
theorem Ramp.Alike.of_lanes {u : HeadUse} {r : Ramp} {lanes : Three Lane}
    (h : ∀ l, (lanes.get l).cycle = (r.lane l).cycle ∧ (lanes.get l).isOpen = (r.lane l).isOpen) :
    r.Alike u { r with lanes := lanes } :=
  .of_aside rfl h (fun _ => rfl) (fun _ => u.allows_refl _)

section Evolves
variable {running : Plan → Prop} {u : HeadUse} {s t : State}

/-! ## The clock and the states of a ramp -/

/-- R124: the coming due of a clock that counts, or of a ramp that meters or is held from metering. -/
theorem State.evolves_comeDue (k : Fin 4)
    (h : (s.ramp k).state.metersOrHeld = true ∨ (s.ramp k).clock.counting = true) :
    s.Evolves running u (s.comeDue k) := by
  have h1 : s.Evolves running u (s.updRamp k Ramp.swapDue) := .updRamp (.swapDue h)
  have h2 := h1.trans (State.evolves_rampChanged _ k (s.ramp k).state .returned)
  have h3 := h2.trans (.withPlan (k := k) (f := fun p r => r.faultCheck p) fun p hp => .faultCheck hp)
  exact (h3.trans (State.evolves_rampChanged _ _ _ _)).trans (State.evolves_rerunPick _ _)

theorem State.withPlan_state {f : Plan → Ramp → Ramp} (k : Fin 4) (h : ∀ p r, (f p r).state = r.state) :
    ((s.withPlan k f).ramp k).state = (s.ramp k).state := by
  simp only [State.withPlan]
  split
  · rfl
  · simp [h]

/-- R126: the beginning of metering of a ramp that meters. -/
theorem State.evolves_beginMetering (k : Fin 4) (h : (s.ramp k).state.metersOrHeld = true) :
    s.Evolves running u (s.beginMetering k) := by
  have h1 : s.Evolves running u (s.withPlan k (fun p r => r.lanesToRed p)) := .withPlan fun p _ => .lanesToRed p h
  refine h1.trans ?_
  simp only [State.beginMetering]
  split
  · exact State.evolves_comeDue k (.inl (by rw [State.withPlan_state k (by simp)]; exact h))
  · exact .updRamp (.aside (.of_fields rfl))

theorem State.evolves_enterDark (k : Fin 4) : s.Evolves running u (s.enterDark k) :=
  (State.Evolves.updRamp .toDark).trans (State.evolves_clearAccumulators _ _)

theorem State.evolves_noLaneTest (k : Fin 4) : s.Evolves running u (s.noLaneTest k) := by
  simp only [State.noLaneTest]
  split
  · exact State.evolves_enterDark k
  · exact .refl s

theorem State.evolves_noLane (k : Fin 4) : s.Evolves running u (s.noLane k) :=
  (State.evolves_noLaneTest k).trans (State.evolves_rampChanged _ _ _ _)

theorem State.evolves_landed (k : Fin 4) (s0 : State) : s.Evolves running u (State.landed k s0 s) := by
  simp only [State.landed]
  split
  · exact State.evolves_noLane k
  · exact .refl s

/-- R116: a hold source set of an active ramp. -/
theorem State.evolves_holdSet (k : Fin 4) {a b : Bool} (h : (s.ramp k).state.active = true) (hab : (a || b) = true) :
    s.Evolves running u ((s.updRamp k (fun r => { r with requestHold := a, inputHold := b })).holdSet k) := by
  have h1 : s.Evolves running u
      ((s.updRamp k (fun r => { r with requestHold := a, inputHold := b })).updRamp k Ramp.enterSuspended) := by
    have he : (s.updRamp k (fun r => { r with requestHold := a, inputHold := b })).updRamp k Ramp.enterSuspended =
        s.updRamp k (fun r => ({ r with requestHold := a, inputHold := b } : Ramp).enterSuspended) := by
      simp [State.updRamp, State.setRamp, State.ramp]
    rw [he]
    exact .updRamp (.suspend a b h hab)
  exact h1.trans <| (State.evolves_rampChanged _ _ _ _).trans (State.evolves_landed k _)

/-- The ramp leaves SUSPENDED for the state it was entered from (R117). -/
theorem State.evolves_back (k : Fin 4) {g : HeldFrom} (h : (s.ramp k).state = .suspended g) (f : Ramp → Ramp)
    (hf : f (s.ramp k) = { s.ramp k with
      requestHold := false, inputHold := false, state := g.back, clock := { (s.ramp k).clock with frozen := false } }) :
    s.Evolves running u (s.updRamp k f) := .updRamp (hf ▸ .back h)

/-- R117: hold sources of which none is newly set, and the end of the hold where none is left. -/
theorem State.evolves_holdEnded (k : Fin 4) {a b : Bool}
    (hab : (a || b) = true → ((s.ramp k).requestHold || (s.ramp k).inputHold) = true) :
    s.Evolves running u ((s.updRamp k (fun r => { r with requestHold := a, inputHold := b })).holdEnded k) := by
  have upd : ∀ (st : RampState),
      ((s.updRamp k (fun r => { r with requestHold := a, inputHold := b })).updRamp k (fun r =>
        { r with state := st, clock := { r.clock with frozen := false } })) =
      s.updRamp k (fun r => { r with
        requestHold := a, inputHold := b, state := st, clock := { r.clock with frozen := false } }) := by
    intro st
    simp [State.updRamp, State.setRamp, State.ramp]
  by_cases hany : (a || b) = true
  · have hkeep : s.Evolves running u (s.updRamp k (fun r => { r with requestHold := a, inputHold := b })) :=
      .updRamp (.holds a b (.inr (hany.trans (hab hany).symm)))
    have hstay : (s.updRamp k (fun r => { r with requestHold := a, inputHold := b })).holdEnded k =
        s.updRamp k (fun r => { r with requestHold := a, inputHold := b }) := by
      simp [State.holdEnded, hany]
    rwa [hstay]
  · have ha : a = false := by cases a <;> simp_all
    have hb : b = false := by cases b <;> simp_all
    subst ha hb
    simp only [State.holdEnded, State.ramp_updRamp, if_true, Bool.or_self, Bool.false_eq_true, if_false, upd]
    split
    · rename_i hs
      refine ((State.evolves_back k hs _ rfl).trans (State.evolves_rampChanged _ _ _ _)).trans
        (State.evolves_beginMetering k ?_)
      simp [RampState.metersOrHeld]
    · rename_i hs
      have h1 := (State.evolves_back (running := running) (u := u) k hs (fun r => { r with
        requestHold := false, inputHold := false, state := .metering, clock := { r.clock with frozen := false } })
        rfl).trans (State.evolves_rampChanged _ k (s.ramp k).state .holdEnd)
      split
      · exact h1.trans (State.evolves_comeDue k (.inl (by simp [RampState.metersOrHeld])))
      · exact h1.trans (State.evolves_rerunPick _ _)
    · rename_i hs
      exact ((State.evolves_back k hs _ rfl).trans (State.evolves_rampChanged _ _ _ _)).trans
        (State.evolves_rerunPick _ _)
    · rename_i h1 h2 h3
      refine .updRamp (.holds _ _ (.inl ?_))
      cases hs : (s.ramp k).state with
      | suspended g => cases g <;> simp_all
      | _ => rfl

/-! ## Lanes and heads -/

theorem State.evolves_disableLane (k : Fin 4) (l : Fin 3) (c : DisableCause) : s.Evolves running u (s.disableLane k l c) := by
  simp only [State.disableLane]
  split
  · exact .refl s
  · have h : s.Evolves running u
        (s.updRamp k (fun r => (r.updHead l (fun h => { h with disabled := some c })).laneDisabled l)) :=
      .updRamp (.disable l c)
    exact h.trans (State.evolves_noLaneTest k)

theorem State.evolves_rerunFreed (s0 : State) : s.Evolves running u (State.rerunFreed s0 s) := by
  refine .foldl (fun s k => ?_) _ s
  split
  · exact s.evolves_rerunPick k
  · exact .refl s

/-- A change of one head that keeps whether its lane is disabled. -/
theorem Ramp.Alike.of_updHead {r : Ramp} (l : Fin 3) (f : Head → Head) (hd : ∀ h, (f h).disabled = h.disabled)
    (hs : ∀ h, u.allows h.sent (f h).sent) : r.Alike u (r.updHead l f) := by
  refine .of_aside rfl (fun _ => ⟨rfl, rfl⟩) (fun j => ?_) (fun j => ?_)
  · rw [Ramp.head_updHead]
    split
    · subst j
      cases r.head l <;> simp [hd]
    · rfl
  · rw [Ramp.head_updHead]
    split
    · subst j
      cases r.head l with
      | none => exact u.allows_refl _
      | some h => exact hs h
    · exact u.allows_refl _

theorem State.evolves_offerHead (k : Fin 4) (l : Fin 3) : s.Evolves running .tells (s.offerHead k l) := by
  simp only [State.offerHead]
  split
  · split
    · exact (s.evolves_offerUrgent _).trans (.updRamp (.aside (.of_updHead l _ (fun _ => rfl) (fun _ => trivial))))
    · exact s.evolves_offerUrgent _
  · exact .refl s

theorem State.evolves_settleHeads (s0 : State) (fresh : List (Fin 4 × Fin 3)) :
    s.Evolves running .tells (State.settleHeads s0 fresh s) := by
  refine .foldl (fun s x => ?_) _ s
  split
  · exact State.evolves_offerHead x.1 x.2
  · exact .refl s

/-! ## Triggers -/

theorem State.evolves_deriveDemand (k : Fin 4) (l : Fin 3) : s.Evolves running u (s.deriveDemand k l) := by
  simp only [State.deriveDemand]
  split
  · exact .refl s
  · split
    · exact .refl s
    · exact .updRamp (.deliverDemand l _)

theorem State.evolves_deriveDemands (touched : Nat → Bool) (k : Fin 4) :
    s.Evolves running u (s.deriveDemands touched k) := by
  refine .foldl (fun s l => ?_) _ s
  split
  · exact State.evolves_deriveDemand k l
  · exact .refl s

theorem State.evolves_deriveAllDemands (k : Fin 4) : s.Evolves running u (s.deriveAllDemands k) :=
  .foldl (fun _ l => State.evolves_deriveDemand k l) _ s

theorem State.evolves_evaluateSpill (k : Fin 4) : s.Evolves running u (s.evaluateSpill k) := by
  simp only [State.evaluateSpill]
  split
  · exact .refl s
  · split
    · exact .refl s
    · rename_i p hp
      split
      · exact .refl s
      · have hspill : ∀ b, RampMove s.plans running u (s.ramp k) { s.ramp k with spill := b } := fun b => .aside (.of_fields rfl)
        refine .setRamp ?_
        dsimp only
        split
        · exact (ReflTransGen.single (hspill _)).tail (.flushStart hp)
        · exact (ReflTransGen.single (hspill _)).tail (.flushEnd hp)

theorem State.evolves_deriveRamp (touched : Nat → Bool) (due : Bool) (k : Fin 4) :
    s.Evolves running u (s.deriveRamp touched due k) := by
  have h1 : s.Evolves running u (s.deriveDemands touched k) := State.evolves_deriveDemands touched k
  have h2 : s.Evolves running u (if due then (s.deriveDemands touched k).evaluateSpill k else s.deriveDemands touched k) := by
    split
    · exact h1.trans (State.evolves_evaluateSpill k)
    · exact h1
  have h3 : ∀ (x : State) (again : Bool), x.Evolves running u (if again then x.rerunPick k else x) := by
    intro x again
    cases again
    · exact .refl x
    · exact x.evolves_rerunPick k
  exact h2.trans (h3 _ _)

theorem State.evolves_deriveTriggers (touched : Nat → Bool) (due : Fin 4 → Bool) :
    s.Evolves running u (s.deriveTriggers touched due) :=
  (s.evolves_resolveSources _).trans (.foldl (fun _ _ => State.evolves_deriveRamp _ _ _) _ _)

theorem Lane.passages_keeps (n : Nat) (x : Lane) : (x.passages n).cycle = x.cycle ∧ (x.passages n).isOpen = x.isOpen := by
  induction n generalizing x with
  | zero => exact ⟨rfl, rfl⟩
  | succ n ih =>
    have h : x.passageEvent.cycle = x.cycle ∧ x.passageEvent.isOpen = x.isOpen := by
      simp only [Lane.passageEvent]
      split_ifs <;> exact ⟨rfl, rfl⟩
    exact ⟨(ih _).1.trans h.1, (ih _).2.trans h.2⟩

theorem State.evolves_deliverPassages (src : Nat) (screened : List ScanRecord) (k : Fin 4) :
    s.Evolves running u (s.deliverPassages src screened k) := by
  simp only [State.deliverPassages]
  split
  · exact .refl s
  · refine .updRamp (.aside (.of_lanes fun l => ?_))
    rw [Three.get_tabulate]
    exact Lane.passages_keeps _ _

end Evolves
end Sys2Proof.Machine
end

section
/-! The ends of events, Scan Intake and the interval close are chains of moves. -/

namespace Sys2Proof.Machine

open Relation (ReflTransGen)

section Evolves
variable {running : Plan → Prop} {u : HeadUse} {s t : State}

/-! ## The starts that end every event -/

theorem State.evolves_startJob : s.Evolves running u s.startJob := by
  refine ⟨⟨by simp, by simp, by simp, by simp [State.queuesBounded], by simp [State.oneJobEach], ?_, fun k => ?_⟩,
    .of_eq (by simp) (by simp) (by simp)⟩
  · intro x hx
    obtain h | ⟨j, rest, -, -, h⟩ := s.startJob_cases
    · exact .inl (h ▸ hx)
    · rw [h] at hx
      simp only [Rcu.busy.injEq, State.snapshot, Option.map_eq_some_iff] at hx
      obtain ⟨p, hp, rfl⟩ := hx
      exact .inr ⟨_, hp⟩
  · refine .single (.aside ?_)
    rw [s.startJob_ramp k]
    exact .of_fields rfl

theorem State.evolves_startFrame : s.Evolves running u s.startFrame := by
  refine .of_fields (by simp) (by simp) (by simp) ?_ (by simp) (by simp) (by simp) (by simp) (by simp) (by simp)
  rintro ⟨hf, hu, hn, hw⟩
  obtain ⟨bf, bu, bn, bw⟩ := s.startFrame_bounds
  exact ⟨bf.trans hf, bu.trans hu, bn.trans hn, bw hw⟩

theorem State.evolves_withStarts : s.Evolves running u s.withStarts :=
  State.evolves_startJob.trans State.evolves_startFrame

/-! ## Several ramps, several moves -/

theorem State.Evolves.updRamps {k : Fin 4} {f : Ramp → Ramp}
    (h : ReflTransGen (RampMove s.plans running u) (s.ramp k) (f (s.ramp k))) : s.Evolves running u (s.updRamp k f) :=
  .setRamp h

theorem State.Evolves.aside {k : Fin 4} {f : Ramp → Ramp} (h : (s.ramp k).Alike u (f (s.ramp k))) :
    s.Evolves running u (s.updRamp k f) := .updRamp (.aside h)

/-- A change of fields that Evolves does not speak of. -/
theorem State.Evolves.of_rest
    (h : t = { s with
      handed := t.handed, ownAddress := t.ownAddress, linkUp := t.linkUp, awaitingGap := t.awaitingGap,
      txHold := t.txHold, forwardDropped := t.forwardDropped, urgentDropped := t.urgentDropped,
      normalDropped := t.normalDropped, line := t.line, sequence := t.sequence, site := t.site, limits := t.limits }) :
    s.Evolves running u t := by
  rw [h]
  exact .of_fields rfl (le_refl _) rfl id rfl rfl rfl rfl rfl rfl

theorem State.Evolves.mapRamps {f : Ramp → Ramp} (h : ∀ r, RampMove s.plans running u r (f r)) :
    s.Evolves running u { s with ramps := s.ramps.map f } := by
  refine ⟨⟨rfl, le_refl _, rfl, id, id, fun _ h => .inl h, fun k => ?_⟩, .of_eq rfl rfl rfl⟩
  simp only [State.ramp, Four.get_map]
  exact .single (h _)

/-! ## Tables -/

end Evolves

/-- An insert over a key that a table in canonical form holds adds no row. -/
theorem rowsInsert_length {α : Type} {rows : List (Nat × α)} {i : Nat} (x : α) (h : rowsRising rows = true)
    (hi : (rowsGet rows i).isSome = true) : (rowsInsert rows i x).length = rows.length := by
  induction rows with
  | nil => cases hi
  | cons p rest ih =>
    obtain ⟨j, y⟩ := p
    obtain ⟨hp, hr⟩ := (rowsRising_cons _ _).mp h
    by_cases hj : j = i
    · simp [rowsInsert, hj]
    · have hrest : (rowsGet rest i).isSome = true := by simpa [rowsGet, hj] using hi
      obtain ⟨z, hz⟩ := Option.isSome_iff_exists.mp hrest
      have hlt : j < i := hp _ (rowsGet_mem hz)
      simp [rowsInsert, hj, Nat.not_lt.mpr hlt.le, ih hr hrest]

theorem Table.key_lt {α : Type} {t : Table α} {bound i : Nat} (h : t.wf bound = true) (hi : (t.get i).isSome = true) :
    i < bound := by
  obtain ⟨x, hx⟩ := Option.isSome_iff_exists.mp hi
  exact ((Table.wf_iff _ _).mp h).2 _ (rowsGet_mem hx)

/-- An insert over a key that the table holds keeps its keys. -/
theorem Table.insert_same_keys {α : Type} {t : Table α} {bound i : Nat} (x : α) (h : t.wf bound = true)
    (hi : (t.get i).isSome = true) : (t.insert i x).wf bound = true ∧ (t.insert i x).rows.length = t.rows.length ∧
    ∀ j, ((t.insert i x).get j).isSome = (t.get j).isSome := by
  refine ⟨Table.wf_insert x h (Table.key_lt h hi), rowsInsert_length x ((Table.wf_iff _ _).mp h).1 hi, fun j => ?_⟩
  rw [Table.get_insert]
  split
  · subst j
    exact hi.symm
  · rfl

/-- In a table in canonical form an insert over a key it holds is a map. -/
theorem Table.insert_eq_map {α : Type} {t : Table α} {i : Nat} (x : α) (h : rowsRising t.rows = true)
    (hi : (t.get i).isSome = true) : t.insert i x = t.map (fun j y => if j = i then x else y) := by
  obtain ⟨rows⟩ := t
  simp only [Table.insert, Table.map, Table.get] at hi h ⊢
  congr 1
  induction rows with
  | nil => cases hi
  | cons p rest ih =>
    obtain ⟨j, y⟩ := p
    obtain ⟨hp, hr⟩ := (rowsRising_cons _ _).mp h
    by_cases hj : j = i
    · subst j
      have hrest : rest.map (fun p => (p.1, if p.1 = i then x else p.2)) = rest := by
        conv_rhs => rw [← List.map_id rest]
        refine List.map_congr_left fun q hq => ?_
        have : i < q.1 := hp q hq
        rw [if_neg (by omega)]
        rfl
      simp [rowsInsert, hrest]
    · have hrest : (rowsGet rest i).isSome = true := by simpa [rowsGet, hj] using hi
      obtain ⟨z, hz⟩ := Option.isSome_iff_exists.mp hrest
      have hlt : j < i := hp _ (rowsGet_mem hz)
      simp [rowsInsert, hj, Nat.not_lt.mpr hlt.le, ih hr hrest]

section Evolves
variable {running : Plan → Prop} {u : HeadUse} {s t : State}

/-! ## Scan Intake and the detector table -/

/-- A station that has a record gets another. -/
theorem State.evolves_stationSet {a : Nat} (x : Station) (h : (s.stations.get a).isSome = true) :
    s.Evolves running u { s with stations := s.stations.insert a x } :=
  .of_tables (.of_map (f := fun _ d => d) (fun _ _ _ _ => rfl) (fun hk i d hi => hk.2.2.2.1 i d hi)
    (by simp [Table.map]) rfl (fun hw => Table.insert_same_keys x hw h)) rfl

theorem State.evolves_stationHeard (src : Nat) : s.Evolves running u (s.stationHeard src) := by
  simp only [State.stationHeard]
  split
  · exact .refl s
  · rename_i st hst
    exact State.evolves_stationSet _ (by rw [hst]; rfl)

/-- A scanned entry keeps its configuration, and an on-time within its covered span. -/
theorem Detector.scanned_keeps (lim : Limits) (dark : Bool) (span : Nat) (r : ScanRecord) (d : Detector) :
    (d.scanned lim dark span r).config = d.config ∧
    (d.onTime ≤ d.span → (d.scanned lim dark span r).onTime ≤ (d.scanned lim dark span r).span) := by
  simp only [Detector.scanned]
  split
  · exact ⟨rfl, id⟩
  · refine ⟨rfl, fun h => ?_⟩
    simp only [Detector.scanSymptoms, Detector.runs, Detector.accumulate, saturate, clampedOnTime]
    omega

theorem State.evolves_scanEntries (src span : Nat) (screened : List ScanRecord) :
    s.Evolves running u (s.scanEntries src span screened) := by
  refine .of_tables (.of_map (f := fun _ d =>
      match matchRecord src screened d with
      | some r => d.scanned s.limits (decide ((s.ramp d.config.ramp).state = .dark)) span r
      | none => d) (fun _ i d _ => ?_) (fun hk i d hi => ?_) rfl rfl (fun h => ⟨h, rfl, fun _ => rfl⟩)) rfl
  · split
    · exact (Detector.scanned_keeps _ _ _ _ _).1
    · rfl
  · split
    · exact (Detector.scanned_keeps _ _ _ _ _).2 (hk.2.2.2.1 i d hi)
    · exact hk.2.2.2.1 i d hi

theorem State.evolves_scanned (src span : Nat) (records : List ScanRecord) :
    s.Evolves running u (s.scanned src span records) := by
  have h2 : s.Evolves running u (allRamps.foldl (fun t k => t.deliverPassages src (screenScan [] records) k)
      (s.stationHeard src)) :=
    (State.evolves_stationHeard src).trans (.foldl (fun _ _ => State.evolves_deliverPassages _ _ _) _ _)
  exact (h2.trans (State.evolves_scanEntries _ _ _)).trans (State.evolves_deriveTriggers _ _)

theorem State.evolves_stationExpired {a : Nat} (h : s.stationTimed a = true) :
    s.Evolves running u (s.stationExpired a) := by
  refine State.Evolves.trans (State.evolves_stationSet _ ?_) (State.evolves_deriveTriggers _ _)
  simp only [State.stationTimed] at h
  split at h
  · cases h
  · simp [*]

/-- A detector entry's health set by request. -/
theorem State.evolves_healthSet {i : Nat} {d : Detector} (h : s.detector i = some d) (x : Health) (c : HealthCause) :
    s.Evolves running u (s.healthSet i d x c) := by
  refine State.Evolves.trans ?_ (State.evolves_offerSequenced _ _ _)
  refine .of_tables (fun hk => ?_) rfl
  have hmap := Table.insert_eq_map (t := s.detectors) { d with health := x, symptomatic := 0, clean := 0 }
    ((Table.wf_iff _ _).mp hk.1).1 (i := i) (by simp only [State.detector] at h; simp [h])
  refine State.KeepsTables.of_map (f := fun j y => if j = i then { d with health := x, symptomatic := 0, clean := 0 } else y)
    (fun _ j e hj => ?_) (fun hk j e hj => ?_) hmap rfl (fun h => ⟨h, rfl, fun _ => rfl⟩) hk
  · split
    · subst j
      rw [h] at hj
      cases hj
      rfl
    · rfl
  · split
    · exact hk.2.2.2.1 i d h
    · exact hk.2.2.2.1 j e hj

/-! ## The interval close -/

theorem rowsGet_map {α β : Type} (f : Nat → α → β) (rows : List (Nat × α)) (i : Nat) :
    rowsGet (rows.map (fun p => (p.1, f p.1 p.2))) i = (rowsGet rows i).map (f i) := by
  induction rows with
  | nil => rfl
  | cons p rest ih =>
    obtain ⟨j, y⟩ := p
    by_cases h : j = i
    · simp [rowsGet, h]
    · simp [rowsGet, h, ih]

theorem rowsGet_filter {α : Type} {rows : List (Nat × α)} {i : Nat} {x : α} {f : Nat × α → Bool}
    (hr : rowsRising rows = true) (h : rowsGet (rows.filter f) i = some x) : rowsGet rows i = some x :=
  rowsGet_of_mem hr (List.mem_filter.mp (rowsGet_mem h)).1

theorem closeUsability_keeps (hold ms : Nat) (all : List (Nat × Closing)) (c : Closing) :
    (closeUsability hold ms all c).1.config = c.entry.config ∧
    (closeUsability hold ms all c).1.onTime = c.entry.onTime ∧
    (closeUsability hold ms all c).1.span = c.entry.span := by
  simp only [closeUsability]
  split
  · exact ⟨rfl, rfl, rfl⟩
  · split
    · exact ⟨rfl, rfl, rfl⟩
    · split <;> exact ⟨rfl, rfl, rfl⟩

theorem Detector.judge_keeps (lim : Limits) (b : Bool) (d : Detector) :
    (d.judge lim b).config = d.config ∧ (d.judge lim b).onTime = d.onTime ∧ (d.judge lim b).span = d.span := by
  cases h : d.health with
  | good => simp only [Detector.judge, h]; split <;> exact ⟨rfl, rfl, rfl⟩
  | suspect => simp only [Detector.judge, h]; split_ifs <;> exact ⟨rfl, rfl, rfl⟩
  | failed => simp only [Detector.judge, h]; split_ifs <;> exact ⟨rfl, rfl, rfl⟩
  | forcedOut => simp [Detector.judge, h]

/-- What a close makes of an entry keeps its configuration and leaves no accumulated time. -/
theorem State.closed_keeps {k : Fin 4} {ms i : Nat} {d : Detector} {x : Detector × Option Measure}
    (hr : rowsRising s.detectors.rows = true) (h : s.detector i = some d)
    (hx : rowsGet (s.closeStep4 k ms) i = some x) : x.1.config = d.config ∧ x.1.onTime = 0 ∧ x.1.span = 0 := by
  simp only [State.closeStep4, State.closeStep3, State.closeStep2, State.closeStep1] at hx
  rw [rowsGet_map (fun _ c => closeUsability _ _ _ c), Option.map_eq_some_iff] at hx
  obtain ⟨c3, h3, rfl⟩ := hx
  rw [rowsGet_map (fun _ c => closeHealth _ c), Option.map_eq_some_iff] at h3
  obtain ⟨c2, h2, rfl⟩ := h3
  rw [rowsGet_map (fun i c => closeSymptoms _ _ _ _ i c), Option.map_eq_some_iff] at h2
  obtain ⟨c1, h1, rfl⟩ := h2
  rw [rowsGet_map (fun _ d => Detector.close _ d), Option.map_eq_some_iff] at h1
  obtain ⟨e, he, rfl⟩ := h1
  have hd : some e = some d := (rowsGet_filter hr he).symm.trans h
  obtain rfl := Option.some.inj hd
  obtain ⟨u1, u2, u3⟩ := closeUsability_keeps s.limits.hold ms (s.closeStep3 k ms) (closeHealth s.limits
    (closeSymptoms s k ms (s.closeStep1 k) i (Detector.close ((s.topPlan k).map (fun q => q.weight)) e)))
  obtain ⟨j1, j2, j3⟩ := Detector.judge_keeps s.limits
    (closeSymptoms s k ms (s.closeStep1 k) i (Detector.close ((s.topPlan k).map (fun q => q.weight)) e)).entry.symptoms.any
    (closeSymptoms s k ms (s.closeStep1 k) i (Detector.close ((s.topPlan k).map (fun q => q.weight)) e)).entry
  exact ⟨u1.trans j1, u2.trans j2, u3.trans j3⟩

theorem State.evolves_storeClosed (k : Fin 4) (ms : Nat) : s.Evolves running u (s.storeClosed (s.closeStep4 k ms)) := by
  refine .of_tables (.of_map (f := fun i d =>
      match rowsGet (s.closeStep4 k ms) i with
      | some x => x.1
      | none => d) (fun hk i d hi => ?_) (fun hk i d hi => ?_) rfl rfl (fun h => ⟨h, rfl, fun _ => rfl⟩)) rfl
  · split
    · exact (State.closed_keeps ((Table.wf_iff _ _).mp hk.1).1 hi ‹_›).1
    · rfl
  · split
    · obtain ⟨-, h1, h2⟩ := State.closed_keeps ((Table.wf_iff _ _).mp hk.1).1 hi ‹_›
      rw [h1, h2]
    · exact hk.2.2.2.1 i d hi

/-- A job appended for a ramp that has none. -/
theorem State.evolves_jobAppended (j : Job) (h : s.hasJob j.ramp = false) :
    s.Evolves running u { s with jobs := s.jobs ++ [j] } := by
  refine ⟨⟨rfl, le_refl _, rfl, id, fun hj => ?_, fun _ h => .inl h, fun _ => .refl⟩, .of_eq rfl rfl rfl⟩
  simp only [State.oneJobEach, List.map_append, List.map_cons, List.map_nil] at hj ⊢
  refine List.nodup_append.mpr ⟨hj, List.nodup_singleton _, ?_⟩
  intro a ha b hb he
  simp only [List.mem_singleton] at hb
  subst hb he
  obtain ⟨i, hi, hij⟩ := List.mem_map.mp ha
  simp only [State.hasJob, List.any_eq_false, beq_iff_eq] at h
  exact h i hi hij

theorem State.evolves_intervalClosed (k : Fin 4) (seconds : Nat) : s.Evolves running u (s.intervalClosed k seconds) := by
  have h1 := (State.evolves_storeClosed (running := running) (u := u) (s := s) k (seconds * 1000)).trans
    (State.evolves_resetMarks _ k)
  have h2 := h1.trans (State.Evolves.foldl (running := running) (u := u)
    (f := fun s (p : (Nat × Closing) × (Nat × Closing)) => s.closeNotice p.1 p.2) (fun s p => by
      simp only [State.closeNotice]
      split
      · exact .refl s
      · exact s.evolves_offerSequenced _ _) ((s.closeStep2 k (seconds * 1000)).zip (s.closeStep3 k (seconds * 1000))) _)
  have hjob : ∀ (x : State) (c : CloseRecord), x.Evolves running u (x.offerIntervalJob k c) := by
    intro x c
    simp only [State.offerIntervalJob]
    by_cases h : x.hasJob k = true
    · rw [if_pos h]
      exact .aside (.of_fields rfl)
    · rw [if_neg h]
      exact State.evolves_jobAppended _ (by simpa using h)
  have h3 := h2.trans (hjob _ (closeRecord ((s.closeStep4 k (seconds * 1000)).map (fun p => p.2)) (s.ramp k).spill))
  exact h3.trans (.aside (f := fun r => { r with intervalTimer := some seconds }) (.of_fields rfl))

end Evolves
end Sys2Proof.Machine
end

section
/-! Stack requests, jobs, and the requests that start, stop and hold a ramp are chains of moves. -/

namespace Sys2Proof.Machine

open Relation (ReflTransGen)

section Evolves
variable {running : Plan → Prop} {u : HeadUse} {s t : State}

theorem State.updRamp_congr {k : Fin 4} {f g : Ramp → Ramp} (h : f (s.ramp k) = g (s.ramp k)) :
    s.updRamp k f = s.updRamp k g := by
  simp only [State.updRamp, h]

theorem State.evolves_offerRamp (k : Fin 4) (before : RampState) (c : RampCause) :
    s.Evolves running u (s.offerRamp k before c) := s.evolves_offerSequenced _ _

/-! ## Plan stacks (R42 to R47) -/

theorem State.evolves_stackFlag (k : Fin 4) : s.Evolves running u (s.stackFlag k) := by
  have h1 : s.Evolves running u (s.updRamp k Ramp.recordStack) := .aside (.of_fields rfl)
  simp only [State.stackFlag]
  split
  · exact h1
  · split
    · rename_i p hp ha
      simp only [Bool.and_eq_true] at ha
      refine (h1.trans (.updRamp (.setFaultPending ?_))).trans (State.evolves_offerSequenced _ _ _)
      simpa [Ramp.recordStack] using ha.2
    · exact h1

/-- A stack that the checks of PUSH, POP, SET BASE or CONTEXT LOAD let through. -/
structure State.TakesStack (s : State) (k : Fin 4) (stack : List Nat) : Prop where
  nonempty : stack ≠ []
  length : stack.length ≤ 4 ∨ stack.length ≤ (s.ramp k).stack.length
  entries : ∀ n ∈ stack, n ∈ (s.ramp k).stack ∨ (s.plans.get n).isSome = true
  above : ∀ n ∈ stack.drop 1, n ∈ (s.ramp k).stack.drop 1 ∨ (s.plans.get n).isSome = true
  top : (s.ramp k).state ≠ .dark →
    (s.plans.get (stack.getLast?.getD 0)).isSome = true ∨ stack.getLast?.getD 0 = (s.ramp k).top

theorem State.TakesStack.evolves {k : Fin 4} {stack : List Nat} (h : s.TakesStack k stack) :
    s.Evolves running u (s.updRamp k (fun r => { r with stack := stack })) :=
  .updRamp (.stack stack h.nonempty h.length h.entries h.above h.top)

/-- R44: a valid plan appended to a stack with room. -/
theorem State.takesStack_push {k : Fin 4} {plan : Nat} (hp : (s.plans.get plan).isSome = true)
    (hl : ¬Config.stackDepth ≤ (s.ramp k).stack.length) : s.TakesStack k ((s.ramp k).stack ++ [plan]) where
  nonempty := by simp
  length := .inl (by simp [Config.stackDepth] at hl ⊢; omega)
  entries n hn := by
    rcases List.mem_append.mp hn with hn | hn
    · exact .inl hn
    · rw [List.mem_singleton.mp hn]
      exact .inr hp
  above n hn := by
    cases hs : (s.ramp k).stack with
    | nil => simp [hs] at hn
    | cons a rest =>
      rw [hs, List.cons_append, List.drop_one, List.tail_cons] at hn
      rcases List.mem_append.mp hn with hn | hn
      · exact .inl hn
      · rw [List.mem_singleton.mp hn]
        exact .inr hp
  top _ := .inl (by simpa using hp)

/-- R45: the top entry taken away, if a valid plan or a DARK ramp is left. -/
theorem State.takesStack_pop {k : Fin 4} (hl : ¬(s.ramp k).stack.length ≤ 1)
    (hp : ¬(s.planValid (s.ramp k).exposed = false ∧ (s.ramp k).state ≠ .dark)) :
    s.TakesStack k (s.ramp k).stack.dropLast where
  nonempty h := by
    have := congrArg List.length h
    simp only [List.length_dropLast, List.length_nil] at this
    omega
  length := .inr (by simp)
  entries n hn := .inl (List.mem_of_mem_dropLast hn)
  above n hn := .inl (by
    rw [List.drop_one] at hn ⊢
    rcases hs : (s.ramp k).stack with _ | ⟨a, _ | ⟨b, rest⟩⟩
    · simp [hs] at hn
    · simp [hs] at hn
    · rw [hs, List.dropLast_cons_cons, List.tail_cons] at hn
      exact List.mem_of_mem_dropLast hn)
  top hd := .inl (by
    rw [not_and_or, not_not, Bool.not_eq_false] at hp
    exact hp.resolve_right hd)

/-- R46: the bottom entry replaced by a valid plan. -/
theorem State.takesStack_rebase {k : Fin 4} {plan : Nat} (hp : (s.plans.get plan).isSome = true) :
    s.TakesStack k (rebased plan (s.ramp k).stack) where
  nonempty := by simp [rebased]
  length := by
    simp only [rebased, List.length_cons, List.length_drop]
    omega
  entries n hn := by
    rcases List.mem_cons.mp hn with hn | hn
    · rw [hn]
      exact .inr hp
    · exact .inl (List.mem_of_mem_drop hn)
  above n hn := .inl (by simpa [rebased] using hn)
  top _ := by
    simp only [rebased, Ramp.top]
    cases hs : (s.ramp k).stack.drop 1 with
    | nil => exact .inl (by simpa using hp)
    | cons a rest =>
      right
      have : (s.ramp k).stack = (s.ramp k).stack.take 1 ++ a :: rest := by rw [← hs, List.take_append_drop]
      rw [List.getLast?_cons_cons, this, List.getLast?_append]
      simp [List.getLast?_cons]

theorem State.evolves_contextLoaded {k : Fin 4} {rec : ContextRecord} (hd : (s.ramp k).state = .dark)
    (h : s.contextFault rec = none) (p : Option Plan) : s.Evolves running u (s.updRamp k (Ramp.loaded rec p)) := by
  simp only [State.contextFault, lowestFailing_eq_none, List.forall_mem_cons, within_iff, Bool.or_eq_true,
    List.all_eq_true] at h
  obtain ⟨-, -, hcount, hall, -⟩ := h
  have hlen : (contextStack rec).length = rec.stackCount := by
    simp only [contextStack, contextPlaces, List.length_take, List.length_cons, List.length_nil]
    omega
  refine .updRamps (.tail (b := { s.ramp k with stack := contextStack rec }) (.single (.stack _ ?_ ?_ ?_ ?_ ?_)) (.aside ?_))
  · intro hn
    rw [hn] at hlen
    simp only [List.length_nil] at hlen
    omega
  · exact .inl (by omega)
  · exact fun n hn => .inr (hall n hn)
  · exact fun n hn => .inr (hall n (List.mem_of_mem_drop hn))
  · exact fun hn => absurd hd hn
  · exact .of_aside rfl (fun l => by simp [Ramp.loaded, Ramp.lane]) (fun _ => rfl) (fun _ => u.allows_refl _)

/-! ## Jobs (R71, R85 to R90) -/

theorem State.evolves_jobLeft : s.Evolves running u s.jobLeft := by
  refine ⟨⟨rfl, le_refl _, rfl, id, fun hj => ?_, fun _ h => (by cases h), fun _ => .refl⟩, .of_eq rfl rfl rfl⟩
  simp only [State.oneJobEach, State.jobLeft, List.map_drop] at hj ⊢
  exact hj.sublist (List.drop_sublist _ _)

theorem State.evolves_jobFault (k : Fin 4) (c : FaultCause) (x : Snapshot) (f : Flags)
    (h : (s.ramp k).state.active = true) : s.Evolves running u (s.jobFault k c x f) :=
  (State.Evolves.updRamp (.setFaultPending h)).trans (State.evolves_offerSequenced _ _ _)

theorem RampState.active_of_ne {st : RampState} (h1 : st ≠ .dark) (h2 : st ≠ .clearing) : st.active = true := by
  cases st <;> simp_all [RampState.active]

theorem State.evolves_resultDelivered (k : Fin 4) {x : Snapshot} (c : CloseRecord) (hx : running x.plan)
    (hd : (s.ramp k).state ≠ .dark) : s.Evolves running u (s.resultDelivered k x (computeInterval x c)) := by
  have h1 : s.Evolves running u (s.updRamp k (fun r => r.recordFlags (computeInterval x c).flags)) :=
    .aside (.of_fields rfl)
  simp only [State.resultDelivered]
  split
  · exact h1
  · have ha : (s.ramp k).state.active = true := RampState.active_of_ne hd ‹_›
    split
    · exact (h1.trans (.aside (.of_fields rfl))).trans (State.evolves_jobFault _ _ _ _ (by simpa [Ramp.recordFlags] using ha))
    · exact h1.trans (.updRamp (.deliverInterval c hx (by simpa [Ramp.recordFlags] using ha)))

theorem State.evolves_offerReport (k : Fin 4) (f : Flags) (c : CloseRecord) (n : Nat) :
    s.Evolves running u (s.offerReport k f c n) := by
  refine (State.evolves_offerSequenced _ _ _).trans (.aside ?_)
  exact .of_aside rfl (fun l => by simp [Ramp.clearCounts, Ramp.lane, Lane.clearCounts]) (fun _ => rfl)
    (fun _ => u.allows_refl _)

theorem Ramp.countShare_alike (r : Ramp) : r.Alike u r.countShare := by
  simp only [Ramp.countShare]
  split
  · exact .of_fields rfl
  · split <;> exact .of_fields rfl

theorem State.evolves_intervalDelivered (k : Fin 4) {x : Option Snapshot} (c : CloseRecord)
    (hx : ∀ y, x = some y → running y.plan) : s.Evolves running u (s.intervalDelivered k x c) := by
  simp only [State.intervalDelivered]
  split
  · exact .refl s
  · split
    · exact .refl s
    · exact ((State.evolves_resultDelivered k c (hx _ rfl) ‹_›).trans (.aside (Ramp.countShare_alike _))).trans
        (State.evolves_offerReport _ _ _ _)

theorem State.evolves_firstPeriod (k : Fin 4) : s.Evolves running u (s.firstPeriod k) := by
  simp only [State.firstPeriod]
  split
  · rename_i h
    exact State.evolves_comeDue k (.inl (by rw [h.1]; rfl))
  · exact .refl s

theorem State.evolves_startDelivered (k : Fin 4) {x : Option Snapshot} (carried : Option Nat)
    (hx : ∀ y, x = some y → running y.plan) : s.Evolves running u (s.startDelivered k x carried) := by
  simp only [State.startDelivered]
  split
  · exact .refl s
  · rename_i y
    split
    · exact .refl s
    · have h1 : s.Evolves running u (s.updRamp k (fun r => r.recordFlags (computeStart y carried).flags)) :=
        .aside (.of_fields rfl)
      split
      · rename_i htakes
        have ha : ((s.updRamp k (fun r => r.recordFlags (computeStart y carried).flags)).ramp k).state.active = true := by
          simp only [RampState.takesStart, Bool.and_eq_true] at htakes
          simpa [Ramp.recordFlags] using htakes.1
        refine State.Evolves.trans ?_ (State.evolves_firstPeriod k)
        split
        · refine (h1.trans (State.evolves_jobFault k _ _ _ ha)).trans (.updRamp (.deliverStart carried (hx y rfl) ?_))
          simpa [State.jobFault] using ha
        · exact h1.trans (.updRamp (.deliverStart carried (hx y rfl) ha))
      · exact h1

/-! ## START, STOP and holds (R108 to R117) -/

/-- A hold source set of an active ramp. -/
theorem State.evolves_holdSet_of (k : Fin 4) {a b : Bool} {f : Ramp → Ramp}
    (hf : f (s.ramp k) = { s.ramp k with requestHold := a, inputHold := b })
    (h : (s.ramp k).state.active = true) (hab : (a || b) = true) : s.Evolves running u ((s.updRamp k f).holdSet k) := by
  rw [State.updRamp_congr (g := fun r => { r with requestHold := a, inputHold := b }) hf]
  exact State.evolves_holdSet k h hab

theorem State.evolves_holdEnded_of (k : Fin 4) {a b : Bool} {f : Ramp → Ramp}
    (hf : f (s.ramp k) = { s.ramp k with requestHold := a, inputHold := b })
    (hab : (a || b) = true → ((s.ramp k).requestHold || (s.ramp k).inputHold) = true) :
    s.Evolves running u ((s.updRamp k f).holdEnded k) := by
  rw [State.updRamp_congr (g := fun r => { r with requestHold := a, inputHold := b }) hf]
  exact State.evolves_holdEnded k hab

/-- A STARTING ramp that is held lands no closure: it is SUSPENDED. -/
theorem State.holdSet_starting {k : Fin 4} (h : (s.ramp k).state = .starting) :
    s.holdSet k = (s.updRamp k Ramp.enterSuspended).rampChanged k .starting .hold := by
  have hl : ∀ l, ((s.updRamp k Ramp.enterSuspended).ramp k).lane l = (s.ramp k).lane l := by
    intro l
    simp [Ramp.enterSuspended_eq, h]
    rfl
  rw [State.holdSet, State.landed, if_neg, h]
  simp only [State.ramp_rampChanged, hl, Bool.and_not_self, List.any_eq_true]
  simp

theorem State.evolves_loadFault (k : Fin 4) (h : (s.ramp k).state.active = true) : s.Evolves running u (s.loadFault k) := by
  simp only [State.loadFault]
  split
  · exact .refl s
  · refine State.Evolves.trans (.updRamps (.tail (.single (.setFaultPending h)) (.aside (.of_fields rfl))))
      (State.evolves_offerSequenced _ _ _)

theorem State.evolves_holdAtStart (k : Fin 4) (h : (s.ramp k).state = .starting) :
    s.Evolves running u (s.holdAtStart k) ∧ ((s.holdAtStart k).ramp k).state.active = true := by
  simp only [State.holdAtStart]
  split
  · refine ⟨State.evolves_holdSet_of k (a := (s.ramp k).requestHold) (b := true) rfl (by rw [h]; rfl) (by simp), ?_⟩
    rw [State.holdSet_starting (by simpa using h)]
    simp [Ramp.enterSuspended_eq, h, RampState.active]
  · exact ⟨.refl s, by rw [h]; rfl⟩

/-- R108: what a START that is taken finds. -/
theorem State.startRefusal_none {k : Fin 4} (h : s.startRefusal k = none) :
    (s.ramp k).state = .dark ∧ (s.ramp k).config.isSome = true ∧ (s.topPlan k).isSome = true ∧
    (s.ramp k).inService = true ∧ s.hasJob k = false := by
  simp only [State.startRefusal] at h
  split_ifs at h with h1 h2 h3 h4 h5
  exact ⟨not_not.mp h1, by simpa [Option.isSome_iff_ne_none] using h2, by simpa [Option.isSome_iff_ne_none] using h3,
    by simpa using h4, by simpa using h5⟩

theorem State.evolves_startTaken {k : Fin 4} (c : RampConfig) (h : s.startRefusal k = none) :
    s.Evolves running u (s.startTaken k c) := by
  obtain ⟨hdark, -, htop, -, hjob⟩ := State.startRefusal_none h
  have h1 : s.Evolves running u { s with jobs := s.jobs ++ [⟨k, .start (s.ramp k).carriedRate⟩] } :=
    State.evolves_jobAppended ⟨k, .start (s.ramp k).carriedRate⟩ hjob
  have h2 := h1.trans (.updRamp (k := k) (f := Ramp.started c) (.started c hdark htop))
  have h3 := (h2.trans (State.evolves_resetMarks _ k)).trans (State.evolves_offerRamp k .dark .start)
  obtain ⟨h4, ha⟩ := State.evolves_holdAtStart (running := running) (u := u) k
    (s := ((({ s with jobs := s.jobs ++ [⟨k, .start (s.ramp k).carriedRate⟩] } : State).updRamp k
      (Ramp.started c)).resetMarks k).offerRamp k .dark .start) (by simp [State.ramp, State.resetMarks])
  exact (h3.trans h4).trans (State.evolves_loadFault k ha)

theorem State.evolves_clearStarted (k : Fin 4) (n : Nat) : s.Evolves running u (s.clearStarted k n) := by
  simp only [State.clearStarted]
  split
  · exact .refl s
  · split
    · exact (State.evolves_enterDark k).trans (State.evolves_rampChanged _ _ _ _)
    · exact .aside (.of_fields rfl)

theorem State.evolves_stopTaken (k : Fin 4) (h : (s.ramp k).state.active = true) : s.Evolves running u (s.stopTaken k) :=
  (((State.Evolves.updRamp (.toClearing h)).trans (State.evolves_rampChanged _ _ _ _)).trans
    (State.evolves_landed k _)).trans (State.evolves_clearStarted k _)

theorem State.evolves_inputAsserted (k : Fin 4) : s.Evolves running u (s.inputAsserted k) := by
  simp only [State.inputAsserted]
  split
  · rename_i ha
    split
    · exact State.evolves_holdSet_of k (a := (s.ramp k).requestHold) (b := true) rfl ha (by simp)
    · exact State.evolves_holdSet_of k (a := (s.ramp k).requestHold) (b := true) rfl ha (by simp)
    · exact .refl s
  · exact .refl s

theorem State.evolves_inputDeasserted (k : Fin 4) : s.Evolves running u (s.inputDeasserted k) := by
  simp only [State.inputDeasserted]
  split
  · split
    · exact State.evolves_holdEnded_of k (a := (s.ramp k).requestHold) (b := false) rfl (by simp_all)
    · exact .refl s
  · exact .refl s

theorem State.evolves_released (k : Fin 4) : s.Evolves running u ((s.updRamp k Ramp.released).holdEnded k) := by
  refine State.evolves_holdEnded_of k (a := false)
    (b := if (s.ramp k).holdMode = some .latched then false else (s.ramp k).inputHold) rfl (fun h => ?_)
  split at h <;> simp_all

theorem State.evolves_warningEnded (k : Fin 4) (h : (s.ramp k).state = .starting) :
    s.Evolves running u (s.warningEnded k) := by
  have h1 : s.Evolves running u (s.updRamp k (fun r => { r with state := .metering, warningTimer := none })) :=
    .updRamp (.begin h)
  exact (h1.trans (State.evolves_rampChanged _ k (s.ramp k).state .warningEnd)).trans
    (State.evolves_beginMetering k (by simp [RampState.metersOrHeld]))

/-! ## Lanes and heads -/

theorem State.evolves_closeTaken (k : Fin 4) (l : Fin 3) : s.Evolves running u (s.closeTaken k l) := by
  simp only [State.closeTaken]
  split
  · exact .updRamp (.closePending l)
  · exact State.Evolves.trans (.updRamps (.tail (.single (.closePending l)) (.laneOff l))) (State.evolves_landed k _)

theorem State.evolves_laneOpened (k : Fin 4) (l : Fin 3) :
    s.Evolves running u ((s.updRamp k (fun r => r.openLane l)).withPlan k (fun p r => r.redAtOpen l p)) :=
  (State.Evolves.updRamp (.openLane l)).trans (.withPlan fun p _ => .redAtOpen l p)

theorem State.evolves_landedFreed (k : Fin 4) (s0 : State) :
    s.Evolves running u (State.rerunFreed s0 (State.landed k s0 s)) :=
  (State.evolves_landed k s0).trans (State.evolves_rerunFreed s0)

theorem State.Evolves.updHead {k : Fin 4} {l : Fin 3} {f : Head → Head} (hd : ∀ h, (f h).disabled = h.disabled)
    (hs : ∀ h, u.allows h.sent (f h).sent) : s.Evolves running u (s.updRamp k (fun r => r.updHead l f)) :=
  .aside (.of_updHead l f hd hs)

theorem State.evolves_driverHeard (src : Nat) : s.Evolves running u (s.driverHeard src) := by
  refine .foldl (fun s x => ?_) _ s
  refine .aside ?_
  simp only [Ramp.hear]
  split
  · split
    · exact .of_fields rfl
    · exact .of_updHead _ _ (fun _ => rfl) (fun _ => u.allows_refl _)
  · exact .of_fields rfl

theorem State.evolves_lampsReported (judged : List ((Fin 4 × Fin 3) × StatusRecord)) :
    s.Evolves running u (s.lampsReported judged) := by
  refine .foldl (fun s p => ?_) _ s
  exact .updHead (f := fun h => { h with lamps := .ofCode p.2.lamps }) (fun _ => rfl) (fun _ => u.allows_refl _)

theorem State.evolves_redsTaken (reds : List (Fin 4)) : s.Evolves running u (s.redsTaken reds) := by
  refine .foldl (fun s k => ?_) _ s
  split
  · exact State.evolves_enterDark k
  · exact .refl s

theorem State.evolves_judgeHead (hu : ∀ a, u.allows a none) (p : (Fin 4 × Fin 3) × StatusRecord) :
    s.Evolves running u (s.judgeHead p) := by
  simp only [State.judgeHead]
  split
  · exact State.evolves_disableLane _ _ _
  · simp only [State.compareShown]
    split
    · exact .refl s
    · split
      · exact .refl s
      · split_ifs
        · exact .updHead (f := fun h => { h with confirm := none }) (fun _ => rfl) (fun _ => u.allows_refl _)
        · exact .refl s
        · exact (State.Evolves.updHead (f := Head.invalid) (fun _ => rfl) (fun _ => hu _)).trans
            (State.evolves_disableLane _ _ _)

/-- R152: a status frame up to the offers at the event's end. -/
theorem State.evolves_statusJudged (hu : ∀ a, u.allows a none) (src : Nat) (reds : List (Fin 4))
    (judged : List ((Fin 4 × Fin 3) × StatusRecord)) : s.Evolves running u
      (State.rerunFreed s (judged.foldl State.judgeHead (((s.driverHeard src).lampsReported judged).redsTaken reds))) :=
  ((((State.evolves_driverHeard src).trans (State.evolves_lampsReported judged)).trans (State.evolves_redsTaken reds)).trans
    (.foldl (fun _ p => State.evolves_judgeHead hu p) _ _)).trans (State.evolves_rerunFreed s)

theorem State.evolves_statusNotices (s0 : State) (judged : List ((Fin 4 × Fin 3) × StatusRecord)) :
    s.Evolves running u (State.statusNotices s0 judged s) := by
  refine .foldl (fun s p => ?_) _ s
  split
  · exact s.evolves_offerHeadNotice _ _ _ _
  · exact .refl s

theorem State.evolves_silenced (k : Fin 4) (lanes : List (Fin 3)) : s.Evolves running u
    (lanes.foldl (fun s l => s.disableLane k l .silent)
      (s.updRamp k (fun r => lanes.foldl (fun r l => r.updHead l (fun h => { h with silence := none })) r))) := by
  refine State.Evolves.trans (.updRamps ?_) (.foldl (fun _ l => State.evolves_disableLane k l _) _ _)
  generalize s.ramp k = r
  induction lanes generalizing r with
  | nil => exact .refl
  | cons l rest ih =>
    exact .head (.aside (.of_updHead l (fun h => { h with silence := none }) (fun _ => rfl) (fun _ => u.allows_refl _)))
      (ih _)

theorem State.evolves_disableEnds (s0 : State) (fresh : List (Fin 4 × Fin 3)) :
    s.Evolves running .tells (State.disableEnds s0 fresh s) :=
  (((State.evolves_rerunFreed s0).trans (State.evolves_settleHeads s0 fresh)).trans
    (State.evolves_disableNotices s0 _)).trans (State.evolves_darkNotices s0 _ _)

end Evolves
end Sys2Proof.Machine
end

section
/-! Every command's event, once: parts of `State.Evolves` around at most one write of a setting that the invariants rest
on. -/

namespace Sys2Proof.Machine

open Relation (ReflTransGen)

/-- R6, R4, R5, R32: the tables after a run of entries was written, its notices offered and its sources resolved. -/
def State.runStored (i : Nat) (run : List EntryRecord) (which : Fin 4 → Nat → Bool) (s : State) : State :=
  (State.writeNotices s i run { s with
    detectors := writeRun i run s.detectors
    stations := stationList s.limits.timeout (stationsNamed (writeRun i run s.detectors)) s.stations }).resolveSources which

/-- The writes of an event that the invariants rest on: of a plan (R41), of a ramp's configuration (R106), of detector
entries (R7), and the resets (R166, R167). -/
inductive State.Writes (s : State) : State → Prop where
  | nothing : s.Writes s
  | hardReset {t} (ring : t = { State.reset with
        pending := s.pending, freeCount := s.freeCount, ownAddress := t.ownAddress, linkUp := t.linkUp,
        txHold := t.txHold, ramps := s.ramps.map (fun r => Ramp.reset r.holdInput) }) : s.Writes t
  | ringCleared : s.Writes s.ringCleared
  | plan {n p} : n < Config.planRecords → p.sound → s.Writes { s with plans := s.plans.insert n p }
  | config {k rec} : (s.ramp k).state = .dark → s.configFault k rec = none →
      s.Writes (s.updRamp k (Ramp.configured s.site (configOf rec)))
  | detectors {i run} (which) : i + run.length ≤ Config.detectorEntries → invalidEntry i run = none →
      (stationsNamed (writeRun i run s.detectors)).length ≤ Config.stationRecords → s.Writes (s.runStored i run which)

/-- The plan of the running job. -/
def State.running (s : State) (p : Plan) : Prop := ∃ x, s.rcu = .busy (some x) ∧ x.plan = p

/-- An event from `s` to `t`, the running job's plan as `running` says. -/
def State.Event (running : Plan → Prop) (s t : State) : Prop :=
  ∃ s0 s1, s.Evolves running .tells s0 ∧ s0.Writes s1 ∧ s1.Evolves running .tells t

section Events
variable {running : Plan → Prop} {s t w : State}

theorem State.Evolves.event (h : s.Evolves running .tells t) : s.Event running t :=
  ⟨s, s, .refl s, .nothing, h⟩

theorem State.Writes.event (h : s.Writes t) : s.Event running t := ⟨s, t, .refl s, h, .refl t⟩

theorem State.Event.trans (h : s.Event running t) (ht : t.Evolves running .tells w) : s.Event running w := by
  obtain ⟨s0, s1, h0, hw, h1⟩ := h
  exact ⟨s0, s1, h0, hw, h1.trans ht⟩

theorem State.Evolves.then (h : s.Evolves running .tells t) (ht : t.Event running w) : s.Event running w := by
  obtain ⟨s0, s1, h0, hw, h1⟩ := ht
  exact ⟨s0, s1, h.trans h0, hw, h1⟩

/-- A request on a ramp is an event if its effect on each ramp is. -/
theorem State.event_onRamp (q : Request) (code : Nat) {f : Fin 4 → State → State}
    (h : ∀ k, s.Event running (f k s)) : s.Event running (State.onRamp q code f s) := by
  simp only [State.onRamp]
  split
  · exact h _
  · exact (s.evolves_reply _ _ _ _).event

/-- The same for a request on a lane. -/
theorem State.event_onLane (q : Request) (code lane : Nat) (k : Fin 4) {f : Fin 3 → State → State}
    (h : ∀ l, s.Event running (f l s)) : s.Event running (State.onLane q code lane k f s) := by
  simp only [State.onLane]
  split
  · split
    · exact (s.evolves_reply _ _ _ _).event
    · split
      · exact (s.evolves_badValueUnstated _ _).event
      · exact h _
  · exact (s.evolves_badValueUnstated _ _).event

/-- The heads told their targets, and the reply, end an event. -/
theorem State.Event.settled (h : s.Event running t) (s0 : State) : s.Event running (State.settled s0 t) :=
  h.trans (State.evolves_settleHeads s0 [])

theorem State.Event.reply (h : s.Event running t) (q : Request) (code : Nat) (x : Result) (body : List Byte) :
    s.Event running (t.reply q code x body) := h.trans (t.evolves_reply q code x body)

/-! ## The ring and the line -/

theorem State.event_ringReset : s.Event running s.ringReset :=
  (((State.Writes.ringCleared.event).trans (.foldl (fun _ k => State.evolves_deriveAllDemands k) allRamps _)).trans
    (State.evolves_resolveSources _ _)).trans (State.evolves_settleHeads _ _)

theorem State.evolves_linkUpDelivered : s.Evolves running .tells s.linkUpDelivered := by
  refine State.Evolves.trans (.mapRamps fun r => .aside ?_) (State.evolves_settleHeads _ _)
  refine .of_aside rfl (fun _ => ⟨rfl, rfl⟩) (fun l => ?_) (fun _ => trivial)
  simp only [Ramp.invalidateHeads, Ramp.head, Three.get_tabulate]
  cases r.heads.get l <;> rfl

theorem State.evolves_offerForward (f : Frame) : s.Evolves running .tells (s.offerForward f) := by
  refine .of_fields (by simp) (by simp) (by simp) ?_ (by simp) (by simp) (by simp) (by simp) (by simp) (by simp)
  rintro ⟨hf, hu, hn, hw⟩
  exact ⟨s.offerForward_bound f hf, by simpa using hu, by simpa using hn, by simpa using hw⟩

theorem State.evolves_received (bytes : Frame) : s.Evolves running .tells (s.received bytes) := by
  simp only [State.received]
  have h : s.Evolves running .tells (match handOn s.ownAddress bytes with
      | some c => { s with handed := s.handed ++ [c] }
      | none => s) := by
    split
    · exact .of_rest rfl
    · exact .refl s
  split
  · exact h
  · exact h.trans (State.evolves_offerForward _)

theorem State.event_lineEnds : s.Event running s.lineEnds := by
  have h : s.Evolves running .tells { s with line := none } := .of_rest rfl
  simp only [State.lineEnds]
  split
  · exact h.then State.event_ringReset
  · exact h.event

theorem State.event_ringResetTaken (q : Request) : s.Event running (s.ringResetTaken q) := by
  simp only [State.ringResetTaken]
  split
  · exact (s.evolves_reply _ _ _ _).event
  · split
    · exact (s.evolves_offerNormal _).event
    · exact State.event_ringReset

/-! ## Requests -/

theorem State.event_siteWritten (q : Request) (rec : SiteRecord) : s.Event running (s.siteWritten q rec) := by
  simp only [State.siteWritten]
  split
  · exact (s.evolves_reply _ _ _ _).event
  · exact (State.Evolves.of_rest (t := { s with site := siteOf rec }) rfl).event.reply _ _ _ _

theorem State.event_limitsWritten (q : Request) (rec : LimitsRecord) : s.Event running (s.limitsWritten q rec) := by
  simp only [State.limitsWritten]
  split
  · exact (s.evolves_reply _ _ _ _).event
  · exact (State.Evolves.of_rest (t := { s with limits := limitsOf rec }) rfl).event.reply _ _ _ _

theorem State.event_planWritten (q : Request) (rec : PlanRecord) : s.Event running (s.planWritten q rec) := by
  simp only [State.planWritten]
  split
  · exact (s.evolves_reply _ _ _ _).event
  · rename_i hq
    split
    · exact (s.evolves_reply _ _ _ _).event
    · rename_i hf
      rw [Bool.not_eq_false, within_iff] at hq
      have hlt : q.subject < Config.planRecords := by
        simp only [Config.planRecords]
        omega
      refine (((State.Writes.plan hlt ⟨rec, hf, rfl⟩).event.trans ?_).settled s).reply _ _ _ _
      refine .foldl (fun s k => ?_) _ _
      split
      · exact s.evolves_rerunPick k
      · exact .refl s

theorem State.event_configWritten (q : Request) (rec : ConfigRecord) (k : Fin 4) :
    s.Event running (s.configWritten q rec k) := by
  simp only [State.configWritten]
  split
  · exact (s.evolves_reply _ _ _ _).event
  · rename_i hd
    split
    · exact (s.evolves_reply _ _ _ _).event
    · rename_i hf
      have h1 := (State.Writes.config (not_not.mp hd) hf).event (running := running)
      exact (((h1.trans (State.evolves_deriveAllDemands k)).trans (State.evolves_resolveSources _ _)).trans
        (State.evolves_settleHeads _ _)).reply _ _ _ _

theorem runTaken_le (i count : Nat) (h : i < 64) : i + runTaken i count ≤ 64 := by
  simp only [runTaken]
  omega

theorem State.event_detectorsWritten (q : Request) (entries : List EntryRecord) :
    s.Event running (s.detectorsWritten q entries) := by
  simp only [State.detectorsWritten]
  split
  · exact (s.evolves_reply _ _ _ _).event
  · split
    · exact (s.evolves_reply _ _ _ _).event
    · rename_i hq
      rw [Bool.not_eq_false, within_iff] at hq
      split
      · exact (s.evolves_reply _ _ _ _).event
      · rename_i hvalid
        split
        · exact (s.evolves_reply _ _ _ _).event
        · rename_i hlen
          have hrun : q.subject + (entries.take (runTaken q.subject entries.length)).length ≤ Config.detectorEntries := by
            have := runTaken_le q.subject entries.length (by omega)
            simp only [List.length_take, Config.detectorEntries]
            omega
          refine State.Event.reply (State.Event.settled ?_ s) _ _ _ _
          exact (State.Writes.event (.detectors _ hrun hvalid (not_lt.mp hlen))).trans
            (.foldl (fun s k => State.evolves_deriveRamp _ _ k) _ _)

theorem State.event_detectorsRead (q : Request) (count view : Nat) : s.Event running (s.detectorsRead q count view) := by
  simp only [State.detectorsRead]
  split
  · exact (s.evolves_reply _ _ _ _).event
  · split
    · exact (s.evolves_reply _ _ _ _).event
    · split
      · exact ((s.evolves_reply _ _ _ _).trans (State.evolves_drew _ _)).event
      · exact (s.evolves_reply _ _ _ _).event

theorem State.event_forcedOut (q : Request) : s.Event running (s.forcedOut q) := by
  simp only [State.forcedOut]
  split
  · exact (s.evolves_reply _ _ _ _).event
  · split
    · exact (s.evolves_reply _ _ _ _).event
    · rename_i d hd
      split
      · exact (s.evolves_reply _ _ _ _).event
      · exact (State.evolves_healthSet hd _ _).event.reply _ _ _ _

theorem State.event_restored (q : Request) : s.Event running (s.restored q) := by
  simp only [State.restored]
  split
  · exact (s.evolves_reply _ _ _ _).event
  · split
    · exact (s.evolves_reply _ _ _ _).event
    · rename_i d hd
      split
      · exact (s.evolves_reply _ _ _ _).event
      · exact (State.evolves_healthSet hd _ _).event.reply _ _ _ _

theorem State.event_planRead (q : Request) : s.Event running (s.planRead q) := by
  simp only [State.planRead]
  split
  · exact (s.evolves_reply _ _ _ _).event
  · split <;> exact (s.evolves_reply _ _ _ _).event

theorem State.event_stackTaken (q : Request) (code : Nat) (k : Fin 4) {stack : List Nat} (h : s.TakesStack k stack) :
    s.Event running (s.stackTaken q code k stack) :=
  ((h.evolves.trans (State.evolves_rerunPick _ k)).event.settled s).reply _ _ _ _

theorem State.planValid_of_not {p : Nat} (h : ¬(within 0 15 p = false ∨ s.planValid p = false)) :
    (s.plans.get p).isSome = true := by
  rw [not_or, Bool.not_eq_false, Bool.not_eq_false] at h
  exact h.2

theorem State.event_pushed (q : Request) (plan : Nat) (k : Fin 4) : s.Event running (s.pushed q plan k) := by
  simp only [State.pushed]
  split
  · exact (s.evolves_reply _ _ _ _).event
  · rename_i hp
    split
    · exact (State.evolves_stackFlag k).event.reply _ _ _ _
    · exact State.event_stackTaken q _ k (State.takesStack_push (State.planValid_of_not hp) ‹_›)

theorem State.event_popped (q : Request) (k : Fin 4) : s.Event running (s.popped q k) := by
  simp only [State.popped]
  split
  · exact (State.evolves_stackFlag k).event.reply _ _ _ _
  · split
    · exact (s.evolves_reply _ _ _ _).event
    · exact State.event_stackTaken q _ k (State.takesStack_pop ‹_› ‹_›)

theorem State.event_baseSet (q : Request) (plan : Nat) (k : Fin 4) : s.Event running (s.baseSet q plan k) := by
  simp only [State.baseSet]
  split
  · exact (s.evolves_reply _ _ _ _).event
  · exact State.event_stackTaken q _ k (State.takesStack_rebase (State.planValid_of_not ‹_›))

theorem State.event_configRead (q : Request) (k : Fin 4) : s.Event running (s.configRead q k) := by
  simp only [State.configRead]
  split <;> exact (s.evolves_reply _ _ _ _).event

theorem State.event_started (q : Request) (k : Fin 4) : s.Event running (s.started q k) := by
  simp only [State.started]
  split
  · exact (s.evolves_reply _ _ _ _).event
  · exact (s.evolves_reply _ _ _ _).event
  · exact ((State.evolves_startTaken _ ‹_›).event.settled s).reply _ _ _ _

theorem State.event_stopped (q : Request) (k : Fin 4) : s.Event running (s.stopped q k) := by
  simp only [State.stopped]
  split
  · exact ((State.evolves_stopTaken k ‹_›).event.settled s).reply _ _ _ _
  · exact (s.evolves_reply _ _ _ _).event

theorem State.event_held (q : Request) (k : Fin 4) : s.Event running (s.held q k) := by
  simp only [State.held]
  split
  · exact ((State.evolves_holdSet_of k (a := true) (b := (s.ramp k).inputHold) rfl ‹_› (by simp)).event.settled s).reply
      _ _ _ _
  · exact (s.evolves_reply _ _ _ _).event

theorem State.event_released (q : Request) (k : Fin 4) : s.Event running (s.released q k) :=
  ((State.evolves_released k).event.settled s).reply _ _ _ _

theorem State.event_shared (q : Request) (reduction lifetime : Nat) (k : Fin 4) :
    s.Event running (s.shared q reduction lifetime k) := by
  simp only [State.shared]
  split
  · exact (s.evolves_badValueUnstated _ _).event
  · split
    · exact (State.Evolves.aside (.of_fields rfl)).event.reply _ _ _ _
    · exact (s.evolves_reply _ _ _ _).event

theorem State.event_laneClosed (q : Request) (k : Fin 4) (l : Fin 3) : s.Event running (s.laneClosed q k l) := by
  simp only [State.laneClosed]
  split
  · exact (s.evolves_reply _ _ _ _).event
  · split
    · exact (s.evolves_reply _ _ _ _).event
    · exact ((State.evolves_closeTaken k l).event.settled s).reply _ _ _ _

theorem State.event_laneOpened (q : Request) (k : Fin 4) (l : Fin 3) : s.Event running (s.laneOpened q k l) := by
  simp only [State.laneOpened]
  split
  · exact (s.evolves_reply _ _ _ _).event
  · exact ((State.evolves_laneOpened k l).event.settled s).reply _ _ _ _

theorem State.event_statusCleared (q : Request) (k : Fin 4) : s.Event running (s.statusCleared q k) :=
  (State.Evolves.aside (.of_fields rfl)).event.reply _ _ _ _

theorem State.event_resumed (q : Request) (k : Fin 4) : s.Event running (s.resumed q k) := by
  simp only [State.resumed]
  split
  · exact (State.Evolves.withPlan fun p hp => .resumed hp ‹_›).event.reply _ _ _ _
  · exact (s.evolves_reply _ _ _ _).event

theorem State.event_contextDumped (q : Request) (k : Fin 4) : s.Event running (s.contextDumped q k) := by
  simp only [State.contextDumped]
  split
  · exact (s.evolves_reply _ _ _ _).event
  · split
    · exact ((s.evolves_reply _ _ _ _).trans (State.evolves_drew _ _)).event
    · exact (s.evolves_reply _ _ _ _).event

theorem State.event_contextLoaded (q : Request) (rec : ContextRecord) (k : Fin 4) :
    s.Event running (s.contextLoaded q rec k) := by
  simp only [State.contextLoaded]
  split
  · exact (s.evolves_reply _ _ _ _).event
  · rename_i hd
    split
    · exact (s.evolves_reply _ _ _ _).event
    · split
      · exact (s.evolves_reply _ _ _ _).event
      · exact (State.evolves_contextLoaded (not_not.mp hd) ‹_› _).event.reply _ _ _ _

theorem State.running_took (c : Instr) : (s.took c).running = s.running := by
  funext p
  simp [State.running]

theorem State.evolves_graceEnded (k : Fin 4) (l : Fin 3) :
    s.Evolves running .tells (s.updRamp k (fun r => r.updLane l (fun x => { x with grace := none }))) := by
  refine .aside (.of_aside rfl (fun j => ?_) (fun _ => rfl) (fun _ => trivial))
  rw [Ramp.lane_updLane]
  split
  · subst j
    exact ⟨rfl, rfl⟩
  · exact ⟨rfl, rfl⟩

theorem State.Event.cycleMoved {k : Fin 4} (h : s.Event running t) (s0 : State) :
    s.Event running (State.cycleMoved k s0 t) := (h.trans (State.evolves_landedFreed k s0)).settled s0

theorem State.evolves_statusTaken (src : Nat) (records : List StatusRecord) :
    s.Evolves running .tells (s.statusTaken src records) := by
  have h1 := State.evolves_statusJudged (running := running) (u := .tells) (s := s) (fun _ => trivial) src
    (redRamps (s.judged src (s.screenStatus src [] records))) (s.judged src (s.screenStatus src [] records))
  exact ((h1.trans (State.evolves_settleHeads s _)).trans (State.evolves_statusNotices s _)).trans
    (State.evolves_darkNotices s _ _)

theorem LaneCycle.busy_of_isAmber {c : LaneCycle} (h : c.isAmber = true) : c.busy = true := by
  cases c <;> simp_all [LaneCycle.isAmber, LaneCycle.busy]

/-- Every command's event, and the starts that end it. -/
theorem exec_event (c : Instr) (s : State) : ∃ t, exec c s = .next t ∧ s.Event s.running t := by
  -- A command that a frame carries takes itself from the hand-over first.
  have acting : ∀ (f : State → State), (∀ x : State, x.Event x.running (f x)) →
      ∃ t, s.acting c f = .next t ∧ s.Event s.running t := by
    intro f h
    refine ⟨_, rfl, ((s.evolves_took c).then ?_).trans State.evolves_withStarts⟩
    rw [← State.running_took c]
    exact h _
  have ends : ∀ x : State, s.Event s.running x → ∃ t, x.ends = .next t ∧ s.Event s.running t :=
    fun x h => ⟨_, rfl, h.trans State.evolves_withStarts⟩
  have guarded : ∀ {p : Prop} [Decidable p] (x : State), (p → s.Event s.running x) →
      ∃ t, (if p then x else s).ends = .next t ∧ s.Event s.running t := by
    intro p _ x h
    refine ends _ ?_
    split
    · exact h ‹_›
    · exact (State.Evolves.refl s).event
  have rest : ∀ {x : State}, s.Evolves s.running .tells x → ∃ t, x.ends = .next t ∧ s.Event s.running t :=
    fun h => ends _ h.event
  cases c with
  | hardReset straps signal => exact ⟨_, rfl, (State.Writes.hardReset rfl).event⟩
  | linkSignalLost => exact rest (.of_rest rfl)
  | linkSignalRegained =>
    refine ends _ ?_
    split
    · exact (State.Evolves.refl s).event
    · exact ((State.Evolves.of_rest (t := { s with linkUp := true, awaitingGap := true }) rfl).trans
        State.evolves_linkUpDelivered).event
  | txholdAsserted => exact rest (.of_rest rfl)
  | txholdDeasserted => exact rest (.of_rest rfl)
  | rampHoldInputAsserted k =>
    refine ends _ ?_
    split
    · exact (State.Evolves.refl s).event
    · exact (State.Evolves.trans (.aside (.of_fields rfl)) (State.evolves_inputAsserted k)).event.settled s
  | rampHoldInputDeasserted k =>
    exact guarded _ fun _ =>
      (State.Evolves.trans (.aside (.of_fields rfl)) (State.evolves_inputDeasserted k)).event.settled s
  | frameReceived bytes => exact guarded _ fun _ => (State.evolves_received bytes).event
  | transmitStart => exact rest (.refl s)
  | transmitEnd => exact ends _ State.event_lineEnds
  | scanFrame src span count records =>
    refine acting (fun s => if s.scanActedOn src span count records then State.settled s (s.scanned src span records) else s)
      fun x => ?_
    split
    · exact (State.evolves_scanned _ _ _).event.settled x
    · exact (State.Evolves.refl x).event
  | headStatus dst src count records =>
    refine acting (fun s => if s.statusActedOn dst src count records then s.statusTaken src records else s) fun x => ?_
    split
    · exact (State.evolves_statusTaken src records).event
    · exact (State.Evolves.refl x).event
  | requestFormatReject src tag payload =>
    refine acting (fun s => if formatFault payload then
      s.reply ⟨src, tag, 0⟩ (echoedCode payload) .badFormat (s.formatBody payload) else s) fun x => ?_
    split
    · exact (x.evolves_reply _ _ _ _).event
    · exact (State.Evolves.refl x).event
  | identify q => exact acting (fun s => s.reply q 0x01 .done s.identity) fun x => (x.evolves_reply _ _ _ _).event
  | siteWrite q rec => exact acting _ fun _ => State.event_siteWritten q rec
  | siteRead q => exact acting (fun s => s.reply q 0x03 .done s.site.bytes) fun x => (x.evolves_reply _ _ _ _).event
  | healthLimitsWrite q rec => exact acting _ fun _ => State.event_limitsWritten q rec
  | healthLimitsRead q => exact acting (fun s => s.reply q 0x05 .done s.limits.bytes) fun x => (x.evolves_reply _ _ _ _).event
  | detectorWrite q entries => exact acting _ fun _ => State.event_detectorsWritten q entries
  | detectorRead q count view => exact acting _ fun _ => State.event_detectorsRead q count view
  | forceOut q => exact acting _ fun _ => State.event_forcedOut q
  | restore q => exact acting _ fun _ => State.event_restored q
  | planWrite q rec => exact acting _ fun _ => State.event_planWritten q rec
  | planRead q => exact acting _ fun _ => State.event_planRead q
  | push q plan => exact acting _ fun _ => State.event_onRamp q _ fun k => State.event_pushed q plan k
  | pop q => exact acting _ fun _ => State.event_onRamp q _ fun k => State.event_popped q k
  | setBase q plan => exact acting _ fun _ => State.event_onRamp q _ fun k => State.event_baseSet q plan k
  | rampConfigWrite q rec => exact acting _ fun _ => State.event_onRamp q _ fun k => State.event_configWritten q rec k
  | rampConfigRead q => exact acting _ fun _ => State.event_onRamp q _ fun k => State.event_configRead q k
  | start q => exact acting _ fun _ => State.event_onRamp q _ fun k => State.event_started q k
  | stop q => exact acting _ fun _ => State.event_onRamp q _ fun k => State.event_stopped q k
  | hold q => exact acting _ fun _ => State.event_onRamp q _ fun k => State.event_held q k
  | release q => exact acting _ fun _ => State.event_onRamp q _ fun k => State.event_released q k
  | resume q => exact acting _ fun _ => State.event_onRamp q _ fun k => State.event_resumed q k
  | laneClose q lane =>
    exact acting _ fun _ => State.event_onRamp q _ fun k => State.event_onLane q _ _ k fun l => State.event_laneClosed q k l
  | laneOpen q lane =>
    exact acting _ fun _ => State.event_onRamp q _ fun k => State.event_onLane q _ _ k fun l => State.event_laneOpened q k l
  | share q reduction lifetime =>
    exact acting _ fun _ => State.event_onRamp q _ fun k => State.event_shared q reduction lifetime k
  | statusRead q =>
    exact acting (State.onRamp q 0x40 (fun k s => s.reply q 0x40 .done (s.ramp k).statusBody)) fun x =>
      State.event_onRamp q _ fun k => (x.evolves_reply _ _ _ _).event
  | statusClear q => exact acting _ fun _ => State.event_onRamp q _ fun k => State.event_statusCleared q k
  | contextDump q => exact acting _ fun _ => State.event_onRamp q _ fun k => State.event_contextDumped q k
  | contextLoad q rec => exact acting _ fun _ => State.event_onRamp q _ fun k => State.event_contextLoaded q rec k
  | ringStatus q =>
    exact acting (fun s => s.droppedCleared.reply q 0x50 .done s.ringStatusBody) fun x =>
      (State.Evolves.of_rest (t := x.droppedCleared) rfl).event.reply _ _ _ _
  | ringReset q => exact acting _ fun _ => State.event_ringResetTaken q
  | ringResetEffect =>
    exact guarded _ fun _ => (State.Evolves.of_rest (t := { s with line := none }) rfl).then State.event_ringReset
  | stationTimerExpiry address => exact guarded _ fun h => (State.evolves_stationExpired h).event.settled s
  | intervalClose k =>
    refine ends _ ?_
    split
    · exact (State.evolves_intervalClosed k _).event
    · exact (State.Evolves.refl s).event
  | jobStart => exact rest (.refl s)
  | intervalJobCompletion =>
    refine ends _ ?_
    split
    · rename_i x k c more hr hj
      exact ((State.evolves_intervalDelivered k c (fun y hy => ⟨y, hy ▸ hr, rfl⟩)).trans State.evolves_jobLeft).event
    · exact (State.Evolves.refl s).event
  | startJobCompletion =>
    refine ends _ ?_
    split
    · rename_i x k carried more hr hj
      exact ((State.evolves_startDelivered k carried (fun y hy => ⟨y, hy ▸ hr, rfl⟩)).trans
        State.evolves_jobLeft).event.settled s
    · exact (State.Evolves.refl s).event
  | warningTimerExpiry k => exact guarded _ fun h => (State.evolves_warningEnded k h.1).event.settled s
  | clearTimerExpiry k =>
    exact guarded _ fun _ =>
      ((State.evolves_enterDark k).trans (State.evolves_rampChanged _ _ _ _)).event.settled s
  | releaseDue k => exact guarded _ fun h => (State.evolves_comeDue k (.inr h)).event.settled s
  | greenEnd k l =>
    exact guarded _ fun h =>
      (State.Evolves.updRamp (.endGreen (LaneCycle.busy_of_isGreen h))).event.cycleMoved s
  | amberEnd k l =>
    exact guarded _ fun h =>
      (State.Evolves.updRamp (.endWindow (LaneCycle.busy_of_isAmber h))).event.cycleMoved s
  | redEnd k l =>
    exact guarded _ fun h =>
      ((State.Evolves.updRamp (.enterReady h)).trans (State.evolves_rerunPick _ k)).event.settled s
  | graceTimeExpiry k l => exact rest (State.evolves_graceEnded k l)
  | refreshTimerExpiry k l =>
    exact rest ((State.evolves_offerHead k l).trans
      (.updHead (f := fun h => { h with refresh := s.site.refresh }) (fun _ => rfl) (fun _ => trivial)))
  | confirmTimerExpiry k l =>
    exact guarded _ fun _ =>
      (((State.Evolves.updHead (u := .tells) (f := Head.invalid) (fun _ => rfl) (fun _ => trivial)).trans
        (State.evolves_disableLane k l _)).trans (State.evolves_disableEnds s _)).event
  | silenceTimerExpiry k l =>
    exact guarded _ fun _ => ((State.evolves_silenced k _).trans (State.evolves_disableEnds s _)).event
  | firstIdleGap => exact guarded _ fun _ => (State.Evolves.of_rest rfl).event

end Events
end Sys2Proof.Machine
end

section
/-! The detector table and the station list after a DETECTOR WRITE (R4 to R7). -/

namespace Sys2Proof

theorem rowsGet_filter_key {α : Type} (rows : List (Nat × α)) (f : Nat → Bool) (i : Nat) :
    rowsGet (rows.filter (fun p => f p.1)) i = if f i then rowsGet rows i else none := by
  induction rows with
  | nil => simp [rowsGet]
  | cons p rest ih =>
    obtain ⟨j, y⟩ := p
    by_cases hf : f j = true
    · by_cases hj : j = i
      · subst j
        simp [hf, rowsGet]
      · simp [hf, rowsGet, hj, ih]
    · by_cases hj : j = i
      · subst j
        simp [hf, ih]
      · simp [hf, rowsGet, hj, ih]

/-- In a table in canonical form the rows are what its keys read as. -/
theorem Table.mem_rows_iff {α : Type} {t : Table α} (h : rowsRising t.rows = true) {i : Nat} {x : α} :
    (i, x) ∈ t.rows ↔ t.get i = some x := ⟨rowsGet_of_mem h, rowsGet_mem⟩

theorem rowsRising_keys_nodup {α : Type} {rows : List (Nat × α)} (h : rowsRising rows = true) :
    (rows.map (fun p => p.1)).Nodup := by
  induction rows with
  | nil => exact List.nodup_nil
  | cons p rest ih =>
    obtain ⟨hp, hr⟩ := (rowsRising_cons p rest).mp h
    refine List.nodup_cons.mpr ⟨fun hm => ?_, ih hr⟩
    obtain ⟨q, hq, he⟩ := List.mem_map.mp hm
    have hlt : p.1 < q.1 := hp q hq
    have heq : q.1 = p.1 := he
    omega

/-- A table in canonical form has at most as many rows as a list that its keys are in. -/
theorem Table.length_le_of_keys {α : Type} {t : Table α} (h : rowsRising t.rows = true) {l : List Nat}
    (hl : ∀ i, (t.get i).isSome = true → i ∈ l) : t.rows.length ≤ l.length := by
  have hsub : t.rows.map (fun p => p.1) ⊆ l := by
    intro i hi
    obtain ⟨⟨j, x⟩, hp, rfl⟩ := List.mem_map.mp hi
    exact hl j (by rw [(Table.mem_rows_iff h).mp hp]; rfl)
  simpa using ((rowsRising_keys_nodup h).subperm hsub).length_le

end Sys2Proof

namespace Sys2Proof.Machine

/-! ## The entries written -/

theorem writeRun_wf {i : Nat} {run : List EntryRecord} {t : Table Detector} {bound : Nat} (h : t.wf bound = true)
    (hi : i + run.length ≤ bound) : (writeRun i run t).wf bound = true := by
  induction run generalizing i t with
  | nil => exact h
  | cons r rest ih =>
    simp only [List.length_cons] at hi
    simp only [writeRun]
    refine ih ?_ (by omega)
    split
    · exact Table.wf_insert _ h (by omega)
    · exact Table.wf_erase _ h

/-- R4, R5: each entry of the run is set up afresh or discarded, and no other entry changes. -/
theorem writeRun_get (i : Nat) (run : List EntryRecord) (t : Table Detector) (j : Nat) :
    (writeRun i run t).get j =
      if i ≤ j ∧ j < i + run.length then (run[j - i]?.bind entryConfig).map Detector.fresh else t.get j := by
  induction run generalizing i t with
  | nil =>
    rw [if_neg (by simp only [List.length_nil]; omega)]
    rfl
  | cons r rest ih =>
    rw [writeRun, ih]
    simp only [List.length_cons]
    by_cases hj : j = i
    · subst j
      rw [if_neg (by omega), if_pos (by omega)]
      cases hc : entryConfig r <;> simp [hc]
    · by_cases hin : i + 1 ≤ j ∧ j < i + 1 + rest.length
      · have h1 : j - i = (j - (i + 1)) + 1 := by omega
        rw [if_pos hin, if_pos (by omega), h1, List.getElem?_cons_succ]
      · rw [if_neg hin, if_neg (by omega)]
        cases entryConfig r <;> simp [hj]

/-! ## The stations that the entries name -/

theorem mem_stationsNamed {t : Table Detector} {a : Nat} :
    a ∈ stationsNamed t ↔ ∃ p ∈ t.rows, p.2.config.station = a := by
  simp [stationsNamed]

/-- R6: a station has a record exactly while an enabled entry names it, the one it had or a fresh one. -/
theorem stationList_get (timeout : Nat) (named : List Nat) (old : Table Station) (a : Nat) :
    (stationList timeout named old).get a =
      if a ∈ named then some ((old.get a).getD (.restarted timeout)) else none := by
  have fold : ∀ (l : List Nat) (t : Table Station),
      (l.foldl (fun t a => if (t.get a).isSome then t else t.insert a (.restarted timeout)) t).get a =
        if a ∈ l then some ((t.get a).getD (.restarted timeout)) else t.get a := by
    intro l
    induction l with
    | nil => simp
    | cons b rest ih =>
      intro t
      rw [List.foldl_cons, ih]
      by_cases hb : (t.get b).isSome = true
      · rw [if_pos hb]
        by_cases hab : a = b
        · subst hab
          obtain ⟨x, hx⟩ := Option.isSome_iff_exists.mp hb
          simp [hx]
        · simp [hab]
      · rw [if_neg hb]
        by_cases hab : a = b
        · subst hab
          simp [Option.not_isSome_iff_eq_none.mp hb]
        · simp [hab]
  rw [stationList, fold]
  have hfilter : (⟨old.rows.filter (fun p => named.contains p.1)⟩ : Table Station).get a =
      if named.contains a then old.get a else none := rowsGet_filter_key old.rows named.contains a
  by_cases ha : a ∈ named
  · rw [if_pos ha, if_pos ha, hfilter, if_pos (by simpa using ha)]
  · rw [if_neg ha, if_neg ha, hfilter, if_neg (by simpa using ha)]

theorem stationList_wf {timeout bound : Nat} {named : List Nat} {old : Table Station} (h : old.wf bound = true)
    (hn : ∀ a ∈ named, a < bound) : (stationList timeout named old).wf bound = true := by
  have fold : ∀ (l : List Nat) (t : Table Station), t.wf bound = true → (∀ a ∈ l, a < bound) →
      (l.foldl (fun t a => if (t.get a).isSome then t else t.insert a (.restarted timeout)) t).wf bound = true := by
    intro l
    induction l with
    | nil => exact fun _ h _ => h
    | cons b rest ih =>
      intro t ht hl
      rw [List.foldl_cons]
      refine ih _ ?_ (fun a ha => hl a (List.mem_cons_of_mem _ ha))
      split
      · exact ht
      · exact Table.wf_insert _ ht (hl b List.mem_cons_self)
  refine fold named _ ?_ hn
  obtain ⟨h1, h2⟩ := (Table.wf_iff _ _).mp h
  exact (Table.wf_iff _ _).mpr ⟨rowsRising_filter _ h1, fun q hq => h2 q (List.mem_filter.mp hq).1⟩

/-- R1: the station that a valid enabled entry names is a node. -/
theorem entryConfig_station {i : Nat} {r : EntryRecord} {c : DetectorConfig} (hv : entryValid i r = true)
    (hc : entryConfig r = some c) : c.station < Config.broadcast := by
  simp only [entryConfig] at hc
  split at hc
  · rename_i he
    cases hc
    simp only [entryValid, he, Bool.not_true, Bool.false_or, Bool.and_eq_true, within_iff] at hv
    simp only [Config.broadcast]
    omega
  · cases hc

theorem invalidEntry_none {i : Nat} {run : List EntryRecord} (h : invalidEntry i run = none) {n : Nat} {r : EntryRecord}
    (hr : run[n]? = some r) : entryValid (i + n) r = true := by
  induction run generalizing i n with
  | nil => simp at hr
  | cons x rest ih =>
    simp only [invalidEntry] at h
    split at h
    · rename_i hx
      cases n with
      | zero =>
        simp only [List.getElem?_cons_zero, Option.some.injEq] at hr
        simpa [← hr] using hx
      | succ n =>
        rw [List.getElem?_cons_succ] at hr
        have := ih h hr
        rwa [show i + 1 + n = i + (n + 1) by omega] at this
    · cases h

/-! ## The tables kept in step -/

variable {running : Plan → Prop} {u : HeadUse} {s t : State}

theorem State.evolves_writeNotices (s0 : State) (i : Nat) (run : List EntryRecord) (s : State) :
    s.Evolves running u (State.writeNotices s0 i run s) ∧ (State.writeNotices s0 i run s).detectors = s.detectors ∧
    (State.writeNotices s0 i run s).stations = s.stations := by
  induction run generalizing i s with
  | nil => exact ⟨.refl s, rfl, rfl⟩
  | cons r rest ih =>
    simp only [State.writeNotices]
    split
    · split
      · exact ih _ s
      · obtain ⟨h1, h2, h3⟩ := ih (i + 1) (s.offerHealth i _ _ .good .write .none)
        exact ⟨(s.evolves_offerSequenced _ _).trans h1, h2.trans (by simp), h3.trans (by simp)⟩
    · exact ih _ s

/-- A written run moves no ramp and no job. -/
theorem State.runStored_moves (i : Nat) (run : List EntryRecord) (which : Fin 4 → Nat → Bool) :
    s.Moves running u (s.runStored i run which) := by
  have h : s.Moves running u { s with
      detectors := writeRun i run s.detectors
      stations := stationList s.limits.timeout (stationsNamed (writeRun i run s.detectors)) s.stations } :=
    ⟨rfl, le_refl _, rfl, id, id, fun _ h => .inl h, fun _ => .refl⟩
  exact (h.trans (State.evolves_writeNotices s i run _).1.moves).trans (State.evolves_resolveSources _ which).moves

/-- R3, R6, R7, R17: a written run leaves the tables in step. -/
theorem State.runStored_kept {i : Nat} {run : List EntryRecord} (which : Fin 4 → Nat → Bool) (h : s.detectorsKept)
    (hrun : i + run.length ≤ Config.detectorEntries) (hvalid : invalidEntry i run = none)
    (hlen : (stationsNamed (writeRun i run s.detectors)).length ≤ Config.stationRecords) :
    (s.runStored i run which).detectorsKept := by
  obtain ⟨h1, h2, h3, h4, h5, -, -⟩ := h
  obtain ⟨-, hd, hs⟩ := State.evolves_writeNotices (running := fun _ => True) (u := .keeps) s i run { s with
    detectors := writeRun i run s.detectors
    stations := stationList s.limits.timeout (stationsNamed (writeRun i run s.detectors)) s.stations }
  have hdet : (s.runStored i run which).detectors = writeRun i run s.detectors := hd
  have hsta : (s.runStored i run which).stations =
      stationList s.limits.timeout (stationsNamed (writeRun i run s.detectors)) s.stations := hs
  have hwf := writeRun_wf (t := s.detectors) h1 hrun
  have hrise := ((Table.wf_iff _ _).mp hwf).1
  have hget : ∀ j d, (s.runStored i run which).detector j = some d →
      (∃ c, d = .fresh c ∧ c.station < Config.broadcast) ∨ s.detector j = some d := by
    intro j d hj
    rw [State.detector, hdet, writeRun_get] at hj
    split at hj
    · rw [Option.map_eq_some_iff] at hj
      obtain ⟨c, hc, rfl⟩ := hj
      rw [Option.bind_eq_some_iff] at hc
      obtain ⟨r, hr, hc⟩ := hc
      exact .inl ⟨c, rfl, entryConfig_station (invalidEntry_none hvalid hr) hc⟩
    · exact .inr hj
  have hnamed : ∀ a, a ∈ stationsNamed (writeRun i run s.detectors) ↔
      ∃ j d, (s.runStored i run which).detector j = some d ∧ d.config.station = a := by
    intro a
    rw [mem_stationsNamed]
    constructor
    · rintro ⟨⟨j, d⟩, hp, ha⟩
      exact ⟨j, d, by rw [State.detector, hdet]; exact (Table.mem_rows_iff hrise).mp hp, ha⟩
    · rintro ⟨j, d, hj, ha⟩
      rw [State.detector, hdet] at hj
      exact ⟨(j, d), (Table.mem_rows_iff hrise).mpr hj, ha⟩
  have hbound : ∀ a ∈ stationsNamed (writeRun i run s.detectors), a < Config.broadcast := by
    intro a ha
    obtain ⟨j, d, hj, rfl⟩ := (hnamed a).mp ha
    rcases hget j d hj with ⟨c, rfl, hc⟩ | hj
    · exact hc
    · exact Table.key_lt h2 ((h5 _).mpr ⟨j, d, hj, rfl⟩)
  have hstations := stationList_wf (timeout := s.limits.timeout) h2 hbound
  refine ⟨by rwa [hdet], by rwa [hsta], ?_, ?_, ?_, ?_, ?_⟩
  · rw [hsta]
    refine (Table.length_le_of_keys ((Table.wf_iff _ _).mp hstations).1 (fun a ha => ?_)).trans hlen
    rw [stationList_get] at ha
    by_contra hn
    rw [if_neg hn] at ha
    cases ha
  · intro j d hj
    rcases hget j d hj with ⟨c, rfl, -⟩ | hj
    · exact le_refl _
    · exact h4 j d hj
  · intro a
    rw [hsta, stationList_get, ← hnamed]
    by_cases ha : a ∈ stationsNamed (writeRun i run s.detectors)
    · simp [ha]
    · simp [ha]
  · refine State.resolveSources_wf which ?_
    rw [hd]
    exact hwf
  · intro j hj
    rw [State.runStored, State.resolveSources_get] at hj
    obtain ⟨d, hd, hr⟩ := State.lastSource_spill hj
    exact ⟨d, hd, hr⟩

end Sys2Proof.Machine
end

section
/-! What every step keeps, from what every move of a ramp keeps: the parts of an event, its writes, and the resets. -/

namespace Sys2Proof.Machine

open Relation (ReflTransGen)

/-! ## After a hard reset -/

/-- What HARD_RESET leaves of what the invariants speak of (R167). -/
structure State.Cleared (t : State) : Prop where
  ramps : ∀ k, ∃ pin, t.ramp k = Ramp.reset pin
  queues : t.forward = [] ∧ t.urgent = [] ∧ t.normal = [] ∧ t.waitCount = 0
  jobs : t.jobs = [] ∧ t.rcu = .idle
  plans : t.plans = .empty
  tables : t.detectors = .empty ∧ t.stations = .empty ∧ t.lastSources = .empty

theorem Ramp.lane_reset (pin : Bool) (l : Fin 3) : (Ramp.reset pin).lane l = .reset := by
  simp [Ramp.reset, Ramp.lane]

theorem Ramp.head_reset (pin : Bool) (l : Fin 3) : (Ramp.reset pin).head l = none := by
  simp [Ramp.reset, Ramp.head]

theorem State.cleared_reset : State.reset.Cleared :=
  ⟨fun k => ⟨false, by simp [State.reset, State.ramp]⟩, ⟨rfl, rfl, rfl, rfl⟩, ⟨rfl, rfl⟩, rfl, ⟨rfl, rfl, rfl⟩⟩

theorem State.cleared_hardReset {s t : State} (h : t = { State.reset with
      pending := s.pending, freeCount := s.freeCount, ownAddress := t.ownAddress, linkUp := t.linkUp,
      txHold := t.txHold, ramps := s.ramps.map (fun r => Ramp.reset r.holdInput) }) : t.Cleared := by
  rw [h]
  exact ⟨fun k => ⟨(s.ramp k).holdInput, by simp [State.ramp]⟩, ⟨rfl, rfl, rfl, rfl⟩, ⟨rfl, rfl⟩, rfl, ⟨rfl, rfl, rfl⟩⟩

/-- A ramp after a reset meets every invariant of ramps. -/
theorem Ramp.reset_sound (pin : Bool) : (Ramp.reset pin).oneWindow ∧ (Ramp.reset pin).greensServed ∧
    (Ramp.reset pin).quiet ∧ (Ramp.reset pin).holdsAgree ∧ (Ramp.reset pin).stackBounded ∧
    (∀ plans, (Ramp.reset pin).plansHeld plans) ∧ (Ramp.reset pin).headsKept ∧ (Ramp.reset pin).periodsSound := by
  have off : ∀ l, ((Ramp.reset pin).lane l).cycle = .off := fun l => by rw [Ramp.lane_reset]; rfl
  refine ⟨fun l m hl _ => ?_, fun l hl => ?_, ⟨fun _ => ⟨rfl, rfl, rfl, rfl, off⟩, fun _ => ⟨rfl, rfl, rfl⟩⟩, rfl,
    ⟨by simp [Ramp.reset], by simp [Ramp.reset, Config.stackDepth], by simp [Ramp.reset, Config.planRecords]⟩,
    fun _ => ⟨fun h => absurd rfl h, by simp [Ramp.reset]⟩, fun l => ?_, ⟨?_, by simp [Ramp.reset]⟩⟩
  · rw [off] at hl
    cases hl
  · rw [off] at hl
    cases hl
  · rw [Ramp.head_reset]
    rfl
  · simp [Ramp.reset, Clock.holds, Clock.reset]

/-- Every invariant holds of a state that a hard reset left. -/
theorem State.Cleared.sound {t : State} (h : t.Cleared) :
    t.queuesBounded ∧ t.oneJobEach ∧ t.stacksBounded ∧ t.plansHeld ∧ t.oneGreenWindow ∧ t.greensServed ∧ t.quiet ∧
    t.holdsAgree ∧ t.detectorsKept ∧ t.headsKept ∧ t.headsDistinct ∧ t.headsInStep ∧ t.periodsSound := by
  obtain ⟨hramps, ⟨hf, hu, hn, hw⟩, ⟨hj, hrcu⟩, hplans, ⟨hd, hs, hl⟩⟩ := h
  have ramps : ∀ {P : Ramp → Prop}, (∀ pin, P (.reset pin)) → ∀ k, P (t.ramp k) := by
    intro P hP k
    obtain ⟨pin, hk⟩ := hramps k
    rw [hk]
    exact hP pin
  refine ⟨?_, ?_, ⟨?_, ramps fun pin => (Ramp.reset_sound pin).2.2.2.2.1⟩,
    ramps (P := Ramp.plansHeld t.plans) fun pin => (Ramp.reset_sound pin).2.2.2.2.2.1 _,
    ramps fun pin => (Ramp.reset_sound pin).1, ramps fun pin => (Ramp.reset_sound pin).2.1,
    ramps fun pin => (Ramp.reset_sound pin).2.2.1, ramps fun pin => (Ramp.reset_sound pin).2.2.2.1, ?_,
    ramps fun pin => (Ramp.reset_sound pin).2.2.2.2.2.2.1, ?_, ?_, ?_⟩
  · simp [State.queuesBounded, hf, hu, hn, hw]
  · simp [State.oneJobEach, hj]
  · rw [hplans]
    exact Table.wf_empty _
  · have none : ∀ i, t.detector i = none := fun i => by rw [State.detector, hd]; rfl
    refine ⟨by rw [hd]; exact Table.wf_empty _, by rw [hs]; exact Table.wf_empty _, by rw [hs]; exact Nat.zero_le _,
      fun i d h => ?_, fun a => ?_, by rw [hl]; exact Table.wf_empty _, fun i h => ?_⟩
    · rw [none] at h
      cases h
    · simp [hs, none]
    · rw [hl] at h
      cases h
  · have none : ∀ k, (t.ramp k).config = none := ramps (P := fun r => r.config = none) fun _ => rfl
    simp [State.headsDistinct, State.namedHeads, none, allRamps]
  · intro k l h hh
    rw [ramps (P := fun r => r.head l = none) (fun pin => Ramp.head_reset pin l)] at hh
    cases hh
  · rw [State.periodsSound_iff]
    exact ⟨by simp [hplans], by simp [hrcu], ramps fun pin => (Ramp.reset_sound pin).2.2.2.2.2.2.2⟩

/-! ## Moves -/

section Moves
variable {running : Plan → Prop} {u : HeadUse} {s t : State}

/-- What every move of a ramp keeps, the moves of an event keep. -/
theorem State.Moves.keepsRamp {P : Ramp → Prop} (h : s.Moves running u t)
    (hP : ∀ r r', RampMove s.plans running u r r' → P r → P r') {k : Fin 4} (hs : P (s.ramp k)) : P (t.ramp k) := by
  have chain : ∀ r, ReflTransGen (RampMove s.plans running u) (s.ramp k) r → P r := by
    intro r hr
    induction hr with
    | refl => exact hs
    | tail _ hm ih => exact hP _ _ hm ih
  exact chain _ (h.ramps k)

theorem State.Moves.keeps {P : Ramp → Prop} (h : s.Moves running u t)
    (hP : ∀ r r', RampMove s.plans running u r r' → P r → P r') (hs : ∀ k, P (s.ramp k)) (k : Fin 4) : P (t.ramp k) :=
  h.keepsRamp hP (hs k)

/-- A written run moves ramps as the parts of an event do. -/
theorem State.Writes.cases_moves (h : s.Writes t) :
    s.Moves running u t ∨ t.Cleared ∨ t = s.ringCleared ∨
      (∃ n p, n < Config.planRecords ∧ p.sound ∧ t = { s with plans := s.plans.insert n p }) ∨
      (∃ k rec, (s.ramp k).state = .dark ∧ s.configFault k rec = none ∧
        t = s.updRamp k (Ramp.configured s.site (configOf rec))) := by
  cases h with
  | nothing => exact .inl (.refl s)
  | hardReset h => exact .inr (.inl (State.cleared_hardReset h))
  | ringCleared => exact .inr (.inr (.inl rfl))
  | plan hn hp => exact .inr (.inr (.inr (.inl ⟨_, _, hn, hp, rfl⟩)))
  | config hd hf => exact .inr (.inr (.inr (.inr ⟨_, _, hd, hf, rfl⟩)))
  | detectors which _ _ _ => exact .inl (s.runStored_moves _ _ which)

theorem State.ramp_ringCleared (k : Fin 4) : s.ringCleared.ramp k = (s.ramp k).ringReset s.site := by
  simp [State.ringCleared, State.ramp]

/-- An invariant of ramps is kept by an event: by the moves, by the resets, and by a configuration write in DARK. -/
theorem State.Event.keepsRamps {P : Ramp → Prop} (h : s.Event running t)
    (hmove : ∀ plans r r', RampMove plans running .tells r r' → P r → P r') (hreset : ∀ pin, P (.reset pin))
    (hring : ∀ site r, P r → P (r.ringReset site))
    (hconfig : ∀ site c r, r.state = .dark → P r → P (r.configured site c)) (hs : ∀ k, P (s.ramp k)) (k : Fin 4) :
    P (t.ramp k) := by
  obtain ⟨s0, s1, h0, hw, h1⟩ := h
  have before := h0.moves.keeps (hmove _) hs
  refine h1.moves.keeps (hmove _) (fun j => ?_) k
  rcases hw.cases_moves with hm | hc | rfl | ⟨n, p, -, -, rfl⟩ | ⟨i, rec, hd, -, rfl⟩
  · exact hm.keeps (hmove _) before j
  · obtain ⟨pin, hj⟩ := hc.ramps j
    rw [hj]
    exact hreset pin
  · rw [State.ramp_ringCleared]
    exact hring _ _ (before j)
  · exact before j
  · rw [State.ramp_updRamp]
    split
    · subst j
      exact hconfig _ _ _ hd (before _)
    · exact before j

/-- A step is the event of one command, whatever waits behind it, or nothing. -/
theorem step_cases (h : step s = .next t) :
    t = s ∨ ∃ pending, ({ s with pending := pending } : State).Event s.running t := by
  have ran : ∀ (c : Instr) (p : List Instr), exec c { s with pending := p } = .next t →
      ∃ pending, ({ s with pending := pending } : State).Event s.running t := by
    intro c p hc
    obtain ⟨t', ht, he⟩ := exec_event c { s with pending := p }
    rw [ht, Host.Outcome.next.injEq] at hc
    exact ⟨p, hc ▸ he⟩
  simp only [step] at h
  split at h
  · exact .inr (ran _ _ h)
  · split at h
    · exact .inr (ran _ s.pending h)
    · rw [Host.Outcome.next.injEq] at h
      exact .inl h.symm

/-- An invariant that does not speak of the waiting commands is kept by a step if events keep it. -/
theorem step_keeps {I : State → Prop} (hp : ∀ s p, I s → I { s with pending := p })
    (he : ∀ s t : State, s.Event s.running t → I s → I t) (h : step s = .next t) (hs : I s) : I t := by
  rcases step_cases h with rfl | ⟨p, h⟩
  · exact hs
  · exact he _ _ h (hp s p hs)

end Moves

/-! ## The resets and a configuration write of one ramp -/

section Writes
variable (site : Site) (c : RampConfig) (r : Ramp)

theorem Ramp.lane_ringReset (l : Fin 3) : (r.ringReset site).lane l = .reset := Ramp.lane_reset r.holdInput l

theorem Ramp.cycle_configured (l : Fin 3) : ((r.configured site c).lane l).cycle = (r.lane l).cycle := by
  simp only [Ramp.configured, Ramp.freshHeads, Ramp.lane, Three.get_tabulate]
  split <;> rfl

theorem Ramp.headsKept_freshHeads : (r.freshHeads site).headsKept := by
  intro l
  have : (r.freshHeads site).used l = r.used l := Ramp.used_congr rfl l
  rw [this]
  simp only [Ramp.freshHeads, Ramp.head, Three.get_tabulate]
  cases r.used l <;> rfl

theorem Ramp.oneWindow_ringReset : (r.ringReset site).oneWindow := by
  intro l m hl _
  rw [Ramp.lane_ringReset] at hl
  cases hl

theorem Ramp.oneWindow_configured (h : r.oneWindow) : (r.configured site c).oneWindow :=
  Ramp.oneWindow_of_busy h fun l => by rw [Ramp.cycle_configured]; exact id

theorem Ramp.greensServed_ringReset : (r.ringReset site).greensServed := by
  intro l hl
  rw [Ramp.lane_ringReset] at hl
  cases hl

theorem Ramp.greensServed_configured (hd : r.state = .dark) (h : r.greensServed) : (r.configured site c).greensServed := by
  intro l hl
  rw [Ramp.cycle_configured] at hl
  obtain ⟨hm, -⟩ := h l hl
  rw [hd] at hm
  cases hm

theorem Ramp.quiet_ringReset : (r.ringReset site).quiet :=
  ⟨fun _ => ⟨rfl, rfl, rfl, rfl, fun l => by rw [Ramp.lane_ringReset]; rfl⟩, fun _ => ⟨rfl, rfl, rfl⟩⟩

theorem Ramp.quiet_configured (h : r.quiet) : (r.configured site c).quiet := by
  obtain ⟨h1, h2⟩ := h
  refine ⟨fun hm => ?_, h2⟩
  obtain ⟨a, b, d, e, off⟩ := h1 hm
  exact ⟨a, b, d, e, fun l => by rw [Ramp.cycle_configured]; exact off l⟩

theorem Ramp.headD_mem_or {l : List Nat} : l.headD 0 ∈ l ∨ l.headD 0 = 0 := by
  cases l <;> simp

theorem Ramp.stackBounded_ringReset (h : r.stackBounded) : (r.ringReset site).stackBounded := by
  refine ⟨le_refl 1, show 1 ≤ 4 by omega, fun p hp => ?_⟩
  have hp : p = r.stack.headD 0 := List.mem_singleton.mp hp
  rcases Ramp.headD_mem_or (l := r.stack) with hm | hz
  · exact hp ▸ h.2.2 _ hm
  · rw [hp, hz]
    decide

theorem Ramp.plansHeld_ringReset (plans : Table Plan) : (r.ringReset site).plansHeld plans :=
  ⟨fun h => absurd rfl h, by simp [Ramp.ringReset, Ramp.freshHeads]⟩

theorem Ramp.periodsSound_ringReset : (r.ringReset site).periodsSound := (Ramp.reset_sound r.holdInput).2.2.2.2.2.2.2

end Writes

/-- A written plan stays valid when another is written (R38). -/
theorem Table.isSome_insert {α : Type} {t : Table α} {i j : Nat} {x : α} (h : (t.get j).isSome = true) :
    ((t.insert i x).get j).isSome = true := by
  rw [Table.get_insert]
  split
  · rfl
  · exact h

theorem Ramp.plansHeld_insert {plans : Table Plan} {n : Nat} {p : Plan} {r : Ramp} (h : r.plansHeld plans) :
    r.plansHeld (plans.insert n p) :=
  ⟨fun hd => Table.isSome_insert (h.1 hd), fun m hm => Table.isSome_insert (h.2 m hm)⟩

/-! ## Events -/

section Events
variable {running : Plan → Prop} {s t : State}

theorem State.Event.keeps_queuesBounded (h : s.Event running t) (hs : s.queuesBounded) : t.queuesBounded := by
  obtain ⟨s0, s1, h0, hw, h1⟩ := h
  refine h1.moves.queues ?_
  rcases hw.cases_moves (running := running) (u := .tells) with hm | hc | rfl | ⟨n, p, -, -, rfl⟩ | ⟨i, rec, hd, -, rfl⟩
  · exact hm.queues (h0.moves.queues hs)
  · exact hc.sound.1
  · exact ⟨Nat.zero_le _, Nat.zero_le _, Nat.zero_le _, Nat.zero_le _⟩
  · exact h0.moves.queues hs
  · exact h0.moves.queues hs

theorem State.Event.keeps_oneJobEach (h : s.Event running t) (hs : s.oneJobEach) : t.oneJobEach := by
  obtain ⟨s0, s1, h0, hw, h1⟩ := h
  refine h1.moves.jobs ?_
  rcases hw.cases_moves (running := running) (u := .tells) with hm | hc | rfl | ⟨n, p, -, -, rfl⟩ | ⟨i, rec, hd, -, rfl⟩
  · exact hm.jobs (h0.moves.jobs hs)
  · exact hc.sound.2.1
  · exact List.nodup_nil
  · exact h0.moves.jobs hs
  · exact h0.moves.jobs hs

theorem State.Moves.keeps_stacksBounded (h : s.Moves running .tells t) (hs : s.stacksBounded) : t.stacksBounded := by
  obtain ⟨hp, hr⟩ := hs
  refine ⟨h.plans ▸ hp, h.keeps (P := Ramp.stackBounded) (fun r r' hm => hm.keeps_stackBounded fun n hn => ?_) hr⟩
  obtain ⟨p, hn⟩ := Option.isSome_iff_exists.mp hn
  exact Table.key_lt hp (by rw [hn]; rfl)

theorem State.Event.keeps_stacksBounded (h : s.Event running t) (hs : s.stacksBounded) : t.stacksBounded := by
  obtain ⟨s0, s1, h0, hw, h1⟩ := h
  have hb := h0.moves.keeps_stacksBounded hs
  refine h1.moves.keeps_stacksBounded ?_
  rcases hw.cases_moves (running := running) (u := .tells) with hm | hc | rfl | ⟨n, p, hn, -, rfl⟩ | ⟨i, rec, hd, -, rfl⟩
  · exact hm.keeps_stacksBounded hb
  · exact hc.sound.2.2.1
  · exact ⟨hb.1, fun k => by rw [State.ramp_ringCleared]; exact Ramp.stackBounded_ringReset _ _ (hb.2 k)⟩
  · exact ⟨Table.wf_insert _ hb.1 hn, hb.2⟩
  · refine ⟨hb.1, fun k => ?_⟩
    rw [State.ramp_updRamp]
    split
    · exact hb.2 _
    · exact hb.2 k

theorem State.Moves.keeps_plansHeld (h : s.Moves running .tells t) (hs : s.plansHeld) : t.plansHeld := by
  have := h.keeps (P := Ramp.plansHeld s.plans) (fun r r' hm => hm.keeps_plansHeld) hs
  intro k
  rw [State.topPlan, h.plans]
  exact this k

theorem State.Event.keeps_plansHeld (h : s.Event running t) (hs : s.plansHeld) : t.plansHeld := by
  obtain ⟨s0, s1, h0, hw, h1⟩ := h
  have hb := h0.moves.keeps_plansHeld hs
  refine h1.moves.keeps_plansHeld ?_
  rcases hw.cases_moves (running := running) (u := .tells) with hm | hc | rfl | ⟨n, p, hn, -, rfl⟩ | ⟨i, rec, hd, -, rfl⟩
  · exact hm.keeps_plansHeld hb
  · exact hc.sound.2.2.2.1
  · intro k
    rw [State.topPlan, State.ramp_ringCleared]
    exact Ramp.plansHeld_ringReset _ _ _
  · exact fun k => Ramp.plansHeld_insert (hb k)
  · intro k
    rw [State.topPlan, State.ramp_updRamp]
    split
    · exact hb _
    · exact hb k

theorem State.Event.keeps_oneGreenWindow (h : s.Event running t) (hs : s.oneGreenWindow) : t.oneGreenWindow :=
  h.keepsRamps (P := Ramp.oneWindow) (fun _ _ _ hm => hm.keeps_oneWindow) (fun pin => (Ramp.reset_sound pin).1)
    (fun _ _ _ => Ramp.oneWindow_ringReset _ _) (fun _ _ _ _ => Ramp.oneWindow_configured _ _ _) hs

theorem State.Event.keeps_greensServed (h : s.Event running t) (hs : s.greensServed) : t.greensServed :=
  h.keepsRamps (P := Ramp.greensServed) (fun _ _ _ hm => hm.keeps_greensServed) (fun pin => (Ramp.reset_sound pin).2.1)
    (fun _ _ _ => Ramp.greensServed_ringReset _ _) (fun _ _ _ hd => Ramp.greensServed_configured _ _ _ hd) hs

theorem State.Event.keeps_quiet (h : s.Event running t) (hs : s.quiet) : t.quiet :=
  h.keepsRamps (P := Ramp.quiet) (fun _ _ _ hm => hm.keeps_quiet) (fun pin => (Ramp.reset_sound pin).2.2.1)
    (fun _ _ _ => Ramp.quiet_ringReset _ _) (fun _ _ _ _ => Ramp.quiet_configured _ _ _) hs

theorem State.Event.keeps_holdsAgree (h : s.Event running t) (hs : s.holdsAgree) : t.holdsAgree :=
  h.keepsRamps (P := Ramp.holdsAgree) (fun _ _ _ hm => hm.keeps_holdsAgree) (fun pin => (Ramp.reset_sound pin).2.2.2.1)
    (fun _ _ _ => rfl) (fun _ _ _ _ h => h) hs

theorem State.Event.keeps_headsKept (h : s.Event running t) (hs : s.headsKept) : t.headsKept :=
  h.keepsRamps (P := Ramp.headsKept) (fun _ _ _ hm => hm.keeps_headsKept)
    (fun pin => (Ramp.reset_sound pin).2.2.2.2.2.2.1) (fun _ _ _ => Ramp.headsKept_freshHeads _ _)
    (fun _ _ _ _ _ => Ramp.headsKept_freshHeads _ _) hs

theorem State.Event.keeps_detectorsKept (h : s.Event running t) (hs : s.detectorsKept) : t.detectorsKept := by
  obtain ⟨s0, s1, h0, hw, h1⟩ := h
  refine h1.tables ?_
  have hb : s0.detectorsKept := h0.tables hs
  cases hw with
  | nothing => exact hb
  | hardReset h => exact (State.cleared_hardReset h).sound.2.2.2.2.2.2.2.2.1
  | ringCleared =>
    refine State.KeepsTables.of_map (f := fun _ d => .fresh d.config) (fun _ _ _ _ => rfl) (fun _ _ _ _ => le_refl _) rfl
      rfl (fun h => ⟨Table.wf_map _ h, Table.rows_length_map _ _, fun a => ?_⟩) hb
    simp [State.ringCleared]
  | plan _ _ => exact hb
  | config _ _ => exact hb
  | detectors which hrun hvalid hlen => exact State.runStored_kept which hb hrun hvalid hlen

theorem State.Moves.keeps_periodsSound (h : s.Moves running .tells t) (hrunning : ∀ p, running p → p.sound)
    (hs : s.periodsSound) : t.periodsSound := by
  rw [State.periodsSound_iff] at hs ⊢
  obtain ⟨hp, hx, hr⟩ := hs
  refine ⟨h.plans ▸ hp, fun x hb => (h.rcu x hb).elim (hx x) (fun ⟨n, hn⟩ => hp n _ hn),
    h.keeps (fun r r' hm => hm.keeps_periodsSound hp hrunning) hr⟩

theorem State.Event.keeps_periodsSound (h : s.Event s.running t) (hs : s.periodsSound) : t.periodsSound := by
  have hrunning : ∀ p, s.running p → p.sound := by
    rintro p ⟨x, hx, rfl⟩
    exact hs.2.1 x hx
  obtain ⟨s0, s1, h0, hw, h1⟩ := h
  have hb := h0.moves.keeps_periodsSound hrunning hs
  refine h1.moves.keeps_periodsSound hrunning ?_
  rcases hw.cases_moves (running := s.running) (u := .tells) with
    hm | hc | rfl | ⟨n, p, hn, hsound, rfl⟩ | ⟨i, rec, hd, -, rfl⟩
  · exact hm.keeps_periodsSound hrunning hb
  · exact hc.sound.2.2.2.2.2.2.2.2.2.2.2.2
  all_goals
    rw [State.periodsSound_iff] at hb ⊢
    obtain ⟨hp, hx, hr⟩ := hb
  · refine ⟨hp, fun x h => absurd h (by simp [State.ringCleared]), fun k => ?_⟩
    rw [State.ramp_ringCleared]
    exact Ramp.periodsSound_ringReset _ _
  · refine ⟨fun m q hq => ?_, hx, hr⟩
    rw [show ({ s0 with plans := s0.plans.insert n p } : State).plans = s0.plans.insert n p from rfl,
      Table.get_insert] at hq
    split at hq
    · exact Option.some.inj hq ▸ hsound
    · exact hp m q hq
  · refine ⟨hp, hx, fun k => ?_⟩
    rw [State.ramp_updRamp]
    split
    · exact hr _
    · exact hr k

end Events

/-! ## The statements on steps -/

/-- Settles O54: every move of a ramp keeps the bounds of its stack and a valid plan on top, every offer and start those
of the queues. -/
theorem stepsKeepTheBounds : Obligations.StepsKeepTheBounds := by
  intro s t h
  exact ⟨step_keeps (fun _ _ => id) (fun _ _ h => h.keeps_queuesBounded) h,
    step_keeps (fun _ _ => id) (fun _ _ h => h.keeps_oneJobEach) h,
    step_keeps (fun _ _ => id) (fun _ _ h => h.keeps_stacksBounded) h,
    step_keeps (fun _ _ => id) (fun _ _ h => h.keeps_plansHeld) h⟩

/-- Settles O55: a pick alone makes a lane GREEN, and it finds every lane out of GREEN and AMBER. -/
theorem stepsKeepOneGreenWindow : Obligations.StepsKeepOneGreenWindow := by
  intro s t h
  exact ⟨step_keeps (fun _ _ => id) (fun _ _ h => h.keeps_oneGreenWindow) h,
    step_keeps (fun _ _ => id) (fun _ _ h => h.keeps_greensServed) h⟩

/-- Settles O56, move by move. -/
theorem stepsKeepRampsConsistent : Obligations.StepsKeepRampsConsistent := by
  intro s t h
  exact ⟨step_keeps (fun _ _ => id) (fun _ _ h => h.keeps_quiet) h,
    step_keeps (fun _ _ => id) (fun _ _ h => h.keeps_holdsAgree) h⟩

/-- Settles O57: all but a DETECTOR WRITE and the resets keep the entries' configuration, and these set the tables up
in step. -/
theorem stepsKeepTheDetectorTable : Obligations.StepsKeepTheDetectorTable := by
  intro s t hs h
  exact step_keeps (fun _ _ => id) (fun _ _ h => h.keeps_detectorsKept) h hs

/-- Settles O59: every rate is clamped to a sound plan's range, and every period converted from one or read from the plan. -/
theorem stepsKeepThePeriods : Obligations.StepsKeepThePeriods := by
  intro s t hs h
  exact step_keeps (fun _ _ => id) (fun _ _ h => h.keeps_periodsSound) h hs

/-- Settles O60. -/
theorem resetIsSound : Obligations.ResetIsSound := by
  intro straps signal s t h
  refine State.Cleared.sound ?_
  rcases h with rfl | h
  · exact State.cleared_reset
  · have h : execHardReset straps signal s = .next t := h
    rw [execHardReset, Host.Outcome.next.injEq] at h
    exact State.cleared_hardReset (s := s) (by rw [← h])

end Sys2Proof.Machine
end

section
/-! Every command ends with the starts that it brought due (R70, R71, R162, R163), and takes none of the commands behind it
(O3); the refutation of O4. -/

namespace Sys2Proof.Machine

/-- Every command but a hard reset ends with the starts that are due. -/
theorem exec_withStarts (c : Instr) (s : State) (hc : ∀ straps signal, c ≠ .hardReset straps signal) :
    ∃ t : State, exec c s = .next t.withStarts := by
  cases c with
  | hardReset straps signal => exact absurd rfl (hc straps signal)
  | _ => exact ⟨_, rfl⟩

theorem State.Writes.pending_freeCount {s t : State} (h : s.Writes t) : t.pending = s.pending ∧ s.freeCount ≤ t.freeCount := by
  cases h with
  | nothing => exact ⟨rfl, le_refl _⟩
  | hardReset h =>
    rw [h]
    exact ⟨rfl, le_refl _⟩
  | ringCleared => exact ⟨rfl, le_refl _⟩
  | plan _ _ => exact ⟨rfl, le_refl _⟩
  | config _ _ => exact ⟨rfl, le_refl _⟩
  | @detectors i run which _ _ _ =>
    have h := s.runStored_moves (running := fun _ => True) (u := .keeps) i run which
    exact ⟨h.pending, h.freeCount⟩

theorem State.Event.pending_freeCount {running : Plan → Prop} {s t : State} (h : s.Event running t) :
    t.pending = s.pending ∧ s.freeCount ≤ t.freeCount := by
  obtain ⟨s0, s1, h0, hw, h1⟩ := h
  obtain ⟨hp, hf⟩ := hw.pending_freeCount
  exact ⟨h1.moves.pending.trans (hp.trans h0.moves.pending), h0.moves.freeCount.trans (hf.trans h1.moves.freeCount)⟩

/-- R162, R163: no frame may start where the line is busy, transmission is held or no frame waits. -/
theorem State.mayStart_eq_false {s : State} : s.mayStart = false ↔
    (s.line = none → s.txHold = true ∨ (s.forward = [] ∧ s.urgent = [] ∧ s.normal = [])) := by
  cases hl : s.line <;> cases ht : s.txHold <;> simp [State.mayStart, State.queued, hl, ht, and_assoc]

/-- Settles O3: a command ends with the starts that are due, after which none is. -/
theorem noCommandStops : Obligations.NoCommandStops := by
  intro c s
  obtain ⟨t, ht, he⟩ := exec_event c s
  obtain ⟨hp, hf⟩ := he.pending_freeCount
  refine ⟨t, ht, hp, hf, ?_⟩
  by_cases hc : ∀ straps signal, c ≠ .hardReset straps signal
  case pos =>
    obtain ⟨x, hx⟩ := exec_withStarts c s hc
    rw [hx, Host.Outcome.next.injEq] at ht
    subst t
    obtain ⟨hj, hf⟩ := x.withStarts_rests
    exact ⟨hj, State.mayStart_eq_false.mp hf⟩
  case neg =>
    push Not at hc
    obtain ⟨straps, signal, rfl⟩ := hc
    have ht : execHardReset straps signal s = .next t := ht
    rw [execHardReset, Host.Outcome.next.injEq] at ht
    subst t
    exact ⟨fun _ => rfl, fun _ => .inr ⟨rfl, rfl, rfl⟩⟩

/-! ## The settings -/

/-- Two rows of entry 0, which no table in canonical form has: the first is the one that a read finds, and it is of ramp 1;
the second, of ramp 0, names another station. -/
def twoRowTable : Table Detector :=
  ⟨[(0, .fresh ⟨1, 0, .mainDown, 1, none, 64, false⟩), (0, .fresh ⟨2, 0, .mainDown, 0, none, 64, false⟩)]⟩

/-- A state with that table in which the interval timer of ramp 0 runs. -/
def twoRowState : State :=
  { State.reset with
    detectors := twoRowTable
    ramps := State.reset.ramps.set 0 { Ramp.reset false with intervalTimer := some 30 } }

/-- Refutes O4: the statement speaks of every state, also of one whose detector table is not in canonical form. In
`twoRowState` the interval close of ramp 0 judges the second row of entry 0 and stores what it finds under the key 0, so
that entry 0 reads with the second row's configuration. -/
theorem not_settingsChangeByTheirWritersAlone : ¬ Obligations.SettingsChangeByTheirWritersAlone := by
  intro h
  have hc : exec (.intervalClose 0) twoRowState = .next (twoRowState.intervalClosed 0 30).withStarts := by rfl
  obtain ⟨-, -, -, -, -, -, -, -, hkept⟩ := (h _ _ _ hc).2.2 (fun _ _ => nofun)
  have h0 := hkept (fun _ _ => nofun) 0
  revert h0
  decide

end Sys2Proof.Machine
end

section
/-! The head commands at the end of an event (R146, R147): the offers, made one after the other, are those that
`State.told` lists (O51). -/

namespace Sys2Proof.Machine

/-! ## What a command to a head leaves -/

theorem Ramp.target_congr {r r' : Ramp} (hs : r'.state = r.state) (hc : r'.config = r.config) (hl : r'.lanes = r.lanes)
    {l : Fin 3} (hd : r'.disabled l = r.disabled l) : r'.target l = r.target l := by
  simp only [Ramp.target, hs, hc, hd, Ramp.lane_of_lanes hl]

theorem Ramp.headKey_congr {r r' : Ramp} (hs : r'.state = r.state) (hl : r'.lanes = r.lanes)
    {l : Fin 3} (hd : r'.disabled l = r.disabled l) : r'.headKey l = r.headKey l := by
  simp only [Ramp.headKey, hs, hd, Ramp.lane_of_lanes hl]

/-- R147: the head record once a command with another aspect than the last was taken. -/
def Head.toldAspect (site : Site) (a : Aspect) (h : Head) : Head :=
  { h with sent := some a, refresh := site.refresh, confirm := some site.confirm }

theorem Head.queued_of_ne {site : Site} {a : Aspect} {h : Head} (hne : h.sent ≠ some a) :
    Head.queued site a h = h.toldAspect site a := by
  simp [Head.queued, Head.toldAspect, hne]

/-- R147: the heads of the list, one after the other, told their targets, as far as the urgent insert queue has room. -/
def State.toldHeads (due : List (Fin 4 × Fin 3)) (s : State) : State :=
  let room := 8 - s.urgent.length
  { s with
    urgent := s.urgent ++ (due.take room).map s.headCommand
    urgentDropped := s.urgentDropped || decide (room < due.length)
    ramps := Four.tabulate (fun k =>
      { s.ramp k with heads := Three.tabulate (fun l => ((s.ramp k).head l).map (fun h =>
        if (k, l) ∈ due.take room then h.toldAspect s.site ((s.ramp k).target l) else h)) }) }

section Told
variable (s0 s : State) (due : List (Fin 4 × Fin 3)) (fresh : List (Fin 4 × Fin 3)) (k : Fin 4) (l : Fin 3)

theorem State.told_eq_toldHeads : s0.told s fresh = s.toldHeads (s0.headsDue s fresh) := rfl

theorem State.ramp_toldHeads : (s.toldHeads due).ramp k =
    { s.ramp k with heads := Three.tabulate (fun l => ((s.ramp k).head l).map (fun h =>
      if (k, l) ∈ due.take (8 - s.urgent.length) then h.toldAspect s.site ((s.ramp k).target l) else h)) } := by
  simp [State.toldHeads, State.ramp]

theorem State.head_toldHeads : ((s.toldHeads due).ramp k).head l = ((s.ramp k).head l).map (fun h =>
    if (k, l) ∈ due.take (8 - s.urgent.length) then h.toldAspect s.site ((s.ramp k).target l) else h) := by
  rw [State.ramp_toldHeads]
  simp [Ramp.head]

theorem State.disabled_toldHeads : ((s.toldHeads due).ramp k).disabled l = (s.ramp k).disabled l := by
  rw [Ramp.disabled_eq, Ramp.disabled_eq, State.head_toldHeads, Option.map_map]
  congr 2
  refine Option.map_congr fun h _ => ?_
  simp only [Function.comp_apply]
  split <;> rfl

theorem State.target_toldHeads : ((s.toldHeads due).ramp k).target l = (s.ramp k).target l :=
  Ramp.target_congr (by rw [State.ramp_toldHeads]) (by rw [State.ramp_toldHeads]) (by rw [State.ramp_toldHeads])
    (State.disabled_toldHeads s due k l)

theorem State.headKey_toldHeads : ((s.toldHeads due).ramp k).headKey l = (s.ramp k).headKey l :=
  Ramp.headKey_congr (by rw [State.ramp_toldHeads]) (by rw [State.ramp_toldHeads]) (State.disabled_toldHeads s due k l)

theorem State.laneConfig_toldHeads : ((s.toldHeads due).ramp k).laneConfig l = (s.ramp k).laneConfig l := by
  rw [State.ramp_toldHeads]
  rfl

end Told

/-! ## The offers of an event -/

variable {s0 s : State} {fresh due : List (Fin 4 × Fin 3)}

theorem State.toldHeads_nil : s.toldHeads [] = s := by
  have h : Four.tabulate (fun k => { s.ramp k with
      heads := Three.tabulate (fun l => ((s.ramp k).head l).map (fun h => h)) }) = s.ramps := by
    apply Four.ext_get
    intro k
    simp only [Four.get_tabulate, Option.map_id']
    exact congrArg (fun x => { s.ramp k with heads := x }) (Three.ext_get (fun m => Three.get_tabulate _ m))
  simp only [State.toldHeads, List.take_nil, List.map_nil, List.append_nil, List.not_mem_nil, if_false,
    List.length_nil, Nat.not_lt_zero, decide_false, Bool.or_false, h]

/-- One more head with another target than the aspect last sent is offered its command. -/
theorem State.offerHead_toldHeads {x : Fin 4 × Fin 3} {h : Head} {c : LaneConfig} (hx : x ∉ due)
    (hh : (s.ramp x.1).head x.2 = some h) (hc : (s.ramp x.1).laneConfig x.2 = some c)
    (hne : h.sent ≠ some ((s.ramp x.1).target x.2)) :
    (s.toldHeads due).offerHead x.1 x.2 = s.toldHeads (due ++ [x]) := by
  obtain ⟨k, l⟩ := x
  have hh' : ((s.toldHeads due).ramp k).head l = some h := by
    rw [State.head_toldHeads, hh, Option.map_some, if_neg (fun hm => hx (List.mem_of_mem_take hm))]
  rw [State.offerHead_spec _ _ _ h c hh' (by rw [State.laneConfig_toldHeads, hc]), State.target_toldHeads]
  have hroom : (s.toldHeads due).urgentRoom = decide (due.length < 8 - s.urgent.length) := by
    simp only [State.urgentRoom, State.toldHeads, Config.urgentCapacity, List.length_append, List.length_map,
      List.length_take]
    apply decide_eq_decide.mpr
    omega
  rw [hroom]
  by_cases hr : due.length < 8 - s.urgent.length
  case neg =>
    have htake : (due ++ [(k, l)]).take (8 - s.urgent.length) = due.take (8 - s.urgent.length) :=
      List.take_append_of_le_length (not_lt.mp hr)
    have hlt : 8 - s.urgent.length < due.length + 1 := by omega
    simp [State.toldHeads, htake, hr, hlt]
  case pos =>
    have htake : (due ++ [(k, l)]).take (8 - s.urgent.length) = due ++ [(k, l)] :=
      List.take_of_length_le (by simp only [List.length_append, List.length_singleton]; omega)
    have hold : due.take (8 - s.urgent.length) = due := List.take_of_length_le (by omega)
    have hramps : (s.toldHeads due).ramps.set k (((s.toldHeads due).ramp k).updHead l
        (Head.queued s.site ((s.ramp k).target l))) = (s.toldHeads (due ++ [(k, l)])).ramps := by
      apply Four.ext_get
      intro j
      rw [Four.get_set]
      change _ = (s.toldHeads (due ++ [(k, l)])).ramp j
      rw [State.ramp_toldHeads s (due ++ [(k, l)]) j, htake]
      split
      · subst j
        rw [State.ramp_toldHeads, hold]
        refine congrArg (fun v => { s.ramp k with heads := v }) (Three.ext_get fun m => ?_)
        rw [Three.get_set, Three.get_tabulate, Three.get_tabulate]
        split
        · subst m
          simp [hh, hx, Head.queued_of_ne hne]
        · rw [Three.get_tabulate]
          simp [*]
      · change (s.toldHeads due).ramp j = _
        rw [State.ramp_toldHeads, hold]
        refine congrArg (fun v => { s.ramp j with heads := v }) (Three.ext_get fun m => ?_)
        rw [Three.get_tabulate, Three.get_tabulate]
        simp [*]
    have hcmd : s.headCommand (k, l) = s.headFrame c ((s.ramp k).target l) := by
      simp only [State.headCommand, hc]
      rfl
    have hframe : (s.toldHeads due).headFrame c ((s.ramp k).target l) = s.headFrame c ((s.ramp k).target l) := rfl
    have hsite : (s.toldHeads due).site = s.site := rfl
    have h1 : ¬ 8 - s.urgent.length < due.length := by omega
    have h2 : ¬ 8 - s.urgent.length < (due ++ [(k, l)]).length := by
      simp only [List.length_append, List.length_singleton]
      omega
    rw [if_pos (by simpa using hr), hsite, hramps, hframe]
    simp only [State.toldHeads, htake, hold, h1, h2, List.map_append, List.map_cons, List.map_nil, hcmd,
      List.append_assoc]

theorem allHeads_nodup : allHeads.Nodup := by decide

theorem mem_allHeads (x : Fin 4 × Fin 3) : x ∈ allHeads := by
  revert x
  decide

/-- A head is due if it has a record, its target was decided or its record is fresh, and the aspect last sent is another. -/
theorem headDue_iff (x : Fin 4 × Fin 3) : headDue s0 fresh s x = true ↔
    (fresh.contains x = true ∨ (s0.ramp x.1).headKey x.2 ≠ (s.ramp x.1).headKey x.2) ∧
    ∃ h, (s.ramp x.1).head x.2 = some h ∧ h.sent ≠ some ((s.ramp x.1).target x.2) := by
  simp only [headDue]
  cases (s.ramp x.1).head x.2 <;> simp

/-- A head that was not told in between stands as it did. -/
theorem headDue_toldHeads {x : Fin 4 × Fin 3} (hx : x ∉ due) :
    headDue s0 fresh (s.toldHeads due) x = headDue s0 fresh s x := by
  have hh : ((s.toldHeads due).ramp x.1).head x.2 = (s.ramp x.1).head x.2 := by
    rw [State.head_toldHeads]
    simp only [if_neg (fun hm => hx (List.mem_of_mem_take hm) : ¬ (x.1, x.2) ∈ due.take (8 - s.urgent.length)),
      Option.map_id']
  simp only [headDue, hh, State.headKey_toldHeads, State.target_toldHeads]

/-- The heads of a list that an event offers commands: those of `State.headsDue`. -/
def State.dueIn (s0 s : State) (fresh : List (Fin 4 × Fin 3)) (l : List (Fin 4 × Fin 3)) : List (Fin 4 × Fin 3) :=
  l.filter (fun x => ((s.ramp x.1).laneConfig x.2).isSome && headDue s0 fresh s x)

theorem State.headsDue_eq : s0.headsDue s fresh = s0.dueIn s fresh allHeads := by
  refine List.filter_congr fun x _ => ?_
  simp only [headDue]
  cases (s.ramp x.1).head x.2 <;> simp [Bool.and_assoc]

theorem State.foldl_offers {l : List (Fin 4 × Fin 3)} (hl : l.Nodup) :
    l.foldl (fun s x => if headDue s0 fresh s x then s.offerHead x.1 x.2 else s) s = s.toldHeads (s0.dueIn s fresh l) := by
  induction l using List.reverseRecOn with
  | nil => exact State.toldHeads_nil.symm
  | append_singleton l x ih =>
    obtain ⟨hl, -, hx⟩ := List.nodup_append.mp hl
    have hx : x ∉ s0.dueIn s fresh l := fun hm => hx x (List.mem_filter.mp hm).1 x (List.mem_singleton.mpr rfl) rfl
    rw [List.foldl_append, ih hl, List.foldl_cons, List.foldl_nil, headDue_toldHeads hx]
    have hsnoc : s0.dueIn s fresh (l ++ [x]) = s0.dueIn s fresh l ++
        (if ((s.ramp x.1).laneConfig x.2).isSome && headDue s0 fresh s x then [x] else []) := by
      simp only [State.dueIn, List.filter_append, List.filter_singleton, cond_eq_ite]
    by_cases hd : headDue s0 fresh s x = true
    case neg => simp [hsnoc, hd]
    case pos =>
      obtain ⟨-, h, hh, hne⟩ := (headDue_iff x).mp hd
      rw [if_pos hd, hsnoc]
      cases hc : (s.ramp x.1).laneConfig x.2 with
      | none =>
        rw [State.offerHead_none _ _ _ (.inr (by rw [State.laneConfig_toldHeads, hc]))]
        simp
      | some c =>
        rw [State.offerHead_toldHeads hx hh hc hne]
        simp [hd]

/-- R147: the offers at the end of an event tell the heads that are due their targets. -/
theorem State.settleHeads_eq_told : State.settleHeads s0 fresh s = s0.told s fresh := by
  rw [State.told_eq_toldHeads, State.headsDue_eq]
  exact State.foldl_offers allHeads_nodup

theorem State.settled_eq_told : State.settled s0 s = s0.told s [] := State.settleHeads_eq_told

/-! ## The statement -/

theorem Ramp.target_eq (r : Ramp) (l : Fin 3) : r.target l =
    if (r.lane l).isOpen = false ∨ r.disabled l = true then .dark
    else if r.state = .dark then (if (r.config.map (fun c => c.offGreen)) = some true then .green else .dark)
    else if r.state = .starting then .flash
    else if r.state = .clearing then .green
    else if r.state.isSuspended then (if (r.lane l).cycle.isAmber then .amber else .red)
    else if (r.lane l).cycle.isGreen then .green
    else if (r.lane l).cycle.isAmber then .amber
    else if (r.lane l).cycle = .off then .dark
    else .red := by
  by_cases ho : (r.lane l).isOpen = false ∨ r.disabled l = true
  · rw [if_pos ho]
    rcases ho with ho | ho <;> simp [Ramp.target, ho]
  · rw [if_neg ho]
    obtain ⟨h1, h2⟩ := not_or.mp ho
    rw [Bool.not_eq_false] at h1
    rw [Bool.not_eq_true] at h2
    simp only [Ramp.target, h1, h2, Bool.not_false, Bool.and_self, if_true]
    cases r.state with
    | dark => cases r.config <;> simp
    | starting => simp
    | clearing => simp
    | suspended h => cases (r.lane l).cycle <;> simp [RampState.isSuspended, LaneCycle.isAmber]
    | metering | fallback =>
      cases (r.lane l).cycle <;> simp [RampState.isSuspended, LaneCycle.isAmber, LaneCycle.isGreen]

/-- Settles O51: the offers of `settleHeads` are those that `State.told` lists. -/
theorem headsAreToldTheirTargets : Obligations.HeadsAreToldTheirTargets := by
  refine ⟨fun r l => Ramp.target_eq r l, fun s0 s => ?_, fun _ _ _ => State.settleHeads_eq_told⟩
  have hdue : allHeads.filter (fun x =>
      ((s.ramp x.1).laneConfig x.2).isSome && decide ((s0.ramp x.1).headKey x.2 ≠ (s.ramp x.1).headKey x.2) &&
      (((s.ramp x.1).head x.2).map (fun h => decide (h.sent ≠ some ((s.ramp x.1).target x.2)))).getD false) =
      s0.headsDue s [] := by
    simp [State.headsDue]
  intro t due room
  have ht : t = s.toldHeads due := by
    rw [show due = s0.headsDue s [] from hdue]
    exact State.settled_eq_told
  rw [ht]
  refine ⟨rfl, rfl, fun k l => State.head_toldHeads s due k l, fun k => ?_, rfl⟩
  rw [State.ramp_toldHeads]

end Sys2Proof.Machine
end

section
/-! Heads in step with their targets (R146, R147): an event moves targets and makes records not valid, and tells at its end
the heads whose target was decided or whose record became not valid; what follows it moves neither. -/

namespace Sys2Proof.Machine

/-! ## What a target is decided from -/

theorem Ramp.target_of_headKey {r r' : Ramp} {l : Fin 3} (h : r'.headKey l = r.headKey l) (hc : r'.config = r.config) :
    r'.target l = r.target l := by
  simp only [Ramp.headKey, Prod.mk.injEq] at h
  obtain ⟨hs, hk, ho, hd⟩ := h
  simp only [Ramp.target, hs, hc, ho, hd]
  cases h1 : (r'.lane l).cycle <;> cases h2 : (r.lane l).cycle <;> simp_all [LaneCycle.kind]

/-- The aspect last sent to a head, none also where the lane has no head. -/
def Ramp.sentTo (r : Ramp) (l : Fin 3) : Option Aspect := (r.head l).bind (fun h => h.sent)

/-- Between `s` and `w` the aspects last sent, but for the heads of `fresh`, and their ramps' records stay. -/
structure State.SentKept (fresh : List (Fin 4 × Fin 3)) (s w : State) : Prop where
  kept : s.headsKept → w.headsKept
  config : ∀ k l, (k, l) ∉ fresh → (w.ramp k).config = (s.ramp k).config
  sent : ∀ k l, (k, l) ∉ fresh → (w.ramp k).sentTo l = (s.ramp k).sentTo l

/-- From a state whose heads are in step to one whose heads are, but for a command that was turned away. -/
def State.InStep (s t : State) : Prop := s.headsKept → s.headsInStep → t.urgentDropped = true ∨ t.headsInStep

section InStep
variable {s t w : State} {fresh : List (Fin 4 × Fin 3)} {running : Plan → Prop}

theorem State.SentKept.of_ramps (h : w.ramps = s.ramps) : s.SentKept fresh w := by
  have hr : ∀ k, w.ramp k = s.ramp k := State.ramp_of_ramps h
  exact ⟨fun hk k l => by rw [hr]; exact hk k l, fun k l _ => by rw [hr], fun k l _ => by rw [hr]⟩

theorem State.SentKept.trans (h1 : s.SentKept fresh t) (h2 : t.SentKept fresh w) : s.SentKept fresh w :=
  ⟨h2.kept ∘ h1.kept, fun k l h => (h2.config k l h).trans (h1.config k l h),
    fun k l h => (h2.sent k l h).trans (h1.sent k l h)⟩

/-- Moves that send nothing keep what was sent. -/
theorem State.Evolves.sentKept (h : s.Evolves running .keeps t) : s.SentKept fresh t where
  kept := h.moves.keeps (P := Ramp.headsKept) fun _ _ hm => hm.keeps_headsKept
  config k _ _ := h.moves.keepsRamp (P := fun r => r.config = (s.ramp k).config) (fun _ _ hm hr => hm.config.trans hr) rfl
  sent k l _ := h.moves.keepsRamp (P := fun r => r.sentTo l = (s.ramp k).sentTo l)
    (fun _ _ hm hr => Eq.trans (hm.sent l).1 hr) rfl

/-- Moves that may make records not valid keep what was sent to the other heads. -/
theorem State.Evolves.sentKept_of_invalidates (h : s.Evolves running .invalidates t)
    (hfresh : ∀ k l, (t.ramp k).sentTo l = none → (s.ramp k).sentTo l ≠ none → (k, l) ∈ fresh) : s.SentKept fresh t where
  kept := h.moves.keeps (P := Ramp.headsKept) fun _ _ hm => hm.keeps_headsKept
  config k _ _ := h.moves.keepsRamp (P := fun r => r.config = (s.ramp k).config) (fun _ _ hm hr => hm.config.trans hr) rfl
  sent k l hkl := by
    have hor : HeadUse.invalidates.allows ((s.ramp k).sentTo l) ((t.ramp k).sentTo l) :=
      h.moves.keepsRamp (P := fun r => HeadUse.invalidates.allows ((s.ramp k).sentTo l) (r.sentTo l))
        (fun _ _ hm hr => HeadUse.allows_trans hr (hm.sent l).1) (HeadUse.allows_refl _ _)
    rcases hor with he | hn
    · exact he
    · by_contra hne
      exact hkl (hfresh k l hn (fun hs => hne (hn.trans hs.symm)))

/-! ## Telling the heads -/

theorem Ramp.sentTo_of_head {r : Ramp} {l : Fin 3} {h : Head} (hh : r.head l = some h) : r.sentTo l = h.sent := by
  rw [Ramp.sentTo, hh]
  rfl

theorem State.headsInStep_iff (hk : s.headsKept) :
    s.headsInStep ↔ ∀ k l, (s.ramp k).used l = true → (s.ramp k).sentTo l = some ((s.ramp k).target l) := by
  constructor
  · intro h k l hu
    obtain ⟨x, hx⟩ := Option.isSome_iff_exists.mp ((hk k l).trans hu)
    rw [Ramp.sentTo_of_head hx, h k l x hx]
  · intro h k l x hx
    rw [← Ramp.sentTo_of_head hx]
    exact h k l (by rw [← hk k l, hx]; rfl)

/-- Once the heads are told, a head of `fresh` or with another target than before is in step unless its command was turned
away; `hold` says that the others were. -/
theorem State.told_inStep (hw : w.headsKept) (hold : ∀ k l y, (k, l) ∉ fresh →
      (s.ramp k).headKey l = (w.ramp k).headKey l → (w.ramp k).head l = some y → y.sent = some ((w.ramp k).target l)) :
    (s.told w fresh).urgentDropped = true ∨ (s.told w fresh).headsInStep := by
  rw [State.told_eq_toldHeads]
  by_cases hroom : 8 - w.urgent.length < (s.headsDue w fresh).length
  · exact .inl (by simp [State.toldHeads, hroom])
  · right
    intro k l x hx
    rw [State.head_toldHeads, Option.map_eq_some_iff] at hx
    obtain ⟨y, hy, rfl⟩ := hx
    rw [State.target_toldHeads, List.take_of_length_le (not_lt.mp hroom)]
    by_cases hdue : (k, l) ∈ s.headsDue w fresh
    · rw [if_pos hdue]
      rfl
    · rw [if_neg hdue]
      have hused : (w.ramp k).used l = true := by rw [← hw k l, hy]; rfl
      have hnot : ¬ headDue s fresh w (k, l) = true := by
        intro hd
        refine hdue ?_
        rw [State.headsDue_eq]
        exact List.mem_filter.mpr ⟨mem_allHeads _, by rw [Bool.and_eq_true]; exact ⟨hused, hd⟩⟩
      by_contra hne
      rw [headDue_iff] at hnot
      refine hnot ⟨?_, y, hy, hne⟩
      by_contra hstands
      rw [not_or, not_not] at hstands
      obtain ⟨hfresh, hkey⟩ := hstands
      exact hne (hold k l y (by simpa using hfresh) hkey hy)

/-- An event that ends with its heads told leaves them in step, but for a command that the full queue turned away. -/
theorem State.SentKept.told (h : s.SentKept fresh w) : s.InStep (s.told w fresh) := by
  intro hk hs
  have hw := h.kept hk
  refine State.told_inStep hw fun k l y hkl hkey hy => ?_
  have hc := h.config k l hkl
  have hused : (w.ramp k).used l = true := by rw [← hw k l, hy]; rfl
  rw [← Ramp.sentTo_of_head hy, h.sent k l hkl, Ramp.target_of_headKey hkey.symm hc]
  exact (State.headsInStep_iff hk).mp hs k l (Ramp.used_congr hc l ▸ hused)

/-- An event that decides no target leaves the heads in step. -/
theorem State.SentKept.inStep (h : s.SentKept [] t) (hkey : ∀ k l, (t.ramp k).headKey l = (s.ramp k).headKey l) :
    s.InStep t := by
  intro hk hs
  right
  rw [State.headsInStep_iff (h.kept hk)]
  intro k l hu
  have hc := h.config k l (List.not_mem_nil)
  rw [h.sent k l List.not_mem_nil, Ramp.target_of_headKey (hkey k l) hc]
  exact (State.headsInStep_iff hk).mp hs k l (Ramp.used_congr hc l ▸ hu)

theorem State.SentKept.settled (h : s.SentKept [] w) : s.InStep (State.settled s w) := by
  rw [State.settled_eq_told]
  exact h.told

theorem State.SentKept.settleHeads (h : s.SentKept fresh w) : s.InStep (State.settleHeads s fresh w) := by
  rw [State.settleHeads_eq_told]
  exact h.told

/-! ## What precedes and what follows -/

theorem State.InStep.of_ramps (h : t.ramps = s.ramps) : s.InStep t :=
  (State.SentKept.of_ramps h).inStep fun k l => by rw [State.ramp_of_ramps h k]

theorem State.headsInStep_of_ramps (h : t.ramps = s.ramps) (hs : s.headsInStep) : t.headsInStep := by
  intro k l x hx
  rw [State.ramp_of_ramps h k] at hx ⊢
  exact hs k l x hx

/-- What follows the offers to the heads moves no head and clears no indication. -/
theorem State.InStep.then (h : s.InStep t) (hr : w.ramps = t.ramps) (hd : w.urgentDropped = t.urgentDropped) :
    s.InStep w := by
  intro hk hs
  rw [hd]
  exact (h hk hs).imp_right (State.headsInStep_of_ramps hr)

theorem State.InStep.after (h : t.InStep w) (hr : t.ramps = s.ramps) : s.InStep w := by
  intro hk hs
  exact h (fun k l => by rw [State.ramp_of_ramps hr]; exact hk k l) (State.headsInStep_of_ramps hr hs)

theorem State.InStep.reply (h : s.InStep t) (q : Request) (code : Nat) (x : Result) (body : List Byte) :
    s.InStep (t.reply q code x body) := h.then (by simp) (by simp)

theorem State.InStep.withStarts (h : s.InStep t) : s.InStep t.withStarts := by
  intro hk hs
  refine (h hk hs).imp (by simp) (fun ht k l x hx => ?_)
  rw [State.withStarts_ramp] at hx ⊢
  exact ht k l x hx

/-! ## Parts of an event that move no head -/

/-- What a head's target and its being in step rest on in its record. -/
def Head.shown (h : Head) : Option Aspect × Option DisableCause := (h.sent, h.disabled)

/-- The ramps agree in what the targets of their heads are decided from and in what was sent to them. -/
structure Ramp.SameHeads (r r' : Ramp) : Prop where
  config : r'.config = r.config
  state : r'.state = r.state
  head : ∀ l, (r'.head l).map Head.shown = (r.head l).map Head.shown
  lane : ∀ l, (r'.lane l).cycle = (r.lane l).cycle ∧ (r'.lane l).isOpen = (r.lane l).isOpen

theorem Ramp.SameHeads.refl (r : Ramp) : r.SameHeads r := ⟨rfl, rfl, fun _ => rfl, fun _ => ⟨rfl, rfl⟩⟩

theorem Ramp.SameHeads.of_lanes {r r' : Ramp} (hc : r'.config = r.config) (hs : r'.state = r.state)
    (hh : r'.heads = r.heads) (hl : r'.lanes = r.lanes) : r.SameHeads r' :=
  ⟨hc, hs, fun l => by simp only [Ramp.head, hh], fun l => by rw [Ramp.lane_of_lanes hl]; exact ⟨rfl, rfl⟩⟩

theorem Ramp.SameHeads.updHead {r : Ramp} {l : Fin 3} {f : Head → Head}
    (h : ∀ x, r.head l = some x → (f x).shown = x.shown) : r.SameHeads (r.updHead l f) := by
  refine ⟨rfl, rfl, fun j => ?_, fun _ => ⟨rfl, rfl⟩⟩
  rw [Ramp.head_updHead]
  split
  · subst j
    cases hx : r.head l with
    | none => rfl
    | some x => exact congrArg some (h x hx)
  · rfl

/-- The ramps agree in the aspects last sent and the disabled flags of the same heads. -/
theorem Ramp.SameHeads.heads {r r' : Ramp} (h : r.SameHeads r') (l : Fin 3) :
    (r'.head l).isSome = (r.head l).isSome ∧ r'.sentTo l = r.sentTo l ∧ r'.disabled l = r.disabled l := by
  have := h.head l
  simp only [Ramp.sentTo, Ramp.disabled]
  cases h1 : r'.head l <;> cases h2 : r.head l <;> simp_all [Head.shown]

def State.SameHeads (s t : State) : Prop := ∀ k, (s.ramp k).SameHeads (t.ramp k)

theorem State.SameHeads.trans (h1 : s.SameHeads t) (h2 : t.SameHeads w) : s.SameHeads w := by
  intro k
  obtain ⟨c1, s1, d1, l1⟩ := h1 k
  obtain ⟨c2, s2, d2, l2⟩ := h2 k
  exact ⟨c2.trans c1, s2.trans s1, fun l => (d2 l).trans (d1 l), fun l => ⟨(l2 l).1.trans (l1 l).1, (l2 l).2.trans (l1 l).2⟩⟩

theorem State.SameHeads.of_ramps (h : t.ramps = s.ramps) : s.SameHeads t := by
  intro k
  rw [State.ramp_of_ramps h]
  exact .refl _

theorem State.SameHeads.updRamp {k : Fin 4} {f : Ramp → Ramp} (h : (s.ramp k).SameHeads (f (s.ramp k))) :
    s.SameHeads (s.updRamp k f) := by
  intro j
  rw [State.ramp_updRamp]
  split
  · subst j
    exact h
  · exact .refl _

theorem State.SameHeads.foldl {β : Type} {f : State → β → State} (h : ∀ (s : State) x, s.SameHeads (f s x)) (l : List β)
    (s : State) : s.SameHeads (l.foldl f s) := by
  induction l generalizing s with
  | nil => exact .of_ramps rfl
  | cons x rest ih => exact (h s x).trans (ih _)

theorem State.SameHeads.sentKept (h : s.SameHeads t) : s.SentKept fresh t := by
  refine ⟨fun hk k l => ?_, fun k _ _ => (h k).config, fun k l _ => ((h k).heads l).2.1⟩
  rw [((h k).heads l).1, Ramp.used_congr (h k).config]
  exact hk k l

theorem State.SameHeads.inStep (h : s.SameHeads t) : s.InStep t := by
  refine h.sentKept.inStep fun k l => ?_
  obtain ⟨hcycle, hopen⟩ := (h k).lane l
  obtain ⟨-, -, hdisabled⟩ := (h k).heads l
  simp only [Ramp.headKey, (h k).state, hcycle, hopen, hdisabled]

end InStep
end Sys2Proof.Machine
end

section
/-! Every command leaves heads that are in step in step, but for a command that the full urgent insert queue turned away
(O58). -/

namespace Sys2Proof.Machine

open Relation (ReflTransGen)

/-- Every plan: what a part of an event does to heads does not depend on the running job. -/
def anyPlan (_ : Plan) : Prop := True

section InStep
variable {s t w : State}

/-- What ends with the heads told after parts that send none. -/
theorem State.Evolves.settled_inStep (h : s.Evolves anyPlan .keeps w) : s.InStep (State.settled s w) :=
  (State.Evolves.sentKept h).settled

theorem State.inStep_refl : s.InStep s := .of_ramps rfl

theorem State.inStep_reply (q : Request) (code : Nat) (x : Result) (body : List Byte) :
    s.InStep (s.reply q code x body) := .of_ramps (by simp)

theorem State.inStep_onRamp (q : Request) (code : Nat) {f : Fin 4 → State → State} (h : ∀ k, s.InStep (f k s)) :
    s.InStep (State.onRamp q code f s) := by
  simp only [State.onRamp]
  split
  · exact h _
  · exact State.inStep_reply _ _ _ _

theorem State.inStep_badValueUnstated (q : Request) (code : Nat) : s.InStep (s.badValueUnstated q code) :=
  .of_ramps (by simp)

theorem State.inStep_onLane (q : Request) (code lane : Nat) (k : Fin 4) {f : Fin 3 → State → State}
    (h : ∀ l, s.InStep (f l s)) : s.InStep (State.onLane q code lane k f s) := by
  simp only [State.onLane]
  split
  · split
    · exact State.inStep_reply _ _ _ _
    · split
      · exact State.inStep_badValueUnstated _ _
      · exact h _
  · exact State.inStep_badValueUnstated _ _

/-! ## The ring and the line -/

theorem State.inStep_ringReset : s.InStep s.ringReset := by
  have hc : s.ringCleared.headsKept := fun k => by
    rw [State.ramp_ringCleared]
    exact Ramp.headsKept_freshHeads _ _
  have he : s.ringCleared.Evolves anyPlan .keeps
      ((allRamps.foldl (fun s k => s.deriveAllDemands k) s.ringCleared).resolveSources (fun _ _ => true)) :=
    (State.Evolves.foldl (fun _ k => State.evolves_deriveAllDemands k) allRamps _).trans (State.evolves_resolveSources _ _)
  intro _ _
  rw [State.ringReset, State.settleHeads_eq_told]
  exact State.told_inStep ((State.Evolves.sentKept (fresh := []) he).kept hc)
    fun k l _ hn => absurd (mem_allHeads (k, l)) hn

theorem State.inStep_linkUpDelivered : s.InStep s.linkUpDelivered := by
  refine State.SentKept.settleHeads ⟨fun hk k l => ?_, fun k l hn => absurd (mem_allHeads (k, l)) hn,
    fun k l hn => absurd (mem_allHeads (k, l)) hn⟩
  have hr : ({ s with ramps := s.ramps.map Ramp.invalidateHeads } : State).ramp k = (s.ramp k).invalidateHeads := by
    simp [State.ramp]
  have hu : (s.ramp k).invalidateHeads.used l = (s.ramp k).used l := Ramp.used_congr rfl l
  rw [hr, hu, ← hk k l]
  simp [Ramp.invalidateHeads, Ramp.head]

theorem State.inStep_received (bytes : Frame) : s.InStep (s.received bytes) := by
  refine .of_ramps ?_
  simp only [State.received]
  cases handOn s.ownAddress bytes <;> (dsimp only; split <;> simp)

theorem State.inStep_lineEnds : s.InStep s.lineEnds := by
  simp only [State.lineEnds]
  split
  · exact State.InStep.after State.inStep_ringReset rfl
  · exact .of_ramps rfl

theorem State.inStep_ringResetTaken (q : Request) : s.InStep (s.ringResetTaken q) := by
  simp only [State.ringResetTaken]
  split
  · exact State.inStep_reply _ _ _ _
  · split
    · exact .of_ramps (by simp)
    · exact State.inStep_ringReset

/-! ## Requests -/

theorem State.inStep_siteWritten (q : Request) (rec : SiteRecord) : s.InStep (s.siteWritten q rec) := by
  simp only [State.siteWritten]
  split
  · exact State.inStep_reply _ _ _ _
  · exact .of_ramps (by simp)

theorem State.inStep_limitsWritten (q : Request) (rec : LimitsRecord) : s.InStep (s.limitsWritten q rec) := by
  simp only [State.limitsWritten]
  split
  · exact State.inStep_reply _ _ _ _
  · exact .of_ramps (by simp)

theorem State.inStep_planWritten (q : Request) (rec : PlanRecord) : s.InStep (s.planWritten q rec) := by
  simp only [State.planWritten]
  split
  · exact State.inStep_reply _ _ _ _
  · split
    · exact State.inStep_reply _ _ _ _
    · refine (State.SentKept.settled (.trans (t := { s with plans := s.plans.insert q.subject (planOf rec) })
        (.of_ramps rfl) (State.Evolves.sentKept (running := anyPlan) (.foldl (fun s k => ?_) _ _)))).reply _ _ _ _
      split
      · exact s.evolves_rerunPick k
      · exact .refl s

/-- R106: the records of the written ramp are fresh, and the other ramps stay. -/
theorem State.sentKept_configured (k : Fin 4) (c : RampConfig) :
    s.SentKept (rampHeads k) (s.updRamp k (Ramp.configured s.site c)) := by
  have other : ∀ j l, (j, l) ∉ rampHeads k → (s.updRamp k (Ramp.configured s.site c)).ramp j = s.ramp j := by
    intro j l hj
    rw [State.ramp_updRamp, if_neg]
    rintro rfl
    exact hj (List.mem_map.mpr ⟨l, mem_allLanes l, rfl⟩)
  refine ⟨fun hk j => ?_, fun j l h => by rw [other j l h], fun j l h => by rw [other j l h]⟩
  rw [State.ramp_updRamp]
  split
  · exact Ramp.headsKept_freshHeads _ _
  · exact hk j

theorem State.inStep_configWritten (q : Request) (rec : ConfigRecord) (k : Fin 4) : s.InStep (s.configWritten q rec k) := by
  simp only [State.configWritten]
  split
  · exact State.inStep_reply _ _ _ _
  · split
    · exact State.inStep_reply _ _ _ _
    · exact ((State.sentKept_configured k _).trans (State.Evolves.sentKept (running := anyPlan)
        ((State.evolves_deriveAllDemands k).trans (State.evolves_resolveSources _ _)))).settleHeads.reply _ _ _ _

theorem State.sentKept_runWritten (i : Nat) (run : List EntryRecord) : s.SentKept [] (s.runWritten i run) := by
  have h1 : s.SentKept [] { s with
      detectors := writeRun i run s.detectors
      stations := stationList s.limits.timeout (stationsNamed (writeRun i run s.detectors)) s.stations } := .of_ramps rfl
  exact h1.trans (State.Evolves.sentKept (running := anyPlan)
    ((State.evolves_writeNotices _ _ _ _).1.trans (State.evolves_deriveTriggers _ _)))

theorem State.inStep_detectorsWritten (q : Request) (entries : List EntryRecord) :
    s.InStep (s.detectorsWritten q entries) := by
  simp only [State.detectorsWritten]
  split
  · exact State.inStep_reply _ _ _ _
  · split
    · exact State.inStep_reply _ _ _ _
    · split
      · exact State.inStep_reply _ _ _ _
      · split
        · exact State.inStep_reply _ _ _ _
        · exact (State.sentKept_runWritten _ _).settled.reply _ _ _ _

theorem State.inStep_detectorsRead (q : Request) (count view : Nat) : s.InStep (s.detectorsRead q count view) := by
  simp only [State.detectorsRead]
  split
  · exact State.inStep_reply _ _ _ _
  · split
    · exact State.inStep_reply _ _ _ _
    · split
      · exact .of_ramps (by simp [State.drew])
      · exact State.inStep_reply _ _ _ _

theorem State.inStep_healthSet (i : Nat) (d : Detector) (h : Health) (c : HealthCause) (q : Request) (code : Nat) :
    s.InStep ((s.healthSet i d h c).reply q code .done []) := .of_ramps (by simp [State.healthSet])

theorem State.inStep_forcedOut (q : Request) : s.InStep (s.forcedOut q) := by
  simp only [State.forcedOut]
  split
  · exact State.inStep_reply _ _ _ _
  · split
    · exact State.inStep_reply _ _ _ _
    · split
      · exact State.inStep_reply _ _ _ _
      · exact State.inStep_healthSet _ _ _ _ _ _

theorem State.inStep_restored (q : Request) : s.InStep (s.restored q) := by
  simp only [State.restored]
  split
  · exact State.inStep_reply _ _ _ _
  · split
    · exact State.inStep_reply _ _ _ _
    · split
      · exact State.inStep_reply _ _ _ _
      · exact State.inStep_healthSet _ _ _ _ _ _

theorem State.inStep_planRead (q : Request) : s.InStep (s.planRead q) := by
  simp only [State.planRead]
  split
  · exact State.inStep_reply _ _ _ _
  · split <;> exact State.inStep_reply _ _ _ _

theorem State.sameHeads_setFaultPending (k : Fin 4) : s.SameHeads (s.updRamp k Ramp.setFaultPending) :=
  .updRamp (.of_lanes (by simp) (by simp) (by simp) (by simp))

theorem State.sameHeads_offerFault (k : Fin 4) (c : FaultCause) (a b : Flags) (n : Nat) :
    s.SameHeads (s.offerFault k c a b n) := .of_ramps (by simp)

theorem State.sameHeads_stackFlag (k : Fin 4) : s.SameHeads (s.stackFlag k) := by
  have h1 : s.SameHeads (s.updRamp k Ramp.recordStack) := .updRamp (.of_lanes rfl rfl rfl rfl)
  simp only [State.stackFlag]
  split
  · exact h1
  · split
    · exact (h1.trans (State.sameHeads_setFaultPending k)).trans (State.sameHeads_offerFault _ _ _ _ _)
    · exact h1

theorem State.inStep_stackTaken (q : Request) (code : Nat) (k : Fin 4) (stack : List Nat) :
    s.InStep (s.stackTaken q code k stack) := by
  have h1 : s.SameHeads (s.updRamp k (fun r => { r with stack := stack })) := .updRamp (.of_lanes rfl rfl rfl rfl)
  exact (State.SentKept.settled ((State.SameHeads.sentKept h1).trans
    (State.Evolves.sentKept (running := anyPlan) (State.evolves_rerunPick _ k)))).reply _ _ _ _

theorem State.inStep_pushed (q : Request) (plan : Nat) (k : Fin 4) : s.InStep (s.pushed q plan k) := by
  simp only [State.pushed]
  split
  · exact State.inStep_reply _ _ _ _
  · split
    · exact (State.sameHeads_stackFlag k).inStep.reply _ _ _ _
    · exact State.inStep_stackTaken _ _ _ _

theorem State.inStep_popped (q : Request) (k : Fin 4) : s.InStep (s.popped q k) := by
  simp only [State.popped]
  split
  · exact (State.sameHeads_stackFlag k).inStep.reply _ _ _ _
  · split
    · exact State.inStep_reply _ _ _ _
    · exact State.inStep_stackTaken _ _ _ _

theorem State.inStep_baseSet (q : Request) (plan : Nat) (k : Fin 4) : s.InStep (s.baseSet q plan k) := by
  simp only [State.baseSet]
  split
  · exact State.inStep_reply _ _ _ _
  · exact State.inStep_stackTaken _ _ _ _

theorem State.inStep_configRead (q : Request) (k : Fin 4) : s.InStep (s.configRead q k) := by
  simp only [State.configRead]
  split <;> exact State.inStep_reply _ _ _ _

theorem State.inStep_started (q : Request) (k : Fin 4) : s.InStep (s.started q k) := by
  simp only [State.started]
  split
  · exact State.inStep_reply _ _ _ _
  · exact State.inStep_reply _ _ _ _
  · exact (State.evolves_startTaken _ ‹_›).settled_inStep.reply _ _ _ _

theorem State.inStep_stopped (q : Request) (k : Fin 4) : s.InStep (s.stopped q k) := by
  simp only [State.stopped]
  split
  · exact (State.evolves_stopTaken k ‹_›).settled_inStep.reply _ _ _ _
  · exact State.inStep_reply _ _ _ _

theorem State.inStep_held (q : Request) (k : Fin 4) : s.InStep (s.held q k) := by
  simp only [State.held]
  split
  · exact (State.evolves_holdSet_of k (a := true) (b := (s.ramp k).inputHold) rfl ‹_› (by simp)).settled_inStep.reply
      _ _ _ _
  · exact State.inStep_reply _ _ _ _

theorem State.inStep_released (q : Request) (k : Fin 4) : s.InStep (s.released q k) :=
  (State.evolves_released k).settled_inStep.reply _ _ _ _

theorem State.inStep_shared (q : Request) (reduction lifetime : Nat) (k : Fin 4) :
    s.InStep (s.shared q reduction lifetime k) := by
  simp only [State.shared]
  split
  · exact State.inStep_badValueUnstated _ _
  · split
    · exact (State.SameHeads.updRamp (.of_lanes rfl rfl rfl rfl)).inStep.reply _ _ _ _
    · exact State.inStep_reply _ _ _ _

theorem State.inStep_laneClosed (q : Request) (k : Fin 4) (l : Fin 3) : s.InStep (s.laneClosed q k l) := by
  simp only [State.laneClosed]
  split
  · exact State.inStep_reply _ _ _ _
  · split
    · exact State.inStep_reply _ _ _ _
    · exact (State.evolves_closeTaken k l).settled_inStep.reply _ _ _ _

theorem State.inStep_laneOpened (q : Request) (k : Fin 4) (l : Fin 3) : s.InStep (s.laneOpened q k l) := by
  simp only [State.laneOpened]
  split
  · exact State.inStep_reply _ _ _ _
  · exact (State.evolves_laneOpened k l).settled_inStep.reply _ _ _ _

theorem State.inStep_statusCleared (q : Request) (k : Fin 4) : s.InStep (s.statusCleared q k) :=
  (State.SameHeads.updRamp (.of_lanes rfl rfl rfl rfl)).inStep.reply _ _ _ _

theorem State.sameHeads_withPlan {k : Fin 4} {f : Plan → Ramp → Ramp} (h : ∀ p, (s.ramp k).SameHeads (f p (s.ramp k))) :
    s.SameHeads (s.withPlan k f) := by
  simp only [State.withPlan]
  split
  · exact .of_ramps rfl
  · exact .updRamp (h _)

theorem State.inStep_resumed (q : Request) (k : Fin 4) : s.InStep (s.resumed q k) := by
  simp only [State.resumed]
  split
  · exact (State.sameHeads_withPlan fun p => .of_lanes (by simp) (by simp) (by simp) (by simp)).inStep.reply _ _ _ _
  · exact State.inStep_reply _ _ _ _

theorem State.inStep_contextDumped (q : Request) (k : Fin 4) : s.InStep (s.contextDumped q k) := by
  simp only [State.contextDumped]
  split
  · exact State.inStep_reply _ _ _ _
  · split
    · exact .of_ramps (by simp [State.drew])
    · exact State.inStep_reply _ _ _ _

theorem State.inStep_contextLoaded (q : Request) (rec : ContextRecord) (k : Fin 4) :
    s.InStep (s.contextLoaded q rec k) := by
  simp only [State.contextLoaded]
  split
  · exact State.inStep_reply _ _ _ _
  · split
    · exact State.inStep_reply _ _ _ _
    · split
      · exact State.inStep_reply _ _ _ _
      · exact (State.SameHeads.updRamp ⟨rfl, rfl, fun _ => rfl, fun l => by simp [Ramp.loaded, Ramp.lane]⟩).inStep.reply _ _ _ _

/-! ## Jobs, the interval close and the heads' timers -/

theorem State.sameHeads_intervalClosed (k : Fin 4) (seconds : Nat) : s.SameHeads (s.intervalClosed k seconds) := by
  have notice : ∀ (s : State) (p : (Nat × Closing) × (Nat × Closing)), s.SameHeads (s.closeNotice p.1 p.2) := by
    intro s p
    simp only [State.closeNotice]
    split
    · exact .of_ramps rfl
    · exact .of_ramps (by simp)
  have job : ∀ (s : State) c, s.SameHeads (s.offerIntervalJob k c) := by
    intro s c
    simp only [State.offerIntervalJob]
    split
    · exact .updRamp (.of_lanes rfl rfl rfl rfl)
    · exact .of_ramps rfl
  have stored : s.SameHeads ((s.storeClosed (s.closeStep4 k (seconds * 1000))).resetMarks k) := .of_ramps rfl
  exact ((stored.trans (.foldl notice _ _)).trans (job _ _)).trans (.updRamp (.of_lanes rfl rfl rfl rfl))

theorem State.sameHeads_resultDelivered (k : Fin 4) (x : Snapshot) (res : JobResult) :
    s.SameHeads (s.resultDelivered k x res) := by
  have h1 : s.SameHeads (s.updRamp k (fun r => r.recordFlags res.flags)) := .updRamp (.of_lanes rfl rfl rfl rfl)
  simp only [State.resultDelivered]
  split
  · exact h1
  · split
    · exact ((h1.trans (.updRamp (.of_lanes rfl rfl rfl rfl))).trans (State.sameHeads_setFaultPending k)).trans
        (State.sameHeads_offerFault _ _ _ _ _)
    · exact h1.trans (.updRamp (.of_lanes (by simp) (by simp) (by simp) (by simp)))

theorem State.sameHeads_intervalDelivered (k : Fin 4) (x : Option Snapshot) (c : CloseRecord) :
    s.SameHeads (s.intervalDelivered k x c) := by
  have share : ∀ s : State, s.SameHeads (s.updRamp k Ramp.countShare) := by
    intro s
    refine .updRamp ?_
    simp only [Ramp.countShare]
    split
    · exact .refl _
    · split
      · exact .of_lanes rfl rfl rfl rfl
      · exact .refl _
  have report : ∀ (s : State) f n, s.SameHeads (s.offerReport k f c n) := by
    intro s f n
    refine State.SameHeads.trans (t := s.offerSequenced Config.kindReport _) (.of_ramps (by simp))
      (.updRamp ⟨rfl, rfl, fun _ => rfl, fun l => ?_⟩)
    simp [Ramp.clearCounts, Ramp.lane, Lane.clearCounts]
  simp only [State.intervalDelivered]
  split
  · exact .of_ramps rfl
  · split
    · exact .of_ramps rfl
    · exact ((State.sameHeads_resultDelivered k _ _).trans (share _)).trans (report _ _ _)

theorem State.sameHeads_graceEnded (k : Fin 4) (l : Fin 3) :
    s.SameHeads (s.updRamp k (fun r => r.updLane l (fun x => { x with grace := none }))) := by
  refine .updRamp ⟨rfl, rfl, fun _ => rfl, fun j => ?_⟩
  rw [Ramp.lane_updLane]
  split
  · subst j
    exact ⟨rfl, rfl⟩
  · exact ⟨rfl, rfl⟩

/-- The heads that lost the aspect last sent are those that a status frame tells afresh. -/
theorem State.mem_invalidated {u : HeadUse} (h : s.Evolves anyPlan u t) {k : Fin 4} {l : Fin 3}
    (ht : (t.ramp k).sentTo l = none) (hs : (s.ramp k).sentTo l ≠ none) : (k, l) ∈ State.invalidated s t := by
  have hsome : ((t.ramp k).head l).isSome = ((s.ramp k).head l).isSome :=
    h.moves.keepsRamp (P := fun r => (r.head l).isSome = ((s.ramp k).head l).isSome)
      (fun _ _ hm hr => (hm.sent l).2.trans hr) rfl
  refine List.mem_filter.mpr ⟨mem_allHeads _, ?_⟩
  cases h0 : (s.ramp k).head l with
  | none => exact absurd (by rw [Ramp.sentTo, h0]; rfl) hs
  | some x =>
    obtain ⟨y, h1⟩ := Option.isSome_iff_exists.mp (hsome.trans (by rw [h0]; rfl))
    rw [Ramp.sentTo_of_head h0] at hs
    rw [Ramp.sentTo_of_head h1] at ht
    simp [h1, ht, Option.isSome_iff_ne_none, hs]

@[simp] theorem State.statusNotices_ramps (s0 s : State) (judged : List ((Fin 4 × Fin 3) × StatusRecord)) :
    (State.statusNotices s0 judged s).ramps = s.ramps ∧
    (State.statusNotices s0 judged s).urgentDropped = s.urgentDropped := by
  refine ⟨foldl_keeps (fun s : State => s.ramps) _ (fun s p => ?_) _ _,
    foldl_keeps (fun s : State => s.urgentDropped) _ (fun s p => ?_) _ _⟩
  all_goals
    split
    · simp
    · rfl

theorem State.inStep_statusTaken (src : Nat) (records : List StatusRecord) : s.InStep (s.statusTaken src records) := by
  have h := State.evolves_statusJudged (running := anyPlan) (u := .invalidates) (s := s) (fun _ => .inr rfl) src
    (redRamps (s.judged src (s.screenStatus src [] records))) (s.judged src (s.screenStatus src [] records))
  have told := (State.Evolves.sentKept_of_invalidates h fun k l => State.mem_invalidated h).settleHeads
  exact told.then (by simp [State.statusTaken]) (by simp [State.statusTaken])

theorem State.inStep_disableEnds {fresh : List (Fin 4 × Fin 3)} (h : s.SentKept fresh t) :
    s.InStep (State.disableEnds s fresh t) := by
  have told := (h.trans (State.Evolves.sentKept (running := anyPlan) (State.evolves_rerunFreed s))).settleHeads
  exact told.then (by simp [State.disableEnds]) (by simp [State.disableEnds])

/-- A change of one head's record concerns that head alone. -/
theorem State.sentKept_updHead (k : Fin 4) (l : Fin 3) (f : Head → Head) :
    s.SentKept [(k, l)] (s.updRamp k (fun r => r.updHead l f)) := by
  have config : ∀ j, ((s.updRamp k (fun r => r.updHead l f)).ramp j).config = (s.ramp j).config := by
    intro j
    rw [State.ramp_updRamp]
    split
    · subst j
      rfl
    · rfl
  have head : ∀ j m, ((s.updRamp k (fun r => r.updHead l f)).ramp j).head m =
      if j = k ∧ m = l then ((s.ramp j).head m).map f else (s.ramp j).head m := by
    intro j m
    rw [State.ramp_updRamp]
    by_cases hj : j = k
    · subst j
      rw [if_pos rfl, Ramp.head_updHead]
      by_cases hm : m = l <;> simp [hm]
    · rw [if_neg hj, if_neg (fun h => hj h.1)]
  refine ⟨fun hk j m => ?_, fun j _ _ => config j, fun j m hn => ?_⟩
  · rw [head, Ramp.used_congr (config j), ← hk j m]
    split <;> simp
  · rw [Ramp.sentTo, head, if_neg (fun h => hn (by simp [h.1, h.2]))]
    rfl

theorem State.inStep_confirmFailed (k : Fin 4) (l : Fin 3) : s.InStep (s.confirmFailed k l) :=
  State.inStep_disableEnds ((State.sentKept_updHead k l _).trans
    (State.Evolves.sentKept (running := anyPlan) (State.evolves_disableLane k l _)))

theorem State.inStep_silenceExpired (k : Fin 4) (lanes : List (Fin 3)) : s.InStep (s.silenceExpired k lanes) :=
  State.inStep_disableEnds (State.Evolves.sentKept (running := anyPlan) (State.evolves_silenced k lanes))

/-- R148: a head in step that is offered a command again is told the target that it was told before. -/
theorem State.sameHeads_offerHead (hs : s.headsInStep) (k : Fin 4) (l : Fin 3) : s.SameHeads (s.offerHead k l) := by
  by_cases hn : (s.ramp k).head l = none ∨ (s.ramp k).laneConfig l = none
  · rw [State.offerHead_none s k l hn]
    exact .of_ramps rfl
  · obtain ⟨h1, h2⟩ := not_or.mp hn
    obtain ⟨x, hx⟩ := Option.ne_none_iff_exists'.mp h1
    obtain ⟨c, hc⟩ := Option.ne_none_iff_exists'.mp h2
    rw [State.offerHead_spec s k l x c hx hc]
    split
    · refine State.SameHeads.trans (t := s.updRamp k fun r => r.updHead l (Head.queued s.site ((s.ramp k).target l)))
        (.updRamp (.updHead fun y hy => ?_)) (.of_ramps rfl)
      simp [Head.shown, Head.queued, hs k l y hy]
    · exact .of_ramps rfl

theorem State.inStep_refreshed (k : Fin 4) (l : Fin 3) :
    s.InStep ((s.offerHead k l).updRamp k (fun r => r.updHead l (fun h => { h with refresh := s.site.refresh }))) :=
  fun hk hs => ((State.sameHeads_offerHead hs k l).trans (.updRamp (.updHead (f := fun h => { h with refresh := s.site.refresh }) fun _ _ => rfl))).inStep hk hs

/-! ## Every command -/

theorem State.InStep.guarded {p : Prop} [Decidable p] (h : p → s.InStep t) : s.InStep (if p then t else s) := by
  split
  · exact h ‹_›
  · exact State.inStep_refl

theorem State.inStep_acting (c : Instr) {f : State → State} (h : ∀ x : State, x.InStep (f x)) :
    ∃ t, s.acting c f = .next t ∧ s.InStep t :=
  ⟨_, rfl, ((h _).after (by simp)).withStarts⟩

theorem exec_inStep (c : Instr) (s : State) : ∃ t, exec c s = .next t ∧ s.InStep t := by
  have ends : ∀ {x : State}, s.InStep x → ∃ t, x.ends = .next t ∧ s.InStep t := fun h => ⟨_, rfl, h.withStarts⟩
  cases c with
  | hardReset straps signal =>
    refine ⟨_, rfl, fun _ _ => .inr ?_⟩
    exact (State.cleared_hardReset (s := s) rfl).sound.2.2.2.2.2.2.2.2.2.2.2.1
  | linkSignalLost => exact ends (.of_ramps rfl)
  | linkSignalRegained =>
    refine ends ?_
    split
    · exact State.inStep_refl
    · exact State.InStep.after State.inStep_linkUpDelivered rfl
  | txholdAsserted => exact ends (.of_ramps rfl)
  | txholdDeasserted => exact ends (.of_ramps rfl)
  | rampHoldInputAsserted k =>
    refine ends ?_
    split
    · exact State.inStep_refl
    · exact State.Evolves.settled_inStep (.trans (.aside (.of_fields rfl)) (State.evolves_inputAsserted k))
  | rampHoldInputDeasserted k =>
    exact ends (.guarded fun _ =>
      State.Evolves.settled_inStep (.trans (.aside (.of_fields rfl)) (State.evolves_inputDeasserted k)))
  | frameReceived bytes => exact ends (.guarded fun _ => State.inStep_received bytes)
  | transmitStart => exact ends State.inStep_refl
  | transmitEnd => exact ends State.inStep_lineEnds
  | scanFrame src span count records =>
    exact State.inStep_acting (f := fun s =>
        if s.scanActedOn src span count records then State.settled s (s.scanned src span records) else s) _
      fun x => .guarded fun _ => (State.evolves_scanned _ _ _).settled_inStep
  | headStatus dst src count records =>
    exact State.inStep_acting (f := fun s =>
        if s.statusActedOn dst src count records then s.statusTaken src records else s) _
      fun x => .guarded fun _ => State.inStep_statusTaken src records
  | requestFormatReject src tag payload =>
    exact State.inStep_acting (f := fun s => if formatFault payload then
        s.reply ⟨src, tag, 0⟩ (echoedCode payload) .badFormat (s.formatBody payload) else s) _
      fun x => .guarded fun _ => State.inStep_reply _ _ _ _
  | identify q => exact State.inStep_acting (f := fun s => s.reply q 0x01 .done s.identity) _ fun _ => State.inStep_reply _ _ _ _
  | siteWrite q rec => exact State.inStep_acting _ fun _ => State.inStep_siteWritten q rec
  | siteRead q => exact State.inStep_acting (f := fun s => s.reply q 0x03 .done s.site.bytes) _ fun _ => State.inStep_reply _ _ _ _
  | healthLimitsWrite q rec => exact State.inStep_acting _ fun _ => State.inStep_limitsWritten q rec
  | healthLimitsRead q =>
    exact State.inStep_acting (f := fun s => s.reply q 0x05 .done s.limits.bytes) _ fun _ => State.inStep_reply _ _ _ _
  | detectorWrite q entries => exact State.inStep_acting _ fun _ => State.inStep_detectorsWritten q entries
  | detectorRead q count view => exact State.inStep_acting _ fun _ => State.inStep_detectorsRead q count view
  | forceOut q => exact State.inStep_acting _ fun _ => State.inStep_forcedOut q
  | restore q => exact State.inStep_acting _ fun _ => State.inStep_restored q
  | planWrite q rec => exact State.inStep_acting _ fun _ => State.inStep_planWritten q rec
  | planRead q => exact State.inStep_acting _ fun _ => State.inStep_planRead q
  | push q plan => exact State.inStep_acting _ fun _ => State.inStep_onRamp q _ fun k => State.inStep_pushed q plan k
  | pop q => exact State.inStep_acting _ fun _ => State.inStep_onRamp q _ fun k => State.inStep_popped q k
  | setBase q plan => exact State.inStep_acting _ fun _ => State.inStep_onRamp q _ fun k => State.inStep_baseSet q plan k
  | rampConfigWrite q rec => exact State.inStep_acting _ fun _ => State.inStep_onRamp q _ fun k => State.inStep_configWritten q rec k
  | rampConfigRead q => exact State.inStep_acting _ fun _ => State.inStep_onRamp q _ fun k => State.inStep_configRead q k
  | start q => exact State.inStep_acting _ fun _ => State.inStep_onRamp q _ fun k => State.inStep_started q k
  | stop q => exact State.inStep_acting _ fun _ => State.inStep_onRamp q _ fun k => State.inStep_stopped q k
  | hold q => exact State.inStep_acting _ fun _ => State.inStep_onRamp q _ fun k => State.inStep_held q k
  | release q => exact State.inStep_acting _ fun _ => State.inStep_onRamp q _ fun k => State.inStep_released q k
  | resume q => exact State.inStep_acting _ fun _ => State.inStep_onRamp q _ fun k => State.inStep_resumed q k
  | laneClose q lane =>
    exact State.inStep_acting _ fun _ => State.inStep_onRamp q _ fun k =>
      State.inStep_onLane q _ _ k fun l => State.inStep_laneClosed q k l
  | laneOpen q lane =>
    exact State.inStep_acting _ fun _ => State.inStep_onRamp q _ fun k =>
      State.inStep_onLane q _ _ k fun l => State.inStep_laneOpened q k l
  | share q reduction lifetime =>
    exact State.inStep_acting _ fun _ => State.inStep_onRamp q _ fun k => State.inStep_shared q reduction lifetime k
  | statusRead q =>
    exact State.inStep_acting (f := State.onRamp q 0x40 (fun k s => s.reply q 0x40 .done (s.ramp k).statusBody)) _
      fun _ => State.inStep_onRamp q _ fun k => State.inStep_reply _ _ _ _
  | statusClear q => exact State.inStep_acting _ fun _ => State.inStep_onRamp q _ fun k => State.inStep_statusCleared q k
  | contextDump q => exact State.inStep_acting _ fun _ => State.inStep_onRamp q _ fun k => State.inStep_contextDumped q k
  | contextLoad q rec => exact State.inStep_acting _ fun _ => State.inStep_onRamp q _ fun k => State.inStep_contextLoaded q rec k
  | ringStatus q =>
    exact State.inStep_acting (f := fun s => s.droppedCleared.reply q 0x50 .done s.ringStatusBody) _
      fun _ => .of_ramps (by simp [State.droppedCleared])
  | ringReset q => exact State.inStep_acting _ fun _ => State.inStep_ringResetTaken q
  | ringResetEffect => exact ends (.guarded fun _ => State.InStep.after State.inStep_ringReset rfl)
  | stationTimerExpiry address => exact ends (.guarded fun h => (State.evolves_stationExpired h).settled_inStep)
  | intervalClose k =>
    refine ends ?_
    split
    · exact (State.sameHeads_intervalClosed k _).inStep
    · exact State.inStep_refl
  | jobStart => exact ends State.inStep_refl
  | intervalJobCompletion =>
    refine ends ?_
    split
    · exact ((State.sameHeads_intervalDelivered _ _ _).trans (.of_ramps rfl)).inStep
    · exact State.inStep_refl
  | startJobCompletion =>
    refine ends ?_
    split
    · exact State.Evolves.settled_inStep
        ((State.evolves_startDelivered _ _ (fun _ _ => trivial)).trans State.evolves_jobLeft)
    · exact State.inStep_refl
  | warningTimerExpiry k => exact ends (.guarded fun h => (State.evolves_warningEnded k h.1).settled_inStep)
  | clearTimerExpiry k =>
    exact ends (.guarded fun _ =>
      ((State.evolves_enterDark k).trans (State.evolves_rampChanged _ _ _ _)).settled_inStep)
  | releaseDue k => exact ends (.guarded fun h => (State.evolves_comeDue k (.inr h)).settled_inStep)
  | greenEnd k l =>
    exact ends (.guarded fun h => State.Evolves.settled_inStep
      (.trans (.updRamp (.endGreen (LaneCycle.busy_of_isGreen h))) (State.evolves_landedFreed k s)))
  | amberEnd k l =>
    exact ends (.guarded fun h => State.Evolves.settled_inStep
      (.trans (.updRamp (.endWindow (LaneCycle.busy_of_isAmber h))) (State.evolves_landedFreed k s)))
  | redEnd k l =>
    exact ends (.guarded fun h => State.Evolves.settled_inStep
      (.trans (.updRamp (.enterReady h)) (State.evolves_rerunPick _ k)))
  | graceTimeExpiry k l => exact ends (State.sameHeads_graceEnded k l).inStep
  | refreshTimerExpiry k l => exact ends (State.inStep_refreshed k l)
  | confirmTimerExpiry k l => exact ends (.guarded fun _ => State.inStep_confirmFailed k l)
  | silenceTimerExpiry k l => exact ends (.guarded fun _ => State.inStep_silenceExpired k _)
  | firstIdleGap => exact ends (.guarded fun _ => .of_ramps rfl)

end InStep
end Sys2Proof.Machine
end

section
/-! No head is named by two lanes (R106): a configuration write alone changes what is named, and its checks keep it apart
(O58). -/

namespace Sys2Proof.Machine

/-- The heads that ramp `k`'s present record names. -/
def Ramp.namedHeads (r : Ramp) : List (Nat × Nat) :=
  match r.config with
  | some c => c.heads
  | none => []

section Distinct
variable {s t : State}

/-- The heads named are distinct where each record's are and no two ramps name one head. -/
theorem State.headsDistinct_iff : s.headsDistinct ↔
    (∀ k, (s.ramp k).namedHeads.Nodup) ∧ ∀ j k, j ≠ k → List.Disjoint (s.ramp j).namedHeads (s.ramp k).namedHeads := by
  have hn : s.namedHeads = allRamps.flatMap (fun k => (s.ramp k).namedHeads) := rfl
  have hnodup : allRamps.Nodup := by decide
  rw [State.headsDistinct, hn, List.nodup_flatMap]
  constructor
  · rintro ⟨h1, h2⟩
    refine ⟨fun k => h1 k (mem_allRamps k), fun j k hjk => ?_⟩
    have symm : Std.Symm (Function.onFun List.Disjoint fun k => (s.ramp k).namedHeads) := ⟨fun _ _ h => h.symm⟩
    exact h2.forall (mem_allRamps j) (mem_allRamps k) hjk
  · rintro ⟨h1, h2⟩
    exact ⟨fun k _ => h1 k, hnodup.pairwise_of_forall_ne fun j _ k _ hjk => h2 j k hjk⟩

theorem State.headsDistinct_of_config (h : ∀ k, (t.ramp k).config = (s.ramp k).config) (hs : s.headsDistinct) :
    t.headsDistinct := by
  simpa only [State.headsDistinct, State.namedHeads, h] using hs

theorem mem_otherHeads {k : Fin 4} {x : Nat × Nat} :
    x ∈ s.otherHeads k ↔ ∃ j, j ≠ k ∧ x ∈ (s.ramp j).namedHeads := by
  have hn : s.otherHeads k = (allRamps.filter (fun j => j != k)).flatMap (fun j => (s.ramp j).namedHeads) := rfl
  simp [hn, mem_allRamps]

/-- R106: lanes whose checks hold name heads apart from each other and from those taken. -/
theorem laneChecks_distinct {own : Nat} {recs : List LaneRecord} {taken : List (Nat × Nat)} {n : Nat}
    (h : ∀ p ∈ laneChecks own taken n recs, p.2 = true) :
    (recs.map headPair).Nodup ∧ ∀ x ∈ recs.map headPair, x ∉ taken := by
  induction recs generalizing taken n with
  | nil => simp
  | cons r rest ih =>
    simp only [laneChecks, List.forall_mem_append] at h
    obtain ⟨hr, hrest⟩ := h
    have htaken : headPair r ∉ taken := by
      have := hr _ List.mem_cons_self
      simp only [Bool.and_eq_true, Bool.not_eq_true', List.contains_eq_mem, decide_eq_false_iff_not] at this
      exact this.2
    obtain ⟨h1, h2⟩ := ih hrest
    refine ⟨List.nodup_cons.mpr ⟨fun hm => h2 _ hm List.mem_cons_self, h1⟩, fun x hx => ?_⟩
    rcases List.mem_cons.mp hx with rfl | hx
    · exact htaken
    · exact fun hm => h2 x hx (List.mem_cons_of_mem _ hm)

theorem heads_configOf (rec : ConfigRecord) : (configOf rec).heads = (keptLanes rec).map headPair := by
  simp [RampConfig.heads, configOf, laneConfigOf, headPair]

/-- R106 check 3: a record that passes names heads that no other ramp names, each once. -/
theorem State.configFault_distinct {k : Fin 4} {rec : ConfigRecord} (h : s.configFault k rec = none) :
    (configOf rec).heads.Nodup ∧ ∀ j, j ≠ k → List.Disjoint (configOf rec).heads (s.ramp j).namedHeads := by
  rw [State.configFault, lowestFailing_eq_none] at h
  obtain ⟨h1, h2⟩ := laneChecks_distinct (List.forall_mem_append.mp h).2
  rw [heads_configOf]
  exact ⟨h1, fun j hj x hx hm => h2 x hx (mem_otherHeads.mpr ⟨j, hj, hm⟩)⟩

theorem State.headsDistinct_configured {k : Fin 4} {rec : ConfigRecord} (hf : s.configFault k rec = none)
    (hs : s.headsDistinct) : (s.updRamp k (Ramp.configured s.site (configOf rec))).headsDistinct := by
  obtain ⟨hn, hother⟩ := State.configFault_distinct hf
  rw [State.headsDistinct_iff] at hs ⊢
  obtain ⟨h1, h2⟩ := hs
  have named : ∀ j, ((s.updRamp k (Ramp.configured s.site (configOf rec))).ramp j).namedHeads =
      if j = k then (configOf rec).heads else (s.ramp j).namedHeads := by
    intro j
    rw [State.ramp_updRamp]
    split <;> rfl
  refine ⟨fun j => ?_, fun i j hij => ?_⟩
  · rw [named]
    split
    · exact hn
    · exact h1 j
  · rw [named, named]
    by_cases hi : i = k
    · rw [if_pos hi, if_neg (fun hj => hij (hi.trans hj.symm))]
      exact hother j (fun hj => hij (hi.trans hj.symm))
    · rw [if_neg hi]
      by_cases hj : j = k
      · rw [if_pos hj]
        exact (hother i hi).symm
      · rw [if_neg hj]
        exact h2 i j hij

theorem State.Moves.config {running : Plan → Prop} {u : HeadUse} (h : s.Moves running u t) (k : Fin 4) :
    (t.ramp k).config = (s.ramp k).config :=
  h.keepsRamp (P := fun r => r.config = (s.ramp k).config) (fun _ _ hm hr => hm.config.trans hr) rfl

theorem State.Event.keeps_headsDistinct {running : Plan → Prop} (h : s.Event running t) (hs : s.headsDistinct) :
    t.headsDistinct := by
  obtain ⟨s0, s1, h0, hw, h1⟩ := h
  have hb := State.headsDistinct_of_config h0.moves.config hs
  refine State.headsDistinct_of_config h1.moves.config ?_
  rcases hw.cases_moves (running := running) (u := .tells) with hm | hc | rfl | ⟨n, p, -, -, rfl⟩ | ⟨k, rec, -, hf, rfl⟩
  · exact State.headsDistinct_of_config hm.config hb
  · exact hc.sound.2.2.2.2.2.2.2.2.2.2.1
  · exact State.headsDistinct_of_config (fun k => by rw [State.ramp_ringCleared]; rfl) hb
  · exact hb
  · exact State.headsDistinct_configured hf hb

end Distinct

/-- Heads in step stay so over a step, but for a command that was turned away. -/
theorem step_inStep {s t : State} (h : step s = .next t) : s.InStep t := by
  have ran : ∀ (c : Instr) (p : List Instr), exec c { s with pending := p } = .next t → s.InStep t := by
    intro c p hc
    obtain ⟨t', ht, hi⟩ := exec_inStep c { s with pending := p }
    rw [ht, Host.Outcome.next.injEq] at hc
    exact hc ▸ hi.after rfl
  simp only [step] at h
  split at h
  · exact ran _ _ h
  · split at h
    · exact ran _ s.pending h
    · rw [Host.Outcome.next.injEq] at h
      exact h ▸ State.inStep_refl

/-- Settles O58: a configuration write and the ring reset alone set heads up, and each with its used lanes; every event
tells the heads whose target it decided. -/
theorem stepsKeepTheHeads : Obligations.StepsKeepTheHeads := by
  intro s t hs h
  exact ⟨step_keeps (fun _ _ => id) (fun _ _ h => h.keeps_headsKept) h hs,
    step_keeps (fun _ _ => id) (fun _ _ h => h.keeps_headsDistinct) h, step_inStep h hs⟩

end Sys2Proof.Machine
end

section
/-! The parts of a command's event on one ramp, in the words of the statements: each turns what an event from `s` has made of
ramp `k` so far into what it makes of it next, with the notices and frames offered (`State.rampSet`). -/

namespace Sys2Proof.Machine

variable {s t w : State} {k : Fin 4} {r r' : Ramp} {a b : List (Nat × List Byte)} {replies : List Outgoing}

/-! ## What `rampSet` says of a state -/

theorem State.rampSet.ramp (h : s.rampSet t k r a replies) (j : Fin 4) : t.ramp j = if j = k then r else s.ramp j := by
  obtain ⟨-, he⟩ := h
  rw [State.ramp, he]
  simp only [Four.get_set]
  rfl

theorem State.rampSet.ramp_self (h : s.rampSet t k r a replies) : t.ramp k = r := by
  rw [h.ramp, if_pos rfl]

theorem State.rampSet.plans (h : s.rampSet t k r a replies) : t.plans = s.plans := by
  obtain ⟨-, he⟩ := h
  rw [he]

theorem State.rampSet.site (h : s.rampSet t k r a replies) : t.site = s.site := by
  obtain ⟨-, he⟩ := h
  rw [he]

theorem State.rampSet.ownAddress (h : s.rampSet t k r a replies) : t.ownAddress = s.ownAddress := by
  obtain ⟨-, he⟩ := h
  rw [he]

theorem State.rampSet.topPlan (h : s.rampSet t k r a replies) : t.topPlan k = s.plans.get r.top := by
  rw [State.topPlan, h.ramp_self, h.plans]

/-! ## How events are put together -/

theorem State.rampSet_refl (s : State) (k : Fin 4) : s.rampSet s k (s.ramp k) [] [] :=
  ⟨s.tells_nil, by rw [State.ramp, Four.set_get]⟩

theorem State.rampSet_of_ramp (h : s.ramp k = r) : s.rampSet s k r [] [] := h ▸ s.rampSet_refl k

theorem State.rampSet.trans (h1 : s.rampSet t k r a []) (h2 : t.rampSet w k r' b replies) :
    s.rampSet w k r' (a ++ b) replies := by
  refine ⟨State.tells_trans h1.1 h2.1 h1.site h1.ownAddress, ?_⟩
  have e1 := h1.2
  have e2 := h2.2
  rw [e1] at e2
  rw [Four.set_set] at e2
  exact e2

theorem State.rampSet.updRamp (h : s.rampSet t k r a []) (f : Ramp → Ramp) : s.rampSet (t.updRamp k f) k (f r) a [] := by
  have h2 : t.rampSet (t.updRamp k f) k (f r) [] [] :=
    ⟨State.tells_congr t.tells_nil rfl rfl rfl, by rw [State.updRamp, State.setRamp, ← h.ramp_self]⟩
  simpa using h.trans h2

theorem State.rampSet.sequenced (h : s.rampSet t k r a []) (kind : Nat) (payload : List Byte) :
    s.rampSet (t.offerSequenced kind payload) k r (a ++ [(kind, payload)]) [] := by
  refine h.trans ⟨t.offerSequenced_tells kind payload, ?_⟩
  rw [← h.ramp_self, State.ramp, Four.set_get]
  simp only [State.offerSequenced, State.offerNormal]
  split <;> rfl

theorem State.rampSet.offerFault (h : s.rampSet t k r a []) (c : FaultCause) (x y : Flags) (n : Nat) :
    s.rampSet (t.offerFault k c x y n) k r (a ++ [faultNotice k c r.state x y n]) [] := by
  obtain rfl := h.ramp_self
  exact h.sequenced _ _

theorem State.rampSet.offerRamp (h : s.rampSet t k r a []) (before : RampState) (c : RampCause) :
    s.rampSet (t.offerRamp k before c) k r (a ++ [rampNotice k before r.state r.requestHold r.inputHold c]) [] := by
  obtain rfl := h.ramp_self
  exact h.sequenced _ _

theorem State.rampSet.rampChanged (h : s.rampSet t k r a []) (before : RampState) (c : RampCause) :
    s.rampSet (t.rampChanged k before c) k r
      (a ++ if r.state = before then [] else [rampNotice k before r.state r.requestHold r.inputHold c]) [] := by
  simp only [State.rampChanged, h.ramp_self]
  split
  · simpa using h
  · exact h.offerRamp before c

theorem State.rampSet.reply (h : s.rampSet t k r a []) (q : Request) (code : Nat) (x : Result) (body : List Byte) :
    s.rampSet (t.reply q code x body) k r a [replyOf s q code x body] := by
  obtain ⟨h1, h2⟩ := t.reply_repliesOnly q code x body
  have hr : replyOf t q code x body = replyOf s q code x body := by simp only [replyOf, h.ownAddress]
  have h3 : t.rampSet (t.reply q code x body) k r [] [replyOf s q code x body] := by
    refine ⟨hr ▸ h1, ?_⟩
    rw [← h.ramp_self, State.ramp, Four.set_get]
    simpa using h2
  simpa using h.trans h3

theorem State.rampSet.withPlan (h : s.rampSet t k r a []) {p : Plan} (hp : s.plans.get r.top = some p)
    (f : Plan → Ramp → Ramp) : s.rampSet (t.withPlan k f) k (f p r) a [] := by
  have : t.withPlan k f = t.updRamp k (f p) := by simp only [State.withPlan, h.topPlan, hp]
  rw [this]
  exact h.updRamp (f p)

theorem State.rampSet.withPlan_none (h : s.rampSet t k r a []) (hp : s.plans.get r.top = none)
    (f : Plan → Ramp → Ramp) : s.rampSet (t.withPlan k f) k r a [] := by
  have : t.withPlan k f = t := by simp only [State.withPlan, h.topPlan, hp]
  rwa [this]

/-- R125: the pick made again, under whatever plan is on top. -/
theorem State.rampSet.rerunPick (h : s.rampSet t k r a []) :
    s.rampSet (t.rerunPick k) k (((s.plans.get r.top).map (fun p => r.pick p)).getD r) a [] := by
  cases hp : s.plans.get r.top with
  | none => exact h.withPlan_none hp _
  | some p => exact h.withPlan hp _

/-! ## The heads told, and the reply -/

/-- What the heads are told depends on the ramps before the event alone. -/
theorem State.told_congr {s s' t : State} (h : s'.ramps = s.ramps) (fresh : List (Fin 4 × Fin 3)) :
    s'.told t fresh = s.told t fresh := by
  have hr : ∀ k, s'.ramp k = s.ramp k := State.ramp_of_ramps h
  have hdue : s'.headsDue t fresh = s.headsDue t fresh := by simp only [State.headsDue, hr]
  rw [State.told_eq_toldHeads, State.told_eq_toldHeads, hdue]

/-- The heads are told whatever the normal insert queue holds. -/
theorem State.told_queue (s t : State) (fresh : List (Fin 4 × Fin 3)) (n : List Outgoing) (d : Bool) (q : Nat) :
    { s.told t fresh with normal := n, normalDropped := d, sequence := q } =
      s.told { t with normal := n, normalDropped := d, sequence := q } fresh := rfl

/-- An event on ramp `k` whose heads are told at its end. -/
theorem State.rampSet.settled (h : s.rampSet t k r a []) {s0 : State} (h0 : s0.ramps = s.ramps) :
    s.rampEvent (State.settled s0 t) k r a [] := by
  rw [State.settled_eq_told, State.told_congr h0]
  refine ⟨State.tells_congr h.1 (by simp) (by simp) (by simp), ?_⟩
  have he := h.2
  calc s.told t [] = s.told { s with
        ramps := s.ramps.set k r, normal := t.normal, normalDropped := t.normalDropped, sequence := t.sequence } [] :=
        congrArg (fun x => s.told x []) he
    _ = _ := by simp

/-- The reply that ends an event on ramp `k`. -/
theorem State.rampEventFresh.reply {fresh : List (Fin 4 × Fin 3)} (h : s.rampEventFresh t fresh k r a [])
    (q : Request) (code : Nat) (x : Result) (body : List Byte) :
    s.rampEventFresh (t.reply q code x body) fresh k r a [replyOf s q code x body] := by
  obtain ⟨h1, h2⟩ := h
  have hsite : t.site = s.site := by rw [h2]; simp
  have hown : t.ownAddress = s.ownAddress := by rw [h2]; simp
  obtain ⟨r1, r2⟩ := t.reply_repliesOnly q code x body
  have hr : replyOf t q code x body = replyOf s q code x body := by simp only [replyOf, hown]
  have told : ∀ n d m, { t with normal := n, normalDropped := d, sequence := m } =
      s.told { s with ramps := s.ramps.set k r, normal := n, normalDropped := d, sequence := m } fresh := by
    intro n d m
    rw [h2]
    rfl
  refine ⟨List.append_nil a ▸ State.tells_trans h1 (hr ▸ r1) hsite hown, ?_⟩
  rw [← told]
  conv_lhs => rw [r2]
  simp

end Sys2Proof.Machine
end

section
/-! The statements on steps, resets and settings that one command's definition settles: O1, O2, O5, O10, O15, O16, O29, O33,
O37, O46. -/

namespace Sys2Proof.Machine

/-! ## Steps -/

/-- Settles O1. -/
theorem stepRunsFrontCommand : Obligations.StepRunsFrontCommand := fun _ _ _ => rfl

theorem step_of_pending_nil {s : State} (h : s.pending = []) : step s = match s.dueStep with
    | some c => exec c s
    | none => .next s := by
  simp only [step, h] <;> rfl

/-- Settles O2: with no command waiting a step is the part's own due step. -/
theorem emptyQueueStep : Obligations.EmptyQueueStep := by
  intro s hp
  have job : s.handed = [] → (s.rcu ≠ .idle ∨ s.jobs = []) → s.dueStep = if s.mayStart then some .transmitStart else none := by
    intro hh hj
    have : ¬(s.rcu = .idle ∧ s.jobs.isEmpty = false) := by
      rintro ⟨hr, he⟩
      rcases hj with hj | hj
      · exact hj hr
      · simp [hj] at he
    simp only [State.dueStep, hh, if_neg this]
  rw [step_of_pending_nil hp]
  refine ⟨fun c more hh => ?_, fun hh hr hj => ?_, fun hh hj hl ht hq => ?_, fun hh hj hq => ?_⟩
  · simp only [State.dueStep, hh]
  · have : s.rcu = .idle ∧ s.jobs.isEmpty = false := ⟨hr, by simpa using hj⟩
    simp only [State.dueStep, hh, if_pos this]
  · have : s.mayStart = true := by
      simp only [State.mayStart, State.queued, hl, ht]
      rcases hq with hq | hq | hq <;> simp [hq]
    rw [job hh hj, if_pos this]
  · have : s.mayStart = false := by
      refine State.mayStart_eq_false.mpr fun hl => ?_
      exact hq.resolve_left (fun h => h hl)
    rw [job hh hj, if_neg (by simp [this])]

/-- Settles O5. -/
theorem hardResetLeaves : Obligations.HardResetLeaves := by
  intro straps signal s
  have ramp : ∀ k, ({ State.reset with
      pending := s.pending, freeCount := s.freeCount, ownAddress := strapAddress straps, linkUp := signal,
      txHold := s.txHold, ramps := s.ramps.map (fun r => Ramp.reset r.holdInput) } : State).ramp k =
      Ramp.reset (s.ramp k).holdInput := fun k => by simp [State.ramp]
  refine ⟨_, rfl, ?_, rfl, rfl, rfl, rfl, rfl, rfl, rfl, rfl, rfl, rfl, rfl, rfl, rfl, rfl, rfl, fun _ => rfl, fun _ => rfl,
    fun _ => rfl, fun _ => rfl, rfl, fun k => ?_, rfl, rfl, rfl⟩
  · simp [strapAddress, nodeOk]
  · rw [ramp]
    exact ⟨rfl, rfl, rfl, rfl, rfl, rfl, rfl, rfl, rfl, rfl, rfl, rfl, rfl, rfl, rfl, rfl, rfl, rfl, rfl, rfl, rfl, rfl,
      fun l => ⟨Ramp.head_reset _ l, Ramp.lane_reset _ l⟩, rfl⟩

/-! ## Requests on the ring, the site and the limits -/

/-- Settles O10. -/
theorem ringStatusReadsAndClears : Obligations.RingStatusReadsAndClears :=
  fun q s => ⟨_, rfl, State.reply_repliesOnly (s.took (.ringStatus q)).droppedCleared q 0x50 .done _⟩

/-- One reply, its body spelt otherwise. -/
theorem State.reply_repliesOnly_of {body body' : List Byte} (s : State) (q : Request) (code : Nat) (x : Result)
    (h : body = body') : s.repliesOnly (s.reply q code x body) q code x body' := h ▸ s.reply_repliesOnly q code x body

/-- Settles O15. -/
theorem identifyAnswersTheIdentity : Obligations.IdentifyAnswersTheIdentity := by
  intro q s
  refine ⟨_, rfl, State.reply_repliesOnly_of _ _ _ _ ?_⟩
  simp only [State.identity, State.took_keeps]
  rfl

theorem within_eq_false {lo hi n : Nat} : within lo hi n = false ↔ n < lo ∨ hi < n := by
  simp only [within, Bool.and_eq_false_iff, decide_eq_false_iff_not, not_le]

/-- The lowest failing field of a list of checks, field by field. -/
theorem lowestFailing_cons_within (n lo hi x : Nat) (rest : List (Nat × Bool)) :
    lowestFailing ((n, within lo hi x) :: rest) = if x < lo ∨ hi < x then some n else lowestFailing rest := by
  simp only [lowestFailing]
  by_cases h : within lo hi x = true
  · rw [if_pos h, if_neg (fun hn => by rw [within_eq_false.mpr hn] at h; cases h)]
  · rw [if_neg h, if_pos (within_eq_false.mp (by simpa using h))]

theorem State.siteWritten_spec (u : State) (q : Request) (rec : SiteRecord) :
    if rec.report < 1 ∨ 127 < rec.report then u.repliesOnly (u.siteWritten q rec) q 0x02 .badValue [u8 1]
    else if rec.refresh < 5 ∨ 50 < rec.refresh then u.repliesOnly (u.siteWritten q rec) q 0x02 .badValue [u8 2]
    else if rec.confirm < 5 ∨ 50 < rec.confirm then u.repliesOnly (u.siteWritten q rec) q 0x02 .badValue [u8 3]
    else { u with site := ⟨rec.report, rec.refresh, rec.confirm⟩ }.repliesOnly (u.siteWritten q rec) q 0x02 .done [] := by
  simp only [State.siteWritten, siteFault, lowestFailing_cons_within]
  split_ifs
  · exact u.reply_repliesOnly _ _ _ _
  · exact u.reply_repliesOnly _ _ _ _
  · exact u.reply_repliesOnly _ _ _ _
  · exact State.reply_repliesOnly _ _ _ _ _

theorem State.limitsWritten_spec (u : State) (q : Request) (rec : LimitsRecord) :
    let out (lo hi n : Nat) : Prop := n < lo ∨ hi < n
    let t := u.limitsWritten q rec
    if out 10 600 rec.stuckOn then u.repliesOnly t q 0x04 .badValue [u8 1]
    else if out 2 15 rec.chatter then u.repliesOnly t q 0x04 .badValue [u8 2]
    else if out 1 30 rec.timeout then u.repliesOnly t q 0x04 .badValue [u8 3]
    else if out 100 3000 rec.floor then u.repliesOnly t q 0x04 .badValue [u8 4]
    else if out 1 15 rec.fail then u.repliesOnly t q 0x04 .badValue [u8 5]
    else if out 0 255 rec.recovery then u.repliesOnly t q 0x04 .badValue [u8 6]
    else if out 1 20 rec.hold then u.repliesOnly t q 0x04 .badValue [u8 7]
    else
      { u with limits := ⟨rec.stuckOn, rec.chatter, rec.timeout, rec.floor, rec.fail, rec.recovery, rec.hold⟩ }.repliesOnly
        t q 0x04 .done [] := by
  simp only [State.limitsWritten, limitsFault, lowestFailing_cons_within]
  split_ifs
  all_goals exact State.reply_repliesOnly _ _ _ _ _

/-- Settles O16. -/
theorem settingsRecordsAreWrittenWhole : Obligations.SettingsRecordsAreWrittenWhole := by
  refine ⟨fun q rec s => ⟨⟨_, rfl, State.siteWritten_spec _ q rec⟩, _, rfl, State.reply_repliesOnly_of _ _ _ _ ?_⟩,
    fun q rec s => ⟨⟨_, rfl, State.limitsWritten_spec _ q rec⟩, _, rfl, State.reply_repliesOnly_of _ _ _ _ ?_⟩⟩
  all_goals
    simp only [State.took_keeps]
    rfl

/-! ## Requests of a ramp -/

theorem State.onRamp_of_subject {q : Request} {k : Fin 4} (h : q.subject = k.val) (code : Nat) (f : Fin 4 → State → State)
    (s : State) : State.onRamp q code f s = f k s := by
  have hk : q.subject < 4 := h ▸ k.isLt
  rw [State.onRamp, dif_pos hk]
  congr 1
  exact Fin.ext h

theorem State.onRamp_of_not {q : Request} (h : 4 ≤ q.subject) (code : Nat) (f : Fin 4 → State → State) (s : State) :
    State.onRamp q code f s = s.badValue q code 0 := by
  rw [State.onRamp, dif_neg (by omega)]

/-- Settles O37. -/
theorem statusIsReadAndCleared : Obligations.StatusIsReadAndCleared := by
  refine ⟨fun q s hq => ⟨⟨_, rfl, ?_⟩, _, rfl, ?_⟩, fun q k s hq => ⟨⟨_, rfl, ?_⟩, _, rfl, ?_⟩⟩
  · rw [State.onRamp_of_not hq]
    exact State.reply_repliesOnly _ _ _ _ _
  · rw [State.onRamp_of_not hq]
    exact State.reply_repliesOnly _ _ _ _ _
  · rw [State.onRamp_of_subject hq]
    refine State.reply_repliesOnly_of _ _ _ _ ?_
    simp only [Ramp.statusBody, State.ramp_took]
    have hret : (s.ramp k).state.returnCode =
        if (s.ramp k).state = .suspended .fallback then 3 else if (s.ramp k).state.isSuspended then 2 else 0xFF := by
      cases (s.ramp k).state with
      | suspended h => cases h <;> simp [RampState.returnCode, RampState.isSuspended]
      | _ => simp [RampState.returnCode, RampState.isSuspended]
    have hfault : bitValue (s.ramp k).startFault.isSome 1 = if (s.ramp k).startFault = none then 0 else 1 := by
      cases (s.ramp k).startFault <;> rfl
    rw [hret, hfault]
    rfl
  · rw [State.onRamp_of_subject hq]
    exact (((s.took _).rampSet_refl k).updRamp _).reply _ _ _ _

theorem RampState.active_eq_true {x : RampState} : x.active = true ↔ ¬(x = .dark ∨ x = .clearing) := by
  cases x <;> simp [RampState.active]

/-- Settles O46. -/
theorem shareIsStored : Obligations.ShareIsStored := by
  intro q reduction lifetime k s hq
  refine ⟨_, rfl, ?_⟩
  rw [State.onRamp_of_subject hq]
  dsimp only
  generalize s.took _ = u
  simp only [State.shared, within_eq_false]
  split
  · refine ⟨(State.reply_tells u q 0x39 .badValue [u.freeByte]), ?_⟩
    have h := (State.reply_repliesOnly u q 0x39 .badValue [u.freeByte]).2
    simp only [State.badValueUnstated, State.drew]
    conv_lhs => rw [h]
  · split
    · rename_i hd
      rw [if_neg (fun ha => RampState.active_eq_true.mp ha hd)]
      exact State.reply_repliesOnly _ _ _ _ _
    · rename_i hd
      rw [if_pos (RampState.active_eq_true.mpr hd)]
      exact ((u.rampSet_refl k).updRamp _).reply _ _ _ _

/-! ## Faults and jobs -/

theorem RampState.fallbackOrHeld_iff {x : RampState} :
    x.fallbackOrHeld = true ↔ x = .fallback ∨ x = .suspended .fallback := by
  cases x with
  | suspended h => cases h <;> simp [RampState.fallbackOrHeld]
  | _ => simp [RampState.fallbackOrHeld]

/-- R94: what setting fault pending does. -/
theorem Ramp.setFaultPending_eq (r : Ramp) : r.setFaultPending = { r with
    faultPending := true
    recovery := if r.state = .fallback ∨ r.state = .suspended .fallback then 0 else r.recovery
    clock := { r.clock with
      staged := if (r.state = .fallback ∨ r.state = .suspended .fallback) ∧
        (r.clock.staged.map (fun x => x.mark)) = some .returning then none else r.clock.staged } } := by
  simp only [Ramp.setFaultPending]
  by_cases h : r.state = .fallback ∨ r.state = .suspended .fallback
  · rw [if_pos (RampState.fallbackOrHeld_iff.mpr h)]
    simp only [h, true_and, if_true]
    congr 2
    cases r.clock.staged <;> simp
  · rw [if_neg (fun hf => h (RampState.fallbackOrHeld_iff.mp hf))]
    simp only [h, false_and, if_false]

/-- Settles O29. -/
theorem stackFlagAndFaultPending : Obligations.StackFlagAndFaultPending := by
  refine ⟨Ramp.setFaultPending_eq, fun k s => ?_⟩
  have h1 := (s.rampSet_refl k).updRamp Ramp.recordStack
  dsimp only
  simp only [State.stackFlag]
  cases hp : s.topPlan k with
  | none =>
    rw [if_neg (by simp)]
    exact h1
  | some p =>
    by_cases hf : p.unmasked.stack = true ∧ (s.ramp k).state.active = true
    · have hc : (p.unmasked.stack && (s.ramp k).state.active) = true := by simp [hf]
      obtain ⟨hm, ha⟩ := hf
      obtain ⟨hd, hc'⟩ := not_or.mp (RampState.active_eq_true.mp ha)
      rw [if_pos ⟨by simp [hm], hd, hc'⟩]
      have h2 := (h1.updRamp Ramp.setFaultPending).offerFault .stack .onlyStack .onlyStack (s.ramp k).top
      simp only [hc, if_true]
      have hstate : (s.ramp k).recordStack.setFaultPending.state = (s.ramp k).state := by simp [Ramp.recordStack]
      rw [hstate] at h2
      exact h2
    · have hc : ¬(p.unmasked.stack && (s.ramp k).state.active) = true := by simpa using hf
      rw [if_neg]
      · simp only [hc]
        exact h1
      · rintro ⟨hm, hd, hcl⟩
        exact hf ⟨by simpa using hm, RampState.active_eq_true.mpr (not_or.mpr ⟨hd, hcl⟩)⟩

theorem State.startJob_of_jobs {s : State} {j : Job} {rest : List Job} (hr : s.rcu = .idle) (hj : s.jobs = j :: rest) :
    s.startJob = s.jobStarted j := by
  simp only [State.startJob, hr, hj]

/-- Settles O33. -/
theorem jobStartReadsTheSnapshot : Obligations.JobStartReadsTheSnapshot := by
  intro s
  refine ⟨rfl, rfl, fun h => ?_, fun j rest hr hj => ⟨fun hp => ?_, fun p hp => ?_⟩⟩
  · simp only [State.startJob]
    split
    · rename_i hr hj
      rcases h with h | h
      · exact absurd hr h
      · rw [h] at hj
        cases hj
    · rfl
  · rw [State.startJob_of_jobs hr hj]
    simp [State.jobStarted, State.snapshot, hp]
  · rw [State.startJob_of_jobs hr hj]
    cases hi : j.isInterval <;> simp only [State.jobStarted, State.snapshot, hp, hi]
    · have hset : s.ramps.set j.ramp (s.ramp j.ramp) = s.ramps := Four.set_get _ _
      simp only [Bool.false_and, Bool.false_eq_true, if_false, hset]
      rfl
    · rfl

end Sys2Proof.Machine
end

section
/-! The clock's coming due, the start of metering and the entry to DARK, as `State.rampSet` says them (R112, R124, R126). -/

namespace Sys2Proof.Machine

variable {s t w : State} {k : Fin 4} {r r' : Ramp} {a b : List (Nat × List Byte)} {replies : List Outgoing}

/-- `f` with the plan on top, or with whatever plan, if it does nothing to the ramp. -/
theorem State.rampSet.withPlan_or (h : s.rampSet t k r a []) {p : Plan} {f : Plan → Ramp → Ramp}
    (hp : s.plans.get r.top = some p ∨ ∀ q, f q r = r) : s.rampSet (t.withPlan k f) k (f p r) a [] := by
  rcases hp with hp | hf
  · exact h.withPlan hp f
  · rw [hf p]
    cases hq : s.plans.get r.top with
    | none => exact h.withPlan_none hq f
    | some q => exact hf q ▸ h.withPlan hq f

theorem Ramp.pick_of_dark (hd : r.state = .dark) (p : Plan) : r.pick p = r := by
  simp [Ramp.pick, Ramp.waitsAtDue, hd, RampState.meters]

theorem Ramp.faultCheck_of_dark (hd : r.state = .dark) (p : Plan) : r.faultCheck p = r := by
  simp [Ramp.faultCheck, Ramp.takesFault, hd]

/-! ## The clock comes to DUE -/

theorem Ramp.swap_none (h : r.clock.staged = none) : r.swap = r := by
  simp only [Ramp.swap, h]

theorem Ramp.swap_some {x : Staged} (h : r.clock.staged = some x) : r.swap =
    if x.mark = .returning ∧ r.state = .fallback then
      { r.updClock (fun c => { c with active := some (c.limited x.period), staged := none }) with
        state := .metering, recovery := 0 }
    else r.updClock (fun c => { c with active := some (c.limited x.period), staged := none }) := by
  simp only [Ramp.swap, h]

theorem Clock.returnStaged_iff (c : Clock) :
    c.returnStaged = true ↔ (c.staged.map (fun x => x.mark)) = some .returning := by
  simp only [Clock.returnStaged]
  cases c.staged <;> simp

/-- The clock at DUE, before its swap (R124). -/
def Clock.toDue (c : Clock) : Clock := { c with state := .due, frozen := false, awaiting := false }

theorem Ramp.swapDue_none (h : r.clock.staged = none) : r.swapDue = r.updClock Clock.toDue :=
  Ramp.swap_none (r := r.updClock Clock.toDue) h

theorem Ramp.swapDue_some {x : Staged} (h : r.clock.staged = some x) : r.swapDue =
    if x.mark = .returning ∧ r.state = .fallback then
      { r.updClock (fun c => { c.toDue with active := some (c.limited x.period), staged := none }) with
        state := .metering, recovery := 0 }
    else r.updClock (fun c => { c.toDue with active := some (c.limited x.period), staged := none }) :=
  Ramp.swap_some (r := r.updClock Clock.toDue) h

theorem Ramp.state_swapDue (r : Ramp) : r.swapDue.state =
    if r.state = .fallback ∧ r.clock.returnStaged = true then .metering else r.state := by
  simp only [Clock.returnStaged_iff]
  cases hs : r.clock.staged with
  | none =>
    rw [Ramp.swapDue_none hs]
    simp
  | some x =>
    rw [Ramp.swapDue_some hs]
    by_cases hm : x.mark = .returning <;> by_cases hf : r.state = .fallback <;> simp [hm, hf]

theorem Ramp.top_swapDue (r : Ramp) : r.swapDue.top = r.top := by simp [Ramp.top]

theorem Ramp.faultPending_swapDue (r : Ramp) : r.swapDue.faultPending = r.faultPending := by
  simp only [Ramp.swapDue, Ramp.swap]
  split
  · rfl
  · split <;> rfl

theorem Ramp.top_faultCheck (r : Ramp) (p : Plan) : (r.faultCheck p).top = r.top := by simp [Ramp.top]

theorem Ramp.takesFault_iff (r : Ramp) : r.takesFault = true ↔ r.state = .metering ∧ r.faultPending = true := by
  simp [Ramp.takesFault]

theorem Ramp.state_faultCheck (r : Ramp) (p : Plan) : (r.faultCheck p).state =
    if r.state = .metering ∧ r.faultPending = true then .fallback else r.state := by
  simp only [Ramp.faultCheck, Ramp.takesFault_iff]
  split <;> rfl

theorem Ramp.due_eq (r : Ramp) (p : Plan) : r.due p = (r.swapDue.faultCheck p).pick p := rfl

/-- R124, R99, R97, R120: the clock comes to DUE. -/
theorem State.rampSet.comeDue (h : s.rampSet t k r a []) {p : Plan}
    (hp : s.plans.get r.top = some p ∨ r.state = .dark) : s.rampSet (t.comeDue k) k (r.due p) (a ++ dueNotices k r) [] := by
  have hdark : r.state = .dark → r.swapDue.state = .dark := fun hd => by simp [Ramp.state_swapDue, hd]
  have hdark2 : r.state = .dark → (r.swapDue.faultCheck p).state = .dark := fun hd => by
    simp [Ramp.state_faultCheck, hdark hd]
  have h1 := h.updRamp Ramp.swapDue
  have h2 := h1.rampChanged r.state .returned
  have h3 := h2.withPlan_or (p := p) (f := fun p r => r.faultCheck p)
    (hp.imp (fun hp => by rwa [Ramp.top_swapDue]) (fun hd q => Ramp.faultCheck_of_dark (hdark hd) q))
  have h4 := h3.rampChanged r.swapDue.state .fault
  have h5 := h4.withPlan_or (p := p) (f := fun p r => r.pick p)
    (hp.imp (fun hp => by rwa [Ramp.top_faultCheck, Ramp.top_swapDue]) (fun hd q => Ramp.pick_of_dark (hdark2 hd) q))
  have hstate : (t.ramp k).state = r.state := by rw [h.ramp_self]
  have hstate2 : ((((t.updRamp k Ramp.swapDue).rampChanged k r.state .returned)).ramp k).state = r.swapDue.state := by
    rw [h2.ramp_self]
  have hdef : t.comeDue k = ((((t.updRamp k Ramp.swapDue).rampChanged k r.state .returned).withPlan k
      (fun p r => r.faultCheck p)).rampChanged k r.swapDue.state .fault).withPlan k (fun p r => r.pick p) := by
    rw [← hstate2, ← hstate]
    rfl
  rw [hdef]
  have hn : (if r.swapDue.state = r.state then []
        else [rampNotice k r.state r.swapDue.state r.swapDue.requestHold r.swapDue.inputHold .returned]) ++
      (if (r.swapDue.faultCheck p).state = r.swapDue.state then []
        else [rampNotice k r.swapDue.state (r.swapDue.faultCheck p).state (r.swapDue.faultCheck p).requestHold
          (r.swapDue.faultCheck p).inputHold .fault]) = dueNotices k r := by
    simp only [dueNotices, Ramp.state_swapDue, Ramp.state_faultCheck, Ramp.faultPending_swapDue, Ramp.swapDue_keeps,
      Ramp.faultCheck_keeps]
    by_cases hret : r.state = .fallback ∧ r.clock.returnStaged = true
    · cases hf : r.faultPending <;> simp [hret]
    · by_cases hft : r.state = .metering ∧ r.faultPending = true
      · simp [hft]
      · simp only [if_neg hret, if_neg hft, if_true, List.append_nil]
  rw [List.append_assoc, hn] at h5
  exact h5

/-! ## Metering begins -/

/-- R126: the lanes in service enter RED. -/
theorem Ramp.lanesToRed_eq (r : Ramp) (p : Plan) : r.lanesToRed p = { r with lanes := Three.tabulate (fun l =>
    if r.laneInService l then { r.lane l with cycle := .red p.minRed, minRed := some p.minRed, grace := none }
    else r.lane l) } := rfl

theorem State.rampSet.beginMetering (h : s.rampSet t k r a []) {p : Plan} (hp : s.plans.get r.top = some p) :
    s.rampSet (t.beginMetering k) k (r.begun p) (a ++ begunNotices k r) [] := by
  have h1 := h.withPlan hp (fun p r => r.lanesToRed p)
  have hp1 : s.plans.get (r.lanesToRed p).top = some p := hp
  have hstaged : ((t.withPlan k (fun p r => r.lanesToRed p)).ramp k).clock.staged = r.clock.staged := by
    rw [h1.ramp_self]
    rfl
  simp only [State.beginMetering, hstaged, Ramp.begun, begunNotices]
  split
  · exact h1.comeDue (.inl hp1)
  · rw [List.append_nil]
    exact h1.updRamp _

/-! ## The entry to DARK -/

theorem Ramp.lanes_eq (r : Ramp) : Three.tabulate (fun l => r.lane l) = r.lanes :=
  Three.ext_get fun l => Three.get_tabulate _ l

/-- R112: the entry to DARK in closed form. -/
theorem Ramp.toDark_eq (r : Ramp) : r.toDark = r.darkening := by
  have hl : (r.lanesOff.clearCounts).lanes = Three.tabulate (fun l =>
      { (r.lane l).wentOff with greens := 0, served := 0, violations := 0, extra := 0 }) := by
    refine Three.ext_get fun l => ?_
    simp only [Ramp.clearCounts, Three.get_tabulate, Ramp.lane_lanesOff, Lane.wentOff_eq]
    rfl
  simp only [Ramp.toDark, Ramp.darkening, Ramp.head, hl, Ramp.clearCounts_keeps, Ramp.lanesOff_keeps]
  rfl

end Sys2Proof.Machine
end

section
/-! Lanes whose timed states end, and the ramp states that follow, in closed form (R116, R132, R140, R141). -/

namespace Sys2Proof.Machine

variable {r : Ramp} {l : Fin 3} {f : Lane → Lane}

/-! ## Operations on lanes -/

theorem Ramp.lane_onLanes (r : Ramp) (which : List (Fin 3)) (f : Lane → Lane) (j : Fin 3) :
    (r.onLanes which f).lane j = if j ∈ which then f (r.lane j) else r.lane j := by
  simp [Ramp.onLanes, Ramp.lane]

theorem Ramp.updLane_lanes (r : Ramp) (l : Fin 3) (f : Lane → Lane) :
    Three.tabulate (fun j => if j ∈ [l] then f (r.lane j) else r.lane j) = (r.updLane l f).lanes := by
  refine Three.ext_get fun j => ?_
  rw [Three.get_tabulate]
  change _ = (r.updLane l f).lane j
  rw [Ramp.lane_updLane]
  by_cases hj : j = l <;> simp [hj]

/-- A lane that does not go OFF stays where it is in the wait order. -/
theorem Ramp.onLanes_of_ne (h : (f (r.lane l)).cycle ≠ .off) : r.onLanes [l] f = r.updLane l f := by
  have hw : r.waitOrder.filter (fun j => !(decide (j ∈ [l]) && decide ((f (r.lane j)).cycle = .off))) = r.waitOrder := by
    refine List.filter_eq_self.mpr fun j _ => ?_
    by_cases hj : j = l
    · simp [hj, h]
    · simp [hj]
  rw [Ramp.onLanes, Ramp.updLane_lanes, hw]
  rfl

/-- A lane that goes OFF leaves the wait order. -/
theorem Ramp.onLanes_of_off (h : (f (r.lane l)).cycle = .off) : r.onLanes [l] f = (r.updLane l f).leaveWait l := by
  have hw : r.waitOrder.filter (fun j => !(decide (j ∈ [l]) && decide ((f (r.lane j)).cycle = .off))) =
      r.waitOrder.filter (fun j => j != l) := by
    refine List.filter_congr fun j _ => ?_
    by_cases hj : j = l
    · simp [hj, h]
    · simp [hj]
  rw [Ramp.onLanes, Ramp.updLane_lanes, hw]
  rfl

theorem Ramp.updLane_congr {f g : Lane → Lane} (h : f (r.lane l) = g (r.lane l)) : r.updLane l f = r.updLane l g := by
  have h' : f (r.lanes.get l) = g (r.lanes.get l) := h
  simp only [Ramp.updLane, h']

/-- R133, R141: a lane goes OFF. -/
theorem Ramp.laneOff_eq (r : Ramp) (l : Fin 3) : r.laneOff l = r.onLanes [l] Lane.wentOff := by
  rw [Ramp.onLanes_of_off rfl, Ramp.laneOff]
  congr 1
  exact Ramp.updLane_congr (Lane.wentOff_eq _)

/-- R132, R140: a lane's stay in GREEN and AMBER ends. -/
theorem Ramp.endWindow_eq (r : Ramp) (l : Fin 3) : r.endWindow l = r.onLanes [l] Lane.amberEnded := by
  simp only [Ramp.endWindow]
  by_cases hc : (r.lane l).closePending = true
  · have h : (r.lane l).amberEnded = (r.lane l).wentOff := by simp [Lane.amberEnded, hc]
    rw [if_pos hc, Ramp.laneOff_eq, Ramp.onLanes_of_off rfl, Ramp.onLanes_of_off (by rw [h]; rfl), Ramp.updLane_congr h]
  · have h : (r.lane l).amberEnded = (r.lane l).toRed := by simp [Lane.amberEnded, hc, Lane.toRed]
    rw [if_neg hc, Ramp.onLanes_of_ne (by rw [h]; simp [Lane.toRed]), Ramp.updLane_congr h]

theorem Lane.greenEnded_of_zero {x : Lane} (h : x.heldAmber = 0) : x.greenEnded = x.amberEnded := by
  simp [Lane.greenEnded, Lane.amberEnded, h]

/-- R132, R133, R140: a lane's green ends. -/
theorem Ramp.endGreen_eq (r : Ramp) (l : Fin 3) : r.endGreen l = r.onLanes [l] Lane.greenEnded := by
  simp only [Ramp.endGreen]
  by_cases ha : (r.lane l).heldAmber = 0
  · rw [if_pos ha, Ramp.endWindow_eq]
    have h := Lane.greenEnded_of_zero ha
    by_cases ho : (r.lane l).amberEnded.cycle = .off
    · rw [Ramp.onLanes_of_off ho, Ramp.onLanes_of_off (by rw [h]; exact ho), Ramp.updLane_congr h]
    · rw [Ramp.onLanes_of_ne ho, Ramp.onLanes_of_ne (by rw [h]; exact ho), Ramp.updLane_congr h]
  · have h : (r.lane l).greenEnded = { r.lane l with cycle := .amber (r.lane l).heldAmber } := by
      simp [Lane.greenEnded, ha]
    rw [if_neg ha, Ramp.onLanes_of_ne (by rw [h]; simp)]
    exact Ramp.updLane_congr h.symm

/-! ## Several lanes -/

theorem Ramp.onLanes_nil (r : Ramp) (f : Lane → Lane) : r.onLanes [] f = r := by
  simp only [Ramp.onLanes, List.not_mem_nil, if_false, Ramp.lanes_eq, decide_false, Bool.false_and, Bool.not_false,
    List.filter_true]

/-- Operations on lanes apart are one operation. -/
theorem Ramp.onLanes_append (r : Ramp) (a b : List (Fin 3)) (f : Lane → Lane) (h : ∀ l ∈ b, l ∉ a) :
    (r.onLanes a f).onLanes b f = r.onLanes (a ++ b) f := by
  have hlane : ∀ j, j ∈ b → (r.onLanes a f).lane j = r.lane j := fun j hj => by
    rw [Ramp.lane_onLanes, if_neg (h j hj)]
  have hl : Three.tabulate (fun j => if j ∈ b then f ((r.onLanes a f).lane j) else (r.onLanes a f).lane j) =
      Three.tabulate (fun j => if j ∈ a ++ b then f (r.lane j) else r.lane j) := by
    refine Three.ext_get fun j => ?_
    rw [Three.get_tabulate, Three.get_tabulate]
    by_cases hb : j ∈ b
    · simp [hb, hlane j hb]
    · simp [hb, Ramp.lane_onLanes]
  have hw : (r.onLanes a f).waitOrder.filter
      (fun j => !(decide (j ∈ b) && decide ((f ((r.onLanes a f).lane j)).cycle = .off))) =
      r.waitOrder.filter (fun j => !(decide (j ∈ a ++ b) && decide ((f (r.lane j)).cycle = .off))) := by
    simp only [Ramp.onLanes, List.filter_filter]
    refine List.filter_congr fun j _ => ?_
    change (!(decide (j ∈ b) && decide ((f ((r.onLanes a f).lane j)).cycle = .off)) &&
      !(decide (j ∈ a) && decide ((f (r.lane j)).cycle = .off))) = _
    by_cases hb : j ∈ b
    · simp [hb, hlane j hb, h j hb]
    · simp [hb]
  simp only [Ramp.onLanes] at hl hw ⊢
  rw [hl, hw]

/-- R116: the greens of a ramp end, all as the ramp finds them. -/
theorem Ramp.greensEnded_eq_onLanes (r : Ramp) :
    r.greensEnded = r.onLanes (allLanes.filter (fun l => (r.lane l).cycle.isGreen)) Lane.greenEnded := by
  have step : ∀ (a : List (Fin 3)) (l : Fin 3), l ∉ a → (r.onLanes a Lane.greenEnded).greenEnded l =
      r.onLanes (a ++ if (r.lane l).cycle.isGreen then [l] else []) Lane.greenEnded := by
    intro a l hl
    simp only [Ramp.greenEnded]
    rw [Ramp.lane_onLanes, if_neg hl]
    split
    · rw [Ramp.endGreen_eq]
      exact Ramp.onLanes_append _ _ _ _ (by simpa using hl)
    · rw [List.append_nil]
  have h0 := step [] 0 (by simp)
  rw [Ramp.onLanes_nil, List.nil_append] at h0
  rw [Ramp.greensEnded_eq, h0, step _ 1 (by split <;> simp), step _ 2 (by split <;> split <;> simp)]
  congr 1
  simp only [allLanes, List.filter_cons, List.filter_nil]
  cases (r.lane 0).cycle.isGreen <;> cases (r.lane 1).cycle.isGreen <;> cases (r.lane 2).cycle.isGreen <;> rfl

/-- R116, R127, R133: the entry to SUSPENDED in closed form. -/
theorem Ramp.enterSuspended_eq_suspending (r : Ramp) : r.enterSuspended = r.suspending := by
  rw [Ramp.enterSuspended_eq, Ramp.suspending, ← Ramp.greensEnded_eq_onLanes]
  have hc : r.greensEnded.clock = r.clock := r.greensEnded_keeps.2.2.2.2.2.2.2.2.1
  cases hs : r.state <;> simp only [hc]

/-- R133: every lane goes OFF. -/
theorem Ramp.lanesOff_lanes (r : Ramp) : r.lanesOff.lanes = Three.tabulate (fun l => (r.lane l).wentOff) := by
  refine Three.ext_get fun l => ?_
  rw [Three.get_tabulate, ← Lane.wentOff_eq]
  exact r.lane_lanesOff l

/-- R111: what STOP makes of a ramp, but for the clear timer. -/
theorem Ramp.toClearing_eq (r : Ramp) : r.toClearing = { r with
    state := .clearing, warningTimer := none, requestHold := false, inputHold := false, share := none,
    carriedRate := none, intervalTimer := none, faultPending := false, recovery := 0, waitOrder := [],
    lanes := Three.tabulate (fun l => (r.lane l).wentOff),
    clock := ⟨.stopped, false, false, none, none, none, r.clock.computed⟩ } := by
  simp only [Ramp.toClearing, Ramp.lanesOff_lanes, Ramp.lanesOff_keeps]
  rfl

end Sys2Proof.Machine
end

section
/-! Events on one ramp that leave its heads' targets, or that may take it to DARK (R112, R113, R141, R147). -/

namespace Sys2Proof.Machine

variable {s s0 t u : State} {k : Fin 4} {r r0 : Ramp} {a : List (Nat × List Byte)} {replies : List Outgoing}

/-! ## Heads whose targets were not decided -/

theorem State.headsDue_nil (h : ∀ j l, (s0.ramp j).headKey l = (t.ramp j).headKey l) : s0.headsDue t [] = [] := by
  refine List.filter_eq_nil_iff.mpr fun x _ => ?_
  simp [h]

/-- R147: an event that decided no target tells no head. -/
theorem State.settled_same (h : ∀ j l, (s0.ramp j).headKey l = (t.ramp j).headKey l) : State.settled s0 t = t := by
  rw [State.settled_eq_told, State.told_eq_toldHeads, State.headsDue_nil h, State.toldHeads_nil]

theorem State.rampSet.settled_same (h : s.rampSet t k r a []) (hk : ∀ l, (s.ramp k).headKey l = r.headKey l) :
    s.rampSet (State.settled s t) k r a [] := by
  rwa [State.settled_same]
  intro j l
  rw [h.ramp]
  split
  · rename_i hj
    rw [hj, hk l]
  · rfl

theorem State.settled_self (s : State) : State.settled s s = s := State.settled_same fun _ _ => rfl

/-- The reply that ends an event on ramp `k` whose heads keep their targets. -/
theorem State.rampSet.settled_reply_same (h : s.rampSet t k r a []) (hk : ∀ l, (s.ramp k).headKey l = r.headKey l)
    (q : Request) (code : Nat) (x : Result) (body : List Byte) :
    s.rampSet ((State.settled s t).reply q code x body) k r a [replyOf s q code x body] :=
  (h.settled_same hk).reply q code x body

/-! ## The entry to DARK -/

/-- What an event offered depends on the queue, the addresses and the sequence number before it alone. -/
theorem State.tells_base {s s' t : State} (h : s.tells t a replies) (hn : s'.normal = s.normal)
    (hd : s'.normalDropped = s.normalDropped) (hq : s'.sequence = s.sequence) (hs : s'.site = s.site)
    (ho : s'.ownAddress = s.ownAddress) : s'.tells t a replies := by
  have hf : noticeFrames s' 0 a = noticeFrames s 0 a := noticeFrames_congr hs ho 0 0 (by simp [hq]) a
  obtain ⟨h1, h2, h3⟩ := h
  refine ⟨?_, ?_, ?_⟩
  · rw [hn, hf, h1]
  · rw [hd, hn, hf, h2]
  · rw [hq, h3]

theorem State.rampSet.clearAccumulators (h : s.rampSet t k r a replies) :
    (s.clearAccumulators k).rampSet (t.clearAccumulators k) k r a replies := by
  refine ⟨State.tells_congr (State.tells_base h.1 rfl rfl rfl rfl rfl) rfl rfl rfl, ?_⟩
  conv_lhs => rw [h.2]
  rfl

theorem State.rampSet.enterDark (h : s.rampSet t k r a []) :
    (s.clearAccumulators k).rampSet (t.enterDark k) k r.darkening a [] :=
  Ramp.toDark_eq r ▸ (h.updRamp Ramp.toDark).clearAccumulators

theorem State.ramps_darkened (s : State) (k : Fin 4) (dark : Bool) : (s.darkened k dark).ramps = s.ramps := by
  cases dark <;> rfl

/-- R112, R113: what ramp `k` becomes where `dark` says that it goes DARK for want of a lane, with the notice. -/
def Ramp.darkIf (r : Ramp) (dark : Bool) : Ramp := if dark then r.darkening else r

/-- R113: the RAMP notice of a ramp that goes DARK for want of a lane. -/
def noLaneNotices (k : Fin 4) (before : RampState) (dark : Bool) : List (Nat × List Byte) :=
  if dark then [rampNotice k before .dark false false .noLane] else []

/-- R113: the NO_LANE test, with its notice. -/
theorem State.rampSet.noLane (h : s.rampSet t k r a []) {dark : Bool}
    (hd : dark = true ↔ r.state ≠ .dark ∧ r.inService = false) :
    (s.darkened k dark).rampSet (t.noLane k) k (r.darkIf dark) (a ++ noLaneNotices k r.state dark) [] := by
  simp only [State.noLane, State.noLaneTest, h.ramp_self, ← hd]
  cases dark with
  | true =>
    have hn : r.darkening.state ≠ r.state := Ne.symm (hd.mp rfl).1
    have h1 := h.enterDark.rampChanged r.state .noLane
    rw [if_neg hn] at h1
    exact h1
  | false =>
    have h1 := h.rampChanged r.state .noLane
    rw [if_pos rfl] at h1
    exact h1

theorem Ramp.landsDark_iff {r0 r : Ramp} : r0.landsDark r = true ↔
    allLanes.any (fun l => (r0.lane l).isOpen && !(r.lane l).isOpen) = true ∧ r.state ≠ .dark ∧ r.inService = false := by
  simp only [Ramp.landsDark, Bool.and_eq_true, decide_eq_true_eq, Bool.not_eq_true', and_assoc]

/-- R113, R141: the NO_LANE test where a closure landed. -/
theorem State.rampSet.landed (h : s.rampSet t k r a []) (h0 : s0.ramp k = r0) :
    (s.darkened k (r0.landsDark r)).rampSet (State.landed k s0 t) k (r.darkIf (r0.landsDark r))
      (a ++ noLaneNotices k r.state (r0.landsDark r)) [] := by
  simp only [State.landed, h.ramp_self, h0]
  by_cases hl : (allLanes.any (fun l => (r0.lane l).isOpen && !(r.lane l).isOpen)) = true
  · rw [if_pos hl]
    exact h.noLane (Ramp.landsDark_iff.trans (and_iff_right hl))
  · have hd : r0.landsDark r = false := Bool.eq_false_iff.mpr fun hd => hl (Ramp.landsDark_iff.mp hd).1
    rw [if_neg hl, hd]
    simpa [State.darkened, noLaneNotices, Ramp.darkIf] using h

/-! ## The pick made again -/

/-- R125: a lane of ramp `k` left GREEN or AMBER. -/
def Ramp.freed (r0 r : Ramp) : Bool := allLanes.any (fun l => (r0.lane l).cycle.busy && !(r.lane l).cycle.busy)

theorem Ramp.freed_self (r : Ramp) : r.freed r = false := by simp [Ramp.freed, allLanes]

theorem State.rerunFreed_eq (s0 s : State) : State.rerunFreed s0 s =
    allRamps.foldl (fun s k => if (s0.ramp k).freed (s.ramp k) then s.rerunPick k else s) s := rfl

/-- R125: where lanes of ramp `k` alone moved, the waiting pick is made again of ramp `k` alone. -/
theorem State.rerunFreed_one (h : s.rampSet t k r a []) (h0 : s0.ramps = s.ramps) :
    State.rerunFreed s0 t = if (s0.ramp k).freed r then t.rerunPick k else t := by
  have hother : ∀ (x : State) (j : Fin 4), j ≠ k → x.ramp j = s.ramp j →
      (if (s0.ramp j).freed (x.ramp j) then x.rerunPick j else x) = x := by
    intro x j _ hx
    rw [hx, State.ramp_of_ramps h0, Ramp.freed_self]
    rfl
  have hfold : ∀ (l : List (Fin 4)) (x : State), (∀ j, j ≠ k → x.ramp j = s.ramp j) → k ∉ l →
      l.foldl (fun s k => if (s0.ramp k).freed (s.ramp k) then s.rerunPick k else s) x = x := by
    intro l
    induction l with
    | nil => exact fun _ _ _ => rfl
    | cons j l ih =>
      intro x hx hk
      have hj : j ≠ k := fun hj => hk (hj ▸ List.mem_cons_self)
      rw [List.foldl_cons, hother x j hj (hx j hj)]
      exact ih x hx fun hm => hk (List.mem_cons_of_mem j hm)
  obtain ⟨pre, post, hsplit, hpre, hpost⟩ : ∃ pre post, allRamps = pre ++ k :: post ∧ k ∉ pre ∧ k ∉ post := by
    clear * -
    fin_cases k
    · exact ⟨[], [1, 2, 3], rfl, by decide, by decide⟩
    · exact ⟨[0], [2, 3], rfl, by decide, by decide⟩
    · exact ⟨[0, 1], [3], rfl, by decide, by decide⟩
    · exact ⟨[0, 1, 2], [], rfl, by decide, by decide⟩
  have hramp : ∀ j, j ≠ k → t.ramp j = s.ramp j := fun j hj => by rw [h.ramp, if_neg hj]
  rw [State.rerunFreed_eq, hsplit, List.foldl_append, hfold pre t hramp hpre, List.foldl_cons, h.ramp_self]
  refine hfold post _ (fun j hj => ?_) hpost
  split
  · rw [h.rerunPick.ramp, if_neg hj]
  · exact hramp j hj

end Sys2Proof.Machine
end

section
/-! RESUME, the stack requests, the release due, and the warning and clear timers: O38, O30, O48, O45. -/

namespace Sys2Proof.Machine

variable {s t u : State} {k : Fin 4} {r : Ramp} {a : List (Nat × List Byte)} {replies : List Outgoing}

/-! ## RESUME -/

/-- Settles O38. -/
theorem resumeStagesAReturn : Obligations.ResumeStagesAReturn := by
  intro q k s hq
  refine ⟨_, rfl, ?_⟩
  rw [State.onRamp_of_subject hq]
  dsimp only
  generalize s.took _ = u
  simp only [State.resumed]
  refine ⟨fun hs => ?_, fun hs p hp => ?_⟩
  · rw [if_neg hs]
    exact State.reply_repliesOnly _ _ _ _ _
  · rw [if_pos hs]
    have h := ((u.rampSet_refl k).withPlan hp Ramp.resumed).reply q 0x36 .done []
    have hc : (u.ramp k).resumeChoice p = if (u.ramp k).lastResult = .accepted
        then (u.ramp k).clock.computed.getD (max (convertRate p p.rInit) (laneFloor p (u.ramp k).openLanes))
        else max (convertRate p p.rInit) (laneFloor p (u.ramp k).openLanes) := by
      simp only [Ramp.resumeChoice]
      cases (u.ramp k).lastResult <;> cases (u.ramp k).clock.computed <;> rfl
    simp only [Ramp.resumed, Ramp.stage, hc] at h
    exact h

/-! ## The stack -/

theorem State.stack_settled (s t : State) (k : Fin 4) : ((State.settled s t).ramp k).stack = (t.ramp k).stack := by
  rw [State.settled_eq_told, State.told_eq_toldHeads, State.ramp_toldHeads]

theorem State.stack_stackFlag (s : State) (k : Fin 4) : ((s.stackFlag k).ramp k).stack = (s.ramp k).stack := by
  have h1 := (s.rampSet_refl k).updRamp Ramp.recordStack
  simp only [State.stackFlag]
  split
  · rw [h1.ramp_self]
    rfl
  · split
    · rw [((h1.updRamp Ramp.setFaultPending).offerFault _ _ _ _).ramp_self, Ramp.setFaultPending_eq]
      rfl
    · rw [h1.ramp_self]
      rfl

theorem State.planRefused_iff {s : State} {plan : Nat} :
    (within 0 15 plan = false ∨ s.planValid plan = false) ↔ (15 < plan ∨ s.plans.get plan = none) := by
  simp [within_eq_false, State.planValid]

/-- R43, R125: a taken change of the stack. -/
theorem State.stackTaken_spec (u : State) (q : Request) (code : Nat) (k : Fin 4) (stack : List Nat) :
    let r : Ramp := { u.ramp k with stack := stack }
    u.rampEvent (u.stackTaken q code k stack) k (((u.plans.get r.top).map (fun p => r.pick p)).getD r) []
      [replyOf u q code .done (stackBytes stack)] := by
  intro r
  have h := ((u.rampSet_refl k).updRamp (fun r => { r with stack := stack })).rerunPick
  have hs : (((u.updRamp k (fun r => { r with stack := stack })).rerunPick k).ramp k).stack = stack := by
    rw [h.ramp_self]
    cases u.plans.get ({ u.ramp k with stack := stack } : Ramp).top with
    | none => rfl
    | some p => simp only [Option.map_some, Option.getD_some, Ramp.pick_keeps]
  have h1 := (h.settled rfl).reply q code .done (stackBytes stack)
  simp only [State.stackTaken, State.stackReply, State.stack_settled, hs]
  exact h1

/-- R42: a refused stack request is told the stack as it stands. -/
theorem State.stackReply_of_stack {stack : List Nat} (h : (u.ramp k).stack = stack) (q : Request) (code : Nat) (x : Result) :
    u.repliesOnly (u.stackReply q code k x) q code x (stackBytes stack) :=
  h ▸ u.reply_repliesOnly q code x (stackBytes (u.ramp k).stack)

/-- Settles O30. -/
theorem stackRequestsChangeTheStack : Obligations.StackRequestsChangeTheStack := by
  intro q plan k s hq
  refine ⟨⟨_, rfl, ?_⟩, ⟨_, rfl, ?_⟩, _, rfl, ?_⟩ <;> rw [State.onRamp_of_subject hq] <;> dsimp only <;>
    generalize s.took _ = u
  · have hdepth : Config.stackDepth = 4 := rfl
    simp only [State.pushed, State.planRefused_iff, hdepth]
    split
    · exact State.stackReply_of_stack rfl q 0x22 .badValue
    · split
      · exact State.stackReply_of_stack (u.stack_stackFlag k) q 0x22 .stackFault
      · exact u.stackTaken_spec q 0x22 k _
  · simp only [State.popped]
    split
    · exact State.stackReply_of_stack (u.stack_stackFlag k) q 0x23 .stackFault
    · have he : u.planValid (u.ramp k).exposed = false ↔
          u.plans.get ((u.ramp k).stack.dropLast.getLast?.getD 0) = none := by
        simp [State.planValid, Ramp.exposed]
      simp only [he]
      split
      · exact State.stackReply_of_stack rfl q 0x23 .badValue
      · exact u.stackTaken_spec q 0x23 k _
  · simp only [State.baseSet, State.planRefused_iff]
    split
    · exact State.stackReply_of_stack rfl q 0x24 .badValue
    · exact u.stackTaken_spec q 0x24 k _

/-! ## The release due -/

theorem Clock.counting_iff (c : Clock) : c.counting = true ↔ c.frozen = false ∧ ∃ n, c.state = .running n := by
  simp only [Clock.counting]
  split
  · rename_i n h
    simp [h]
  · rename_i h
    simpa using fun _ n hn => h n hn

theorem Clock.limited_eq (c : Clock) (period : Nat) :
    c.limited period = (c.flush.map (fun f => min f period)).getD period := by
  simp only [Clock.limited]
  cases c.flush with
  | none => rfl
  | some f =>
    simp only [Option.map_some, Option.getD_some]
    split <;> omega

/-- R97, R129: the entry to FALLBACK. -/
theorem Ramp.enterFallback_eq (r : Ramp) (p : Plan) : r.enterFallback p = { r with
    faultPending := false, recovery := 0, state := .fallback,
    clock := { r.clock with
      active := some p.fallbackPeriod,
      staged := r.clock.flush.bind (fun f => if f < p.fallbackPeriod then some ⟨f, .flush⟩ else none) } } := by
  simp only [Ramp.enterFallback]
  cases r.clock.flush <;> rfl

/-- R124, R99: the swap, field by field. -/
theorem Ramp.swapDue_eq (r : Ramp) :
    let returns := r.state = .fallback ∧ (r.clock.staged.map (fun x => x.mark)) = some .returning
    r.swapDue = { r with
      state := if returns then .metering else r.state
      recovery := if returns then 0 else r.recovery
      clock := { r.clock with
        state := .due, frozen := false, awaiting := false
        active := if r.clock.staged = none then r.clock.active else r.clock.staged.map (fun x => r.clock.limited x.period)
        staged := none } } := by
  dsimp only
  cases hs : r.clock.staged with
  | none =>
    rw [Ramp.swapDue_none hs]
    simp [Ramp.updClock, Clock.toDue, hs]
  | some x =>
    rw [Ramp.swapDue_some hs]
    by_cases hr : x.mark = .returning ∧ r.state = .fallback
    · simp [hr, Ramp.updClock, Clock.toDue]
    · have hr' : ¬(r.state = .fallback ∧ x.mark = .returning) := fun h => hr h.symm
      simp [hr, hr', Ramp.updClock, Clock.toDue]

/-- R124, R96, R97, R99, R129: the release due, field by field, but for its pick. -/
theorem Ramp.faultCheck_swapDue_eq (p : Plan) (r : Ramp) :
    let returns := r.state = .fallback ∧ (r.clock.staged.map (fun x => x.mark)) = some .returning
    let state := if returns then .metering else r.state
    let faults := state = .metering ∧ r.faultPending = true
    r.swapDue.faultCheck p = { r with
      state := if faults then .fallback else state
      recovery := if returns ∨ faults then 0 else r.recovery
      faultPending := if faults then false else r.faultPending
      clock := { r.clock with
        state := .due
        frozen := false
        awaiting := false
        active := if faults then some p.fallbackPeriod
          else if r.clock.staged = none then r.clock.active
          else r.clock.staged.map (fun x => r.clock.limited x.period)
        staged := if faults then
            r.clock.flush.bind (fun f => if f < p.fallbackPeriod then some ⟨f, .flush⟩ else none)
          else none } } := by
  intro returns state faults
  have hf : r.swapDue.takesFault = true ↔ faults := by
    rw [Ramp.takesFault_iff, Ramp.faultPending_swapDue, Ramp.swapDue_eq]
  rw [Ramp.faultCheck, Ramp.enterFallback_eq]
  by_cases h : faults
  · rw [if_pos (hf.mpr h), Ramp.swapDue_eq]
    simp only [h, if_true, or_true]
  · rw [if_neg fun hn => h (hf.mp hn), Ramp.swapDue_eq]
    simp only [h, if_false, or_false]
    rfl

/-- Settles O48. -/
theorem releaseDueSwapsAndChecks : Obligations.ReleaseDueSwapsAndChecks := by
  refine ⟨fun k s => ⟨_, rfl, fun hn => ?_, fun hr p hp => ?_⟩, fun p r => ?_⟩
  · exact if_neg fun hc => hn ((Clock.counting_iff _).mp hc)
  · rw [if_pos ((Clock.counting_iff _).mpr hr)]
    have h := ((s.rampSet_refl k).comeDue hp).settled rfl
    rwa [List.nil_append] at h
  · dsimp only
    rw [Ramp.due_eq, Ramp.faultCheck_swapDue_eq]
    simp only [Clock.limited_eq]

/-! ## The warning and clear timers -/

theorem State.detector_told (s t : State) (i : Nat) : (State.settled s t).detector i = t.detector i := by
  rw [State.settled_eq_told]
  rfl

/-- Settles O45. -/
theorem warningAndClearTimesEnd : Obligations.WarningAndClearTimesEnd := by
  intro k s
  refine ⟨⟨_, rfl, fun hn => ?_, fun hs hw p hp => ?_⟩, _, rfl, fun hn => ?_, fun hs hc => ?_⟩
  · refine if_neg ?_
    rintro ⟨hs, hw⟩
    rcases hn with hn | hn
    · exact hn hs
    · simp [hn] at hw
  · rw [if_pos ⟨hs, Option.isSome_iff_ne_none.mpr hw⟩]
    have h1 := ((s.rampSet_refl k).updRamp (fun r => { r with state := .metering, warningTimer := none })).rampChanged
      (s.ramp k).state .warningEnd
    have h2 := h1.beginMetering (p := p) hp
    rw [hs, if_neg RampState.noConfusion] at h2
    have h3 := h2.settled rfl
    simp only [State.warningEnded, hs]
    simpa using h3
  · refine if_neg ?_
    rintro ⟨hs, hw⟩
    rcases hn with hn | hn
    · exact hn hs
    · simp [hn] at hw
  · rw [if_pos ⟨hs, Option.isSome_iff_ne_none.mpr hc⟩]
    have h1 := (s.rampSet_refl k).enterDark.rampChanged (s.ramp k).state .clearEnd
    have hn : (s.ramp k).darkening.state ≠ .clearing := by simp [Ramp.darkening]
    rw [hs, if_neg hn] at h1
    have h2 : (s.clearAccumulators k).rampEvent _ k _ _ _ := h1.settled (s0 := s) rfl
    rw [hs]
    refine ⟨h2, fun i => ?_⟩
    rw [State.detector_told]
    have hd := congrArg State.detectors h1.2
    have hg : ((s.enterDark k).rampChanged k .clearing .clearEnd).detector i = (s.clearAccumulators k).detector i := by
      rw [State.detector, hd]
      rfl
    rw [hg]
    exact Table.get_map _ _ _

end Sys2Proof.Machine
end

section
/-! STOP, the holds and START: O42, O43, O44, O41. -/

namespace Sys2Proof.Machine

variable {s s0 t u : State} {k : Fin 4} {r r0 : Ramp} {a : List (Nat × List Byte)} {p : Plan}

/-! ## STOP -/

theorem Ramp.clearTime_eq (r : Ramp) : r.clearTime = (r.config.map (fun c => c.clear)).getD 0 := by
  simp only [Ramp.clearTime]
  cases r.config <;> rfl

theorem Ramp.toClearing_facts (r : Ramp) :
    r.toClearing.state = .clearing ∧ r.toClearing.requestHold = false ∧ r.toClearing.inputHold = false := by
  rw [Ramp.toClearing_eq]
  exact ⟨rfl, rfl, rfl⟩

/-- R111: a ramp that is stopped, before the clear timer starts: it goes DARK where a landed closure leaves no lane. -/
theorem State.stopLanded (u : State) (k : Fin 4) (hc : (u.ramp k).state ≠ .clearing) :
    let r := u.ramp k
    let dark := r.landsDark r.toClearing
    (u.darkened k dark).rampSet (State.landed k u ((u.updRamp k Ramp.toClearing).rampChanged k r.state .stop)) k
      (r.toClearing.darkIf dark) (rampNotice k r.state .clearing false false .stop :: noLaneNotices k .clearing dark) [] := by
  dsimp only
  obtain ⟨hs, hq, hi⟩ := (u.ramp k).toClearing_facts
  have h1 := ((u.rampSet_refl k).updRamp Ramp.toClearing).rampChanged (u.ramp k).state .stop
  rw [hs, hq, hi, if_neg hc.symm] at h1
  have h2 := h1.landed (s0 := u) rfl
  rw [hs] at h2
  exact h2

/-- Settles O42. -/
theorem stopClearsTheRamp : Obligations.StopClearsTheRamp := by
  intro q k s hq
  refine ⟨_, rfl, ?_⟩
  rw [State.onRamp_of_subject hq]
  dsimp only
  generalize s.took _ = u
  simp only [State.stopped]
  by_cases hd : (u.ramp k).state = .dark ∨ (u.ramp k).state = .clearing
  · rw [if_pos hd, if_neg fun ha => RampState.active_eq_true.mp ha hd]
    exact u.reply_repliesOnly _ _ _ _
  · rw [if_neg hd, if_pos (RampState.active_eq_true.mpr hd), ← Ramp.toClearing_eq, ← Ramp.clearTime_eq]
    have h := u.stopLanded k (not_or.mp hd).2
    simp only [State.stopTaken, State.clearStarted, h.ramp_self]
    cases hdark : (u.ramp k).landsDark (u.ramp k).toClearing with
    | true =>
      simp only [hdark] at h
      have hs : ((u.ramp k).toClearing.darkIf true).state ≠ .clearing := by simp [Ramp.darkIf, Ramp.darkening]
      simp only [hs, ne_eq, not_false_iff, if_true, true_or]
      exact (h.settled (s0 := u) rfl).reply q 0x33 .done []
    | false =>
      simp only [hdark] at h
      have hs : ((u.ramp k).toClearing.darkIf false).state = .clearing := (u.ramp k).toClearing_facts.1
      simp only [hs, ne_eq, not_true, if_false, Bool.false_eq_true, false_or]
      by_cases hc : (u.ramp k).clearTime = 0
      · simp only [if_pos hc]
        have h3 := h.enterDark.rampChanged .clearing .clearEnd
        rw [if_neg (by simp [Ramp.darkIf, Ramp.darkening])] at h3
        exact (h3.settled (s0 := u) rfl).reply q 0x33 .done []
      · simp only [if_neg hc]
        have h3 := ((h.updRamp (fun r => { r with clearTimer := some (u.ramp k).clearTime })).settled (s0 := u) rfl).reply
          q 0x33 .done []
        simp only [Ramp.darkIf, Bool.false_eq_true, if_false, Ramp.toClearing_eq] at h3
        exact h3

/-! ## Holds set -/

theorem replyOf_darkened (s : State) (k : Fin 4) (dark : Bool) (q : Request) (code : Nat) (x : Result) (body : List Byte) :
    replyOf (s.darkened k dark) q code x body = replyOf s q code x body := by
  cases dark <;> rfl

theorem Ramp.landsDark_of_lanes (h : r.lanes = r0.lanes) : r0.landsDark r = false := by
  simp [Ramp.landsDark, Ramp.lane_of_lanes h, allLanes]

theorem RampState.isSuspended_iff {x : RampState} : x.isSuspended = true ↔ ∃ h, x = .suspended h := by
  cases x <;> simp [RampState.isSuspended]

theorem Ramp.suspending_of_suspended (h : r.state.isSuspended = true) : r.suspending = r := by
  obtain ⟨f, hf⟩ := RampState.isSuspended_iff.mp h
  simp only [Ramp.suspending, hf]

/-- R116: a ramp in service that becomes SUSPENDED changes its state and keeps its hold sources. -/
theorem Ramp.suspending_facts (ha : r.state.active = true) (hs : r.state.isSuspended = false) :
    r.suspending.state ≠ r.state ∧ r.suspending.requestHold = r.requestHold ∧ r.suspending.inputHold = r.inputHold := by
  cases h : r.state <;> simp only [h, RampState.active, RampState.isSuspended] at ha hs
  case starting => simp [Ramp.suspending, h]
  case metering => simp [Ramp.suspending, h, Ramp.onLanes]
  case fallback => simp [Ramp.suspending, h, Ramp.onLanes]
  all_goals contradiction

/-- R116: a further hold source of a SUSPENDED ramp. -/
theorem State.rampSet.holdSet_suspended (h : s.rampSet t k r a []) (hs : r.state.isSuspended = true) :
    s.rampSet (t.holdSet k) k r a [] := by
  have h1 := (h.updRamp Ramp.enterSuspended).rampChanged r.state .hold
  rw [Ramp.enterSuspended_eq_suspending, Ramp.suspending_of_suspended hs, if_pos rfl, List.append_nil] at h1
  have h2 := h1.landed (s0 := t) h.ramp_self
  rw [Ramp.landsDark_of_lanes rfl, noLaneNotices, if_neg (by simp), List.append_nil] at h2
  simp only [State.holdSet, h.ramp_self]
  exact h2

/-- R116, R113: the first hold source of a ramp in service. -/
theorem State.rampSet.holdSet (h : s.rampSet t k r a []) (ha : r.state.active = true) (hs : r.state.isSuspended = false) :
    let dark := r.landsDark r.suspending
    (s.darkened k dark).rampSet (t.holdSet k) k (r.suspending.darkIf dark)
      (a ++ rampNotice k r.state r.suspending.state r.requestHold r.inputHold .hold ::
        noLaneNotices k r.suspending.state dark) [] := by
  obtain ⟨hne, hq, hi⟩ := Ramp.suspending_facts ha hs
  have h1 := (h.updRamp Ramp.enterSuspended).rampChanged r.state .hold
  rw [Ramp.enterSuspended_eq_suspending, if_neg hne, hq, hi] at h1
  have h2 := h1.landed (s0 := t) h.ramp_self
  simp only [State.holdSet, h.ramp_self]
  rw [List.append_assoc, List.singleton_append] at h2
  exact h2

/-- R114 to R116: a hold source of a ramp in service set, and the heads told. -/
theorem State.rampSet.held (h : s.rampSet t k r [] []) (ha : r.state.active = true)
    (hk : ∀ l, (s.ramp k).headKey l = r.headKey l) :
    if r.state.isSuspended then s.rampSet (State.settled s (t.holdSet k)) k r [] []
    else
      let after := r.suspending
      let dark := r.landsDark after
      (s.darkened k dark).rampEvent (State.settled s (t.holdSet k)) k (if dark then after.darkening else after)
        (rampNotice k r.state after.state r.requestHold r.inputHold .hold ::
          (if dark then [rampNotice k after.state .dark false false .noLane] else [])) [] := by
  cases hs : r.state.isSuspended with
  | true => exact (h.holdSet_suspended hs).settled_same hk
  | false => exact (h.holdSet ha hs).settled (State.ramps_darkened _ _ _).symm

theorem State.inputAsserted_mode (ha : (t.ramp k).state.active = true) {m : HoldMode} (hm : (t.ramp k).holdMode = some m)
    (hi : m ≠ .ignored) : t.inputAsserted k = (t.updRamp k (fun r => { r with inputHold := true })).holdSet k := by
  simp only [State.inputAsserted, ha, hm]
  cases m with
  | level => rfl
  | latched => rfl
  | ignored => exact absurd rfl hi

theorem State.inputAsserted_none (h : ¬((t.ramp k).state.active = true ∧ (t.ramp k).holdMode ≠ none ∧
    (t.ramp k).holdMode ≠ some .ignored)) : t.inputAsserted k = t := by
  simp only [State.inputAsserted]
  split
  · rename_i ha
    split
    · rename_i hm
      exact absurd ⟨ha, by simp [hm], by simp [hm]⟩ h
    · rename_i hm
      exact absurd ⟨ha, by simp [hm], by simp [hm]⟩ h
    · rfl
  · rfl

/-- Settles O43. -/
theorem holdsSuspendTheRamp : Obligations.HoldsSuspendTheRamp := by
  intro q k s hq
  refine ⟨⟨_, rfl, ?_⟩, _, rfl, ?_⟩
  · rw [State.onRamp_of_subject hq]
    dsimp only
    generalize s.took _ = u
    simp only [State.held]
    by_cases hd : (u.ramp k).state = .dark ∨ (u.ramp k).state = .clearing
    · rw [if_pos hd, if_neg fun ha => RampState.active_eq_true.mp ha hd]
      exact u.reply_repliesOnly _ _ _ _
    · have ha := RampState.active_eq_true.mpr hd
      rw [if_neg hd, if_pos ha]
      have h := ((u.rampSet_refl k).updRamp (fun r => { r with requestHold := true })).held ha (fun _ => rfl)
      split at h <;> rename_i hs
      · rw [if_pos hs]
        exact h.reply q 0x34 .done []
      · rw [if_neg hs]
        have h1 := h.reply q 0x34 .done []
        rw [replyOf_darkened] at h1
        exact h1
  · by_cases hi : (s.ramp k).holdInput = true
    · simp only [hi, if_true]
    · simp only [hi, if_false, Bool.false_eq_true]
      have h := (s.rampSet_refl k).updRamp (fun r => { r with holdInput := true })
      have hmode : (s.ramp k).holdMode = none ↔ (s.ramp k).config = none := by simp [Ramp.holdMode]
      by_cases hn : (s.ramp k).state = .dark ∨ (s.ramp k).state = .clearing ∨ (s.ramp k).config = none ∨
          (s.ramp k).holdMode = some .ignored
      · rw [if_pos hn, State.inputAsserted_none]
        · exact h.settled_same (fun _ => rfl)
        · rw [h.ramp_self]
          rintro ⟨ha, h1, h2⟩
          obtain ⟨hd, hc⟩ := not_or.mp (RampState.active_eq_true.mp ha)
          rcases hn with hn | hn | hn | hn
          · exact hd hn
          · exact hc hn
          · exact h1 (hmode.mpr hn)
          · exact h2 hn
      · obtain ⟨hd, hc, hcfg, hig⟩ : (s.ramp k).state ≠ .dark ∧ (s.ramp k).state ≠ .clearing ∧
            (s.ramp k).config ≠ none ∧ (s.ramp k).holdMode ≠ some .ignored := by simpa only [not_or] using hn
        have ha : (s.ramp k).state.active = true := RampState.active_eq_true.mpr (not_or.mpr ⟨hd, hc⟩)
        obtain ⟨m, hm⟩ := Option.ne_none_iff_exists'.mp (hcfg ∘ hmode.mp)
        rw [if_neg hn, State.inputAsserted_mode (m := m)]
        · exact (h.updRamp (fun r => { r with inputHold := true })).held ha (fun _ => rfl)
        · rw [h.ramp_self]
          exact ha
        · rw [h.ramp_self]
          exact hm
        · rintro rfl
          exact hig hm

/-! ## Holds ended -/

/-- R117: the ramp back in the state that it was SUSPENDED from. -/
def Ramp.backIn (state : RampState) (r : Ramp) : Ramp := { r with state := state, clock := { r.clock with frozen := false } }

theorem State.rampSet.backIn (h : s.rampSet t k r a []) {state : RampState} (hs : r.state ≠ state)
    (hh : ¬(r.requestHold = true ∨ r.inputHold = true)) :
    s.rampSet ((t.updRamp k (Ramp.backIn state)).rampChanged k r.state .holdEnd) k (r.backIn state)
      (a ++ [rampNotice k r.state state false false .holdEnd]) [] := by
  have h1 := (h.updRamp (Ramp.backIn state)).rampChanged r.state .holdEnd
  obtain ⟨hq, hi⟩ : (r.backIn state).requestHold = false ∧ (r.backIn state).inputHold = false := by
    simpa [Ramp.backIn] using hh
  have hne : (r.backIn state).state ≠ r.state := hs.symm
  rw [if_neg hne, hq, hi] at h1
  exact h1

/-- R125: the pick made again under the top plan. -/
theorem State.rampSet.rerunPick_of (h : s.rampSet t k r a []) (hp : s.plans.get r.top = some p) :
    s.rampSet (t.rerunPick k) k (r.pick p) a [] := h.withPlan hp _

theorem State.holdEnded_eq (t : State) (k : Fin 4) : t.holdEnded k =
    if (t.ramp k).requestHold = true ∨ (t.ramp k).inputHold = true then t
    else
      match (t.ramp k).state with
      | .suspended .starting =>
        ((t.updRamp k (Ramp.backIn .metering)).rampChanged k (t.ramp k).state .holdEnd).beginMetering k
      | .suspended .metering =>
        if (t.ramp k).clock.awaiting = true ∧ (t.ramp k).clock.staged.isSome = true then
          ((t.updRamp k (Ramp.backIn .metering)).rampChanged k (t.ramp k).state .holdEnd).comeDue k
        else ((t.updRamp k (Ramp.backIn .metering)).rampChanged k (t.ramp k).state .holdEnd).rerunPick k
      | .suspended .fallback =>
        ((t.updRamp k (Ramp.backIn .fallback)).rampChanged k (t.ramp k).state .holdEnd).rerunPick k
      | _ => t := by
  simp only [State.holdEnded, Bool.or_eq_true, Bool.and_eq_true]
  rfl

/-- R117, R126, R125: hold sources of ramp `k` were cleared. -/
theorem State.rampSet.ended (h : s.rampSet t k r [] []) (hk : ∀ l, (s.ramp k).headKey l = r.headKey l)
    (hp : s.plans.get r.top = some p ∨ r.state.isSuspended = false) :
    let back (state : RampState) : Ramp := { r with state := state, clock := { r.clock with frozen := false } }
    let notice (state : RampState) := rampNotice k r.state state false false .holdEnd
    let w := State.settled s (t.holdEnded k)
    if r.requestHold = true ∨ r.inputHold = true then s.rampSet w k r [] []
    else if r.state = .suspended .starting then
      s.rampEvent w k ((back .metering).begun p) (notice .metering :: begunNotices k (back .metering)) []
    else if r.state = .suspended .metering then
      (if r.clock.awaiting = true ∧ r.clock.staged.isSome = true then
        s.rampEvent w k ((back .metering).due p) (notice .metering :: dueNotices k (back .metering)) []
      else s.rampEvent w k ((back .metering).pick p) [notice .metering] [])
    else if r.state = .suspended .fallback then
      s.rampEvent w k ((back .fallback).pick p) [notice .fallback] []
    else s.rampSet w k r [] [] := by
  intro back notice w
  have htop : ∀ f, r.state = .suspended f → s.plans.get r.top = some p := fun f hf =>
    hp.resolve_right (by simp [hf, RampState.isSuspended])
  simp only [w, notice, State.holdEnded_eq, h.ramp_self]
  by_cases hh : r.requestHold = true ∨ r.inputHold = true
  · simp only [if_pos hh]
    exact h.settled_same hk
  simp only [if_neg hh]
  cases hs : r.state with
  | suspended f =>
    cases f with
    | starting =>
      have h1 := (h.backIn (state := .metering) (by simp [hs]) hh).beginMetering (p := p) (htop _ hs)
      rw [hs] at h1
      simp only [if_true]
      exact h1.settled rfl
    | metering =>
      have h1 := h.backIn (state := .metering) (by simp [hs]) hh
      rw [hs] at h1
      simp only [RampState.suspended.injEq, reduceCtorEq, if_true, if_false]
      by_cases hc : r.clock.awaiting = true ∧ r.clock.staged.isSome = true
      · simp only [if_pos hc]
        exact (h1.comeDue (p := p) (.inl (htop _ hs))).settled rfl
      · simp only [if_neg hc]
        exact (h1.rerunPick_of (htop _ hs)).settled rfl
    | fallback =>
      have h1 := h.backIn (state := .fallback) (by simp [hs]) hh
      rw [hs] at h1
      simp only [RampState.suspended.injEq, reduceCtorEq, if_true, if_false]
      exact (h1.rerunPick_of (htop _ hs)).settled rfl
  | _ =>
    simp only [reduceCtorEq, if_false]
    exact h.settled_same hk

/-- Settles O44. -/
theorem holdsEndTogether : Obligations.HoldsEndTogether := by
  intro q k s p hq hp
  refine ⟨⟨_, rfl, ?_⟩, _, rfl, ?_⟩
  · have hp' : (s.took (.release q)).topPlan k = some p ∨ ((s.took (.release q)).ramp k).state.isSuspended = false := by
      simpa [State.topPlan, State.ramp_took] using hp
    rw [State.onRamp_of_subject hq]
    revert hp'
    dsimp only
    generalize s.took _ = u
    intro hp'
    simp only [State.released]
    have h := ((u.rampSet_refl k).updRamp Ramp.released).ended (p := p) (fun _ => rfl) hp'
    simp only [Ramp.released] at h ⊢
    split_ifs at h ⊢ <;> exact h.reply q 0x35 .done []
  · by_cases hi : (s.ramp k).holdInput = true
    · simp only [hi, if_true, Bool.true_eq_false, if_false]
      have h := (s.rampSet_refl k).updRamp (fun r => { r with holdInput := false })
      by_cases hn : (s.ramp k).state = .dark ∨ (s.ramp k).state = .clearing ∨ (s.ramp k).holdMode ≠ some .level
      · have hq : (s.updRamp k (fun r => { r with holdInput := false })).inputDeasserted k =
            s.updRamp k (fun r => { r with holdInput := false }) := by
          simp only [State.inputDeasserted, h.ramp_self]
          split
          · rename_i ha
            split
            · rename_i hm
              obtain ⟨hd, hc⟩ := not_or.mp (RampState.active_eq_true.mp ha)
              exact absurd hm (hn.resolve_left hd |>.resolve_left hc)
            · rfl
          · rfl
        rw [if_pos hn, hq]
        exact h.settled_same fun _ => rfl
      · obtain ⟨hd, hc, hm⟩ : (s.ramp k).state ≠ .dark ∧ (s.ramp k).state ≠ .clearing ∧
            (s.ramp k).holdMode = some .level := by simpa only [not_or, not_not] using hn
        have ha : (s.ramp k).state.active = true := RampState.active_eq_true.mpr (not_or.mpr ⟨hd, hc⟩)
        have hq : (s.updRamp k (fun r => { r with holdInput := false })).inputDeasserted k =
            ((s.updRamp k (fun r => { r with holdInput := false })).updRamp k
              (fun r => { r with inputHold := false })).holdEnded k := by
          have hm' : ({ s.ramp k with holdInput := false } : Ramp).holdMode = some .level := hm
          simp only [State.inputDeasserted, h.ramp_self, ha, hm', if_true]
        rw [if_neg hn, hq]
        exact (h.updRamp (fun r => { r with inputHold := false })).ended (p := p) (fun _ => rfl) hp
    · simp only [hi, Bool.false_eq_true, if_false, if_true]

/-! ## START -/

theorem State.startRefusal_of_unready {u : State} {k : Fin 4}
    (h : (u.ramp k).state ≠ .dark ∨ (u.ramp k).config = none ∨ u.topPlan k = none ∨ (u.ramp k).inService = false) :
    u.startRefusal k = some .wrongState := by
  simp only [State.startRefusal, Option.isNone_iff_eq_none]
  split_ifs with h1 h2 h3 h4
  · rfl
  · rfl
  · rfl
  · rfl
  · simp [h1, h2, h3, h4] at h
  · simp [h1, h2, h3, h4] at h

theorem State.startRefusal_of_ready {u : State} {k : Fin 4}
    (h : ¬((u.ramp k).state ≠ .dark ∨ (u.ramp k).config = none ∨ u.topPlan k = none ∨ (u.ramp k).inService = false)) :
    u.startRefusal k = if u.hasJob k then some .busy else none := by
  obtain ⟨hs, hc, hp, hi⟩ := by simpa only [not_or] using h
  simp only [State.startRefusal, Option.isNone_iff_eq_none]
  rw [if_neg hs, if_neg hc, if_neg hp, if_neg hi]

/-- R115: START reads the hold input. -/
theorem Ramp.heldAtStart_eq {r : Ramp} {c : RampConfig} (hc : r.config = some c) :
    r.heldAtStart = (r.holdInput && decide (c.holdMode ≠ .ignored)) := by
  simp only [Ramp.heldAtStart, Ramp.holdMode, hc, Option.map_some]
  cases c.holdMode <;> rfl

theorem Ramp.suspending_starting (h : r.state = .starting) :
    r.suspending = { r with state := .suspended .starting, warningTimer := none } := by
  simp only [Ramp.suspending, h]

/-- R109 item 5, R115, R116: the hold of a ramp that START takes from DARK to STARTING. -/
theorem State.rampSet.holdAtStart (h : s.rampSet t k r a []) (hs : r.state = .starting) :
    s.rampSet (t.holdAtStart k) k
      (if r.heldAtStart then { r with inputHold := true, state := .suspended .starting, warningTimer := none } else r)
      (a ++ if r.heldAtStart then [rampNotice k .starting (.suspended .starting) r.requestHold true .hold] else []) [] := by
  simp only [State.holdAtStart, h.ramp_self]
  cases r.heldAtStart with
  | false => simpa using h
  | true =>
    let r' : Ramp := { r with inputHold := true }
    have hs' : r'.state = .starting := hs
    have h1 := (h.updRamp (fun r => { r with inputHold := true })).holdSet (r := r')
      (by rw [hs']; rfl) (by rw [hs']; rfl)
    have hdark : r'.landsDark r'.suspending = false := by
      rw [Ramp.suspending_starting hs']
      exact Ramp.landsDark_of_lanes rfl
    rw [hdark, Ramp.suspending_starting hs', hs'] at h1
    exact h1

/-- R101, R102: the start fault of a ramp that START takes. -/
theorem State.rampSet.loadFault (h : s.rampSet t k r a []) (hf : r.state.fallbackOrHeld = false)
    (hp : s.plans.get r.top = some p) :
    s.rampSet (t.loadFault k) k { r with faultPending := r.faultPending || r.startFault.isSome, startFault := none }
      (a ++ ((r.startFault.map (fun f => [faultNotice k .load r.state f.flags
        (if f.judged then f.flags.inter p.unmasked else .none) r.top])).getD [])) [] := by
  have htop : t.topPlan k = some p := h.topPlan.trans hp
  simp only [State.loadFault, h.ramp_self]
  cases hsf : r.startFault with
  | none =>
    have hr : ({ r with faultPending := r.faultPending || Option.isSome (none : Option StartFault), startFault := none } :
        Ramp) = r := by
      rw [Option.isSome_none, Bool.or_false, ← hsf]
    simp only [Option.map_none, Option.getD_none, List.append_nil]
    rw [hr]
    exact h
  | some f =>
    have hset : r.setFaultPending = { r with faultPending := true } := by
      simp only [Ramp.setFaultPending, hf, Bool.false_eq_true, if_false]
    have h1 := (h.updRamp (fun r => { r.setFaultPending with startFault := none })).offerFault .load f.flags
      (f.shown (t.topPlan k)) r.top
    rw [htop, hset] at h1
    rw [htop]
    simpa [StartFault.shown] using h1

/-- R109, R89, R9: the queues and tables once START of ramp `k` appended its job and set the stations' marks. -/
def State.startBase (u : State) (k : Fin 4) : State := { u with
  jobs := u.jobs ++ [⟨k, .start (u.ramp k).carriedRate⟩]
  stations := u.stations.map (fun _ st => { st with marks := st.marks.set k (!st.live) }) }

/-- R109: START of ramp `k` before it reads its hold input. -/
theorem State.startBase_started (u : State) (k : Fin 4) (c : RampConfig) :
    (u.startBase k).rampSet
      ((((({ u with jobs := u.jobs ++ [⟨k, .start (u.ramp k).carriedRate⟩] } : State)).updRamp k
        (Ramp.started c)).resetMarks k).offerRamp k .dark .start) k ((u.ramp k).started c)
      [rampNotice k .dark .starting (u.ramp k).requestHold (u.ramp k).inputHold .start] [] :=
  (((u.startBase k).rampSet_refl k).updRamp (Ramp.started c)).offerRamp .dark .start

theorem State.started_refused {u : State} {k : Fin 4} {x : Result} (h : u.startRefusal k = some x) (q : Request) :
    u.started q k = u.reply q 0x32 x [] := by
  simp only [State.started, h]

theorem State.started_taken {u : State} {k : Fin 4} {c : RampConfig} (h : u.startRefusal k = none)
    (hc : (u.ramp k).config = some c) (q : Request) :
    u.started q k = (State.settled u (u.startTaken k c)).reply q 0x32 .done [] := by
  simp only [State.started, h, hc]

/-- Settles O41. -/
theorem startChecksAndStarts : Obligations.StartChecksAndStarts := by
  intro q k s hq
  refine ⟨_, rfl, ?_⟩
  rw [State.onRamp_of_subject hq]
  dsimp only
  generalize s.took _ = u
  by_cases hr : (u.ramp k).state ≠ .dark ∨ (u.ramp k).config = none ∨ u.topPlan k = none ∨ (u.ramp k).inService = false
  · rw [if_pos hr, State.started_refused (State.startRefusal_of_unready hr)]
    exact u.reply_repliesOnly _ _ _ _
  have hready := State.startRefusal_of_ready hr
  rw [if_neg hr]
  by_cases hj : u.hasJob k = true
  · refine (if_pos (show (u.jobs.any fun j => j.ramp == k) = true from hj)).mpr ?_
    rw [State.started_refused (hready.trans (if_pos hj))]
    exact u.reply_repliesOnly _ _ _ _
  refine (if_neg (show ¬(u.jobs.any fun j => j.ramp == k) = true from hj)).mpr fun c p hc hp => ?_
  rw [State.started_taken (hready.trans (if_neg hj)) hc]
  have h := (u.startBase_started k c).holdAtStart rfl
  have hheld : ((u.ramp k).started c).heldAtStart = ((u.ramp k).holdInput && decide (c.holdMode ≠ .ignored)) :=
    Ramp.heldAtStart_eq hc
  rw [← hheld]
  cases hb : ((u.ramp k).started c).heldAtStart with
  | true =>
    rw [hb] at h
    simp only [Bool.or_true, if_true]
    exact ((h.loadFault (p := p) rfl hp).settled (s0 := u) rfl).reply q 0x32 .done []
  | false =>
    rw [hb] at h
    simp only [Bool.or_false, Bool.false_eq_true, if_false]
    exact ((h.loadFault (p := p) rfl hp).settled (s0 := u) rfl).reply q 0x32 .done []

end Sys2Proof.Machine
end

section
/-! The ends of the lanes' timed states, and LANE CLOSE and LANE OPEN: O50, O47. -/

namespace Sys2Proof.Machine

variable {s t u : State} {k : Fin 4} {l : Fin 3} {r : Ramp} {p : Plan}

/-! ## A lane that leaves a timed state -/

/-- R125: what lane `l` alone becomes says whether a green window was freed. -/
theorem Ramp.freed_onLanes (hl : (r.lane l).cycle.busy = true) (f : Lane → Lane) :
    r.freed (r.onLanes [l] f) = !(f (r.lane l)).cycle.busy := by
  rw [Bool.eq_iff_iff, Ramp.freed, List.any_eq_true]
  constructor
  · rintro ⟨j, -, hj⟩
    by_cases hjl : j = l
    · subst hjl
      simpa [Ramp.lane_onLanes, hl] using hj
    · simp [Ramp.lane_onLanes, hjl] at hj
  · intro hf
    refine ⟨l, mem_allLanes l, ?_⟩
    simpa [Ramp.lane_onLanes, hl] using hf

/-- R125: the waiting pick under the top plan, or none in DARK. -/
theorem State.rampSet.rerunPick_or {a : List (Nat × List Byte)} (h : s.rampSet t k r a [])
    (hp : s.plans.get r.top = some p ∨ r.state = .dark) : s.rampSet (t.rerunPick k) k (r.pick p) a [] :=
  h.withPlan_or (f := fun p r => r.pick p) (hp.imp id fun hd q => Ramp.pick_of_dark hd q)

/-- R132, R140, R125, R113: a lane of ramp `k` left a timed state. -/
theorem State.rampSet.cycleMoved {after : Ramp} (h : s.rampSet t k after [] [])
    (hp : s.plans.get after.top = some p ∨ after.state = .dark) {freed : Prop} [Decidable freed]
    (hfreed : (s.ramp k).freed after = true ↔ freed) :
    let dark := (s.ramp k).landsDark after
    let final := if dark then after.darkening else after
    (s.darkened k dark).rampEvent (State.cycleMoved k s t) k (if freed then final.pick p else final)
      (if dark then [rampNotice k after.state .dark false false .noLane] else []) [] := by
  dsimp only
  have h1 := h.landed (s0 := s) rfl
  have hone := State.rerunFreed_one h1 (s0 := s) (State.ramps_darkened _ _ _).symm
  simp only [State.cycleMoved]
  rw [hone]
  cases hd : (s.ramp k).landsDark after with
  | true =>
    have hpick : ∀ q, after.darkening.pick q = after.darkening := fun q => Ramp.pick_of_dark rfl q
    rw [hd] at h1
    have h2 := h1.rerunPick_or (p := p) (.inr rfl)
    simp only [if_true, hpick, ite_self]
    split
    · exact (hpick p ▸ h2).settled (s0 := s) rfl
    · exact h1.settled (s0 := s) rfl
  | false =>
    rw [hd] at h1
    simp only [Ramp.darkIf, Bool.false_eq_true, if_false, hfreed]
    by_cases hf : freed
    · rw [if_pos hf, if_pos hf]
      exact (h1.rerunPick_or hp).settled (s0 := s) rfl
    · rw [if_neg hf, if_neg hf]
      exact h1.settled (s0 := s) rfl

theorem Lane.greenEnded_busy (x : Lane) : x.greenEnded.cycle.busy = true ↔ x.heldAmber ≠ 0 := by
  by_cases h : x.heldAmber = 0
  · cases hc : x.closePending <;> simp [Lane.greenEnded, h, hc, Lane.wentOff, LaneCycle.busy]
  · simp [Lane.greenEnded, h, LaneCycle.busy]

theorem Lane.amberEnded_busy (x : Lane) : x.amberEnded.cycle.busy = false := by
  cases hc : x.closePending <;> simp [Lane.amberEnded, hc, Lane.wentOff, LaneCycle.busy]

/-- R132, R135: a lane enters READY. -/
theorem Ramp.enterReady_eq (r : Ramp) (l : Fin 3) : r.enterReady l = { r with
    lanes := r.lanes.set l { r.lane l with cycle := .ready },
    waitOrder := if (r.lane l).demand = true ∧ l ∉ r.waitOrder then r.waitOrder ++ [l] else r.waitOrder } := by
  have hw : (r.updLane l (fun x => { x with cycle := .ready })).waitOrder = r.waitOrder := rfl
  simp only [Ramp.enterReady, Ramp.joinWait, hw, List.contains_iff_mem]
  by_cases hd : (r.lane l).demand = true
  · by_cases hm : l ∈ r.waitOrder
    · rw [if_pos hd, if_pos hm, if_neg fun h => h.2 hm]
      rfl
    · rw [if_pos hd, if_neg hm, if_pos ⟨hd, hm⟩]
      rfl
  · rw [if_neg hd, if_neg fun h => hd h.1]
    rfl

/-- Settles O50. -/
theorem laneTimesEnd : Obligations.LaneTimesEnd := by
  intro k l s p hp
  refine ⟨⟨_, rfl, fun hn => ?_, fun hg => ?_⟩, ⟨_, rfl, fun hn => ?_, fun hg => ?_⟩, ⟨_, rfl, fun hn => ?_, fun hg => ?_⟩,
    _, rfl, ?_⟩
  · exact if_neg (by simp [hn])
  · rw [if_pos hg]
    have h := (s.rampSet_refl k).updRamp (fun r => r.endGreen l)
    rw [Ramp.endGreen_eq] at h
    refine h.cycleMoved (p := p) hp (freed := ((s.ramp k).lane l).heldAmber = 0) ?_
    rw [Ramp.freed_onLanes (LaneCycle.busy_of_isGreen hg), Bool.not_eq_true', ← Bool.not_eq_true, Lane.greenEnded_busy,
      not_not]
  · exact if_neg (by simp [hn])
  · rw [if_pos hg]
    have h := (s.rampSet_refl k).updRamp (fun r => r.endWindow l)
    rw [Ramp.endWindow_eq] at h
    refine h.cycleMoved (p := p) hp (freed := True) ?_
    rw [Ramp.freed_onLanes (LaneCycle.busy_of_isAmber hg), Lane.amberEnded_busy]
    simp
  · exact if_neg (by simp [hn])
  · rw [if_pos hg]
    have h := (s.rampSet_refl k).updRamp (fun r => r.enterReady l)
    rw [Ramp.enterReady_eq] at h
    exact (h.rerunPick_or (p := p) hp).settled rfl
  · exact (s.rampSet_refl k).updRamp (fun r => r.updLane l (fun x => { x with grace := none }))

/-! ## LANE CLOSE and LANE OPEN -/

theorem Three.set_set {α : Type} (v : Three α) (l : Fin 3) (x y : α) : (v.set l x).set l y = v.set l y := by
  fin_cases l <;> rfl

theorem Ramp.updLane_updLane (r : Ramp) (l : Fin 3) (f g : Lane → Lane) :
    (r.updLane l f).updLane l g = r.updLane l (fun x => g (f x)) := by
  simp only [Ramp.updLane, Three.get_set, if_true, Three.set_set]

theorem State.badValueUnstated_spec (u : State) (q : Request) (code : Nat) :
    u.tells (u.badValueUnstated q code) [] [replyOf u q code .badValue [Config.unstatedByte u.freeCount]] ∧
    u.badValueUnstated q code = { u with
      normal := (u.badValueUnstated q code).normal, normalDropped := (u.badValueUnstated q code).normalDropped,
      freeCount := u.freeCount + 1 } := by
  obtain ⟨h1, h2⟩ := u.reply_repliesOnly q code .badValue [u.freeByte]
  refine ⟨h1, ?_⟩
  simp only [State.badValueUnstated, State.drew]
  conv_lhs => rw [h2]

theorem State.onLane_of_not {lane : Nat} (h : 3 ≤ lane) (u : State) (q : Request) (code : Nat) (k : Fin 4)
    (f : Fin 3 → State → State) : State.onLane q code lane k f u = u.badValueUnstated q code := by
  rw [State.onLane, dif_neg (by omega)]

theorem State.onLane_of_lane {lane : Nat} (h : l.val = lane) (u : State) (q : Request) (code : Nat) (k : Fin 4)
    (f : Fin 3 → State → State) : State.onLane q code lane k f u =
      if (u.ramp k).config = none then u.reply q code .wrongState []
      else if (u.ramp k).laneConfig l = none then u.badValueUnstated q code
      else f l u := by
  subst h
  rw [State.onLane, dif_pos l.isLt]
  simp only [Fin.eta, Ramp.used, Option.isNone_iff_eq_none, Option.isSome_eq_false_iff]

/-- R140, R141: what a closure that lands makes of lane `x`. -/
def Lane.closed (x : Lane) : Lane :=
  { x with cycle := .off, grace := none, isOpen := false, closePending := false, starvation := 0 }

theorem Ramp.closeLane_eq (r : Ramp) (l : Fin 3) : r.closeLane l = r.onLanes [l] Lane.closed := by
  rw [Ramp.onLanes_of_off rfl, Ramp.closeLane, Ramp.laneOff]
  congr 1
  exact Ramp.updLane_updLane r l _ _

theorem Ramp.otherOpen_iff (r : Ramp) (l : Fin 3) : r.otherOpen l = true ↔
    ∃ j, j ≠ l ∧ r.used j = true ∧ (r.lane j).isOpen = true ∧ (r.lane j).closePending = false := by
  simp only [Ramp.otherOpen, List.any_eq_true, mem_allLanes, true_and, Bool.and_eq_true, bne_iff_ne, Bool.not_eq_true', and_assoc]

/-- R140, R141, R113: a LANE CLOSE that passes its checks. -/
theorem State.closeTaken_spec (u : State) (q : Request) (k : Fin 4) (l : Fin 3) :
    let r := u.ramp k
    let x := r.lane l
    let t := (State.settled u (u.closeTaken k l)).reply q 0x37 .done []
    if x.cycle.busy then
      u.rampSet t k { r with lanes := r.lanes.set l { x with closePending := true } } [] [replyOf u q 0x37 .done []]
    else
      let after := r.onLanes [l] Lane.closed
      let dark := r.landsDark after
      (u.darkened k dark).rampEvent t k (if dark then after.darkening else after)
        (if dark then [rampNotice k r.state .dark false false .noLane] else []) [replyOf u q 0x37 .done []] := by
  dsimp only
  simp only [State.closeTaken]
  by_cases hb : ((u.ramp k).lane l).cycle.busy = true
  · simp only [if_pos hb]
    refine ((u.rampSet_refl k).updRamp _).settled_reply_same (fun j => ?_) q 0x37 .done []
    have hj : ∀ x : Lane, ((u.ramp k).updLane l (fun x => { x with closePending := true })).headKey j =
        (u.ramp k).headKey j := fun _ => by
      simp only [Ramp.headKey, Ramp.lane_updLane]
      by_cases hjl : j = l
      · subst hjl
        simp [Ramp.disabled_eq, Ramp.head, Ramp.updLane]
      · simp [hjl, Ramp.disabled_eq, Ramp.head, Ramp.updLane]
    exact (hj ((u.ramp k).lane l)).symm
  · simp only [if_neg hb]
    have h := (u.rampSet_refl k).updRamp (fun r => r.closeLane l)
    rw [Ramp.closeLane_eq] at h
    have h1 := ((h.landed (s0 := u) rfl).settled (s0 := u) (State.ramps_darkened _ _ _).symm).reply q 0x37 .done []
    rw [replyOf_darkened] at h1
    exact h1

theorem RampState.metersOrHeld_false_of_dark {x : RampState} (h : x = .dark) : x.metersOrHeld = false := by
  subst h
  rfl

/-- R142: the lane that LANE OPEN makes of lane `l` of a ramp with top plan `p`. -/
theorem Ramp.redAtOpen_openLane (r : Ramp) (l : Fin 3) (p : Plan) :
    (r.openLane l).redAtOpen l p = { r with
      lanes := r.lanes.set l
        (if (r.lane l).cycle = .off ∧ r.state.metersOrHeld = true then
          { r.lane l with
            isOpen := true, closePending := false, cycle := .red p.minRed, minRed := some p.minRed, grace := none }
        else { r.lane l with isOpen := true, closePending := false })
      heads := r.heads.set l ((r.head l).map (fun h => { h with disabled := none })) } := by
  have hc : ((r.openLane l).lane l).cycle = (r.lane l).cycle := by
    simp [Ramp.openLane, Ramp.updHead, Ramp.updLane, Ramp.lane, Lane.opened]
  have hs : (r.openLane l).state = r.state := rfl
  simp only [Ramp.redAtOpen, hc, hs]
  split
  · simp [Ramp.openLane, Ramp.updHead, Ramp.updLane, Ramp.lane, Ramp.head, Three.set_set, Lane.opened,
      Lane.redFromOff]
  · simp [Ramp.openLane, Ramp.updHead, Ramp.updLane, Ramp.lane, Ramp.head, Lane.opened]

/-- Settles O47. -/
theorem lanesAreClosedAndOpened : Obligations.LanesAreClosedAndOpened := by
  intro q lane k s hq
  refine ⟨⟨_, rfl, ?_⟩, _, rfl, ?_⟩ <;> rw [State.onRamp_of_subject hq] <;> dsimp only <;> generalize s.took _ = u
  · refine ⟨fun h3 => ?_, fun l hl => ?_⟩
    · rw [State.onLane_of_not h3]
      exact u.badValueUnstated_spec q 0x37
    rw [State.onLane_of_lane hl]
    by_cases hc : (u.ramp k).config = none
    · rw [if_pos hc, if_pos hc]
      exact u.reply_repliesOnly _ _ _ _
    by_cases hu : (u.ramp k).laneConfig l = none
    · rw [if_neg hc, if_neg hc, if_pos hu, if_pos hu]
      exact u.badValueUnstated_spec q 0x37
    rw [if_neg hc, if_neg hc, if_neg hu, if_neg hu]
    simp only [State.laneClosed, ← Bool.not_eq_true ((u.ramp k).otherOpen l), Ramp.otherOpen_iff]
    by_cases ho : ((u.ramp k).lane l).isOpen = false ∨ ((u.ramp k).lane l).closePending = true
    · rw [if_pos ho, if_pos ho]
      exact u.reply_repliesOnly _ _ _ _
    rw [if_neg ho, if_neg ho]
    split
    · exact u.reply_repliesOnly _ _ _ _
    · exact u.closeTaken_spec q k l
  · refine ⟨fun h3 => ?_, fun l hl => ?_⟩
    · rw [State.onLane_of_not h3]
      exact u.badValueUnstated_spec q 0x38
    rw [State.onLane_of_lane hl]
    by_cases hc : (u.ramp k).config = none
    · rw [if_pos hc, if_pos hc]
      exact u.reply_repliesOnly _ _ _ _
    by_cases hu : (u.ramp k).laneConfig l = none
    · rw [if_neg hc, if_neg hc, if_pos hu, if_pos hu]
      exact u.badValueUnstated_spec q 0x38
    rw [if_neg hc, if_neg hc, if_neg hu, if_neg hu]
    simp only [State.laneOpened]
    split
    · exact u.reply_repliesOnly _ _ _ _
    · intro p hp
      have h := (((u.rampSet_refl k).updRamp (fun r => r.openLane l)).withPlan_or (p := p)
        (f := fun p r => r.redAtOpen l p) (hp.imp id fun hm q => if_neg fun hn => by
          have hm' : (u.ramp k).state.metersOrHeld = true := hn.2
          rw [hm] at hm'
          cases hm'))
      rw [Ramp.redAtOpen_openLane] at h
      exact (h.settled rfl).reply q 0x38 .done []

end Sys2Proof.Machine
end

section
/-! The completions of the RCU's jobs: O34, O36. -/

namespace Sys2Proof.Machine

variable {s t u : State} {k : Fin 4} {r : Ramp} {p : Plan} {a : List (Nat × List Byte)} {j : Job} {rest : List Job}

/-! ## The job that leaves -/

/-- R71: the state with the completed job gone. -/
theorem State.jobLeft_eq (h : s.jobs = j :: rest) : s.jobLeft = { s with jobs := rest, rcu := .idle } := by
  simp only [State.jobLeft, h, List.drop_one, List.tail_cons]

theorem State.rampSet.jobLeft (h : s.rampSet t k r a []) (hj : s.jobs = j :: rest) :
    State.rampSet { s with jobs := rest, rcu := .idle } t.jobLeft k r a [] := by
  have ht : t.jobs = j :: rest := by rw [h.2, ← hj]
  refine ⟨State.tells_congr (State.tells_base h.1 rfl rfl rfl rfl rfl) rfl rfl rfl, ?_⟩
  rw [State.jobLeft_eq ht]
  conv_lhs => rw [h.2]

theorem State.settled_congr {s s' t : State} (h : s'.ramps = s.ramps) : State.settled s' t = State.settled s t := by
  rw [State.settled_eq_told, State.settled_eq_told, State.told_congr h]

/-! ## INTERVAL jobs -/

theorem Clock.filtered_eq (c : Clock) (period : Nat) :
    c.filtered period = (c.flush.map (fun f => decide (f < period))).getD false := by
  simp only [Clock.filtered]
  cases c.flush <;> rfl

theorem saturate_eq (limit n : Nat) : saturate limit n = min limit n := rfl

/-- R79: the share record that the job read is counted down. -/
theorem Ramp.countShare_eq (r : Ramp) : r.countShare = { r with share := r.share.bind (fun y =>
    if y.read then (if y.lifetime ≤ 1 then none else some { y with lifetime := y.lifetime - 1, read := false })
    else some y) } := by
  obtain ⟨stack, intervalTimer, overrun, spill, rPrev, sticky, last, lastResult, faultPending, recovery, startFault, config,
    state, requestHold, inputHold, holdInput, warningTimer, clearTimer, share, carriedRate, clock, lanes, waitOrder,
    pointer, heads⟩ := r
  cases share with
  | none => rfl
  | some y => cases hy : y.read <;> simp [Ramp.countShare, hy]

/-- R98, R99: an accepted job counted toward recovery. -/
theorem Ramp.countClean_eq (r : Ramp) (p : Plan) (period : Nat) :
    let clean := min 15 (r.recovery + 1)
    let returns := p.recoveryIntervals ≠ 0 ∧ p.recoveryIntervals ≤ clean
    r.countClean p period = { r with
      recovery := clean
      faultPending := if returns then false else r.faultPending
      clock := { r.clock with staged := if returns then some ⟨period, .returning⟩ else r.clock.staged } } := by
  dsimp only
  by_cases hr : p.recoveryIntervals ≠ 0 ∧ p.recoveryIntervals ≤ min 15 (r.recovery + 1)
  · rw [if_pos hr, if_pos hr]
    exact if_pos hr
  · rw [if_neg hr, if_neg hr]
    exact if_neg hr

/-- R123, R129: a COMPUTED staging under the flush filter. -/
theorem Ramp.stageComputed_eq (r : Ramp) (period : Nat) : r.stageComputed period = { r with clock := { r.clock with
    staged := if (r.clock.flush.map (fun f => decide (f < period))).getD false then r.clock.staged
      else some ⟨period, .computed⟩ } } := by
  simp only [Ramp.stageComputed, ← Clock.filtered_eq]
  by_cases hr : r.clock.filtered period = true
  · rw [if_pos hr, if_pos hr]
  · rw [if_neg hr, if_neg hr]
    rfl

/-- R85 to R87, R91, R94, R98, R99, R129: ramp `r` at the delivery of an INTERVAL job's result under plan `p`. -/
def Ramp.takingInterval (r : Ramp) (p : Plan) (res : JobResult) : Ramp :=
  let flagged := { r with last := res.flags, sticky := r.sticky.union res.flags }
  let used := { flagged with
    rPrev := some res.rate, lastResult := .accepted, clock := { r.clock with computed := some res.period } }
  let clean := min 15 (r.recovery + 1)
  let returns := p.recoveryIntervals ≠ 0 ∧ p.recoveryIntervals ≤ clean
  let filtered := (r.clock.flush.map (fun f => decide (f < res.period))).getD false
  if r.state = .clearing then flagged
  else if (res.flags.inter p.unmasked).any then { flagged with lastResult := .withheld }.setFaultPending
  else if r.state = .fallback ∨ r.state = .suspended .fallback then
    { used with
      recovery := clean
      faultPending := if returns then false else r.faultPending
      clock := { used.clock with
        staged := if returns then some ⟨res.period, .returning⟩ else r.clock.staged } }
  else { used with clock := { used.clock with
    staged := if filtered then r.clock.staged else some ⟨res.period, .computed⟩ } }

/-- R86, R91, R98, R99, R129: an accepted result. -/
theorem Ramp.deliverInterval_recordFlags (r : Ramp) (p : Plan) (res : JobResult) (hc : r.state ≠ .clearing)
    (hu : ¬(res.flags.inter p.unmasked).any = true) :
    (r.recordFlags res.flags).deliverInterval p res = r.takingInterval p res := by
  have hf : (r.recordFlags res.flags).state.fallbackOrHeld = true ↔ r.state = .fallback ∨ r.state = .suspended .fallback :=
    RampState.fallbackOrHeld_iff
  simp only [Ramp.takingInterval]
  rw [if_neg hc, if_neg hu]
  simp only [Ramp.deliverInterval, hf]
  by_cases hs : r.state = .fallback ∨ r.state = .suspended .fallback
  · rw [if_pos hs, if_pos hs, Ramp.countClean_eq]
    rfl
  · rw [if_neg hs, if_neg hs, Ramp.stageComputed_eq]
    rfl

theorem State.resultDelivered_spec (s : State) (k : Fin 4) (x : Snapshot) (res : JobResult) :
    let r := s.ramp k
    let withheld := (res.flags.inter x.plan.unmasked).any
    s.rampSet (s.resultDelivered k x res) k (r.takingInterval x.plan res)
      (if r.state ≠ .clearing ∧ withheld = true then
        [faultNotice k .withheld r.state res.flags (res.flags.inter x.plan.unmasked) x.number] else []) [] := by
  dsimp only
  have h := (s.rampSet_refl k).updRamp (fun r => r.recordFlags res.flags)
  simp only [State.resultDelivered]
  by_cases hc : (s.ramp k).state = .clearing
  · rw [if_pos hc, if_neg fun h => h.1 hc, Ramp.takingInterval, if_pos hc]
    exact h
  rw [if_neg hc]
  by_cases hu : (res.flags.inter x.plan.unmasked).any = true
  · rw [if_pos hu, if_pos ⟨hc, hu⟩, Ramp.takingInterval, if_neg hc, if_pos hu]
    have h1 := ((h.updRamp (fun r => { r with lastResult := .withheld })).updRamp Ramp.setFaultPending).offerFault
      .withheld res.flags (res.flags.inter x.plan.unmasked) x.number
    have hst : ({ (s.ramp k).recordFlags res.flags with lastResult := .withheld } : Ramp).setFaultPending.state =
        (s.ramp k).state := by
      rw [Ramp.setFaultPending_eq]
      rfl
    rw [hst] at h1
    exact h1
  · rw [if_neg hu, if_neg fun h => hu h.2, ← Ramp.deliverInterval_recordFlags _ _ _ hc hu]
    exact h.updRamp (fun r => r.deliverInterval x.plan res)

/-- R88, R67, R139: the report is offered; the overrun mark and the counts go with it. -/
theorem State.rampSet.offerReport (h : s.rampSet t k r a []) (flags : Flags) (c : CloseRecord) (number : Nat) :
    s.rampSet (t.offerReport k flags c number) k { r with
        overrun := false
        lanes := Three.tabulate (fun l => { r.lane l with greens := 0, served := 0, violations := 0, extra := 0 }) }
      (a ++ [(Config.kindReport, reportPayload k r flags c number)]) [] := by
  obtain rfl := h.ramp_self
  exact (h.sequenced _ _).updRamp (fun r => { r.clearCounts with overrun := false })

theorem Ramp.lane_takingInterval (r : Ramp) (p : Plan) (res : JobResult) (l : Fin 3) :
    (r.takingInterval p res).lane l = r.lane l := by
  refine Ramp.lane_of_lanes ?_ l
  simp only [Ramp.takingInterval]
  split
  · rfl
  · split
    · rw [Ramp.setFaultPending_eq]
    · split <;> rfl

theorem Ramp.share_takingInterval (r : Ramp) (p : Plan) (res : JobResult) : (r.takingInterval p res).share = r.share := by
  simp only [Ramp.takingInterval]
  split
  · rfl
  · split
    · rw [Ramp.setFaultPending_eq]
    · split <;> rfl

theorem execIntervalJobCompletion_eq {c : CloseRecord} {x : Option Snapshot} (hr : s.rcu = .busy x)
    (hj : s.jobs = ⟨k, .interval c⟩ :: rest) :
    exec .intervalJobCompletion s = .next (s.intervalDelivered k x c).jobLeft.withStarts := by
  change State.ends _ = _
  rw [hr, hj]
  rfl

/-- Settles O34. -/
theorem intervalJobsDeliver : Obligations.IntervalJobsDeliver := by
  refine ⟨fun s c k rest hr hj => ?_, fun s x c k rest hr hj => ⟨_, execIntervalJobCompletion_eq hr hj, ?_⟩⟩
  · rw [execIntervalJobCompletion_eq hr hj, State.intervalDelivered, State.jobLeft_eq hj]
  · dsimp only
    simp only [State.intervalDelivered]
    by_cases hd : (s.ramp k).state = .dark
    · rw [if_pos hd, if_pos hd]
      exact State.jobLeft_eq hj
    · rw [if_neg hd, if_neg hd]
      have h := ((((s.resultDelivered_spec k x (computeInterval x c)).updRamp Ramp.countShare).offerReport
        (computeInterval x c).flags c x.number)).jobLeft hj
      simp only [Ramp.countShare_eq, Ramp.share_takingInterval] at h
      have hl : ∀ (y : Option Share) (l : Fin 3),
          ({ (s.ramp k).takingInterval x.plan (computeInterval x c) with share := y } : Ramp).lane l = (s.ramp k).lane l :=
        fun _ l => Ramp.lane_takingInterval _ _ _ l
      simp only [hl] at h
      exact h

/-! ## START jobs -/

/-- R90, R91, R94, R129: ramp `r` at the delivery of a START job's result under plan `p`. -/
def Ramp.takingStart (r : Ramp) (p : Plan) (res : JobResult) : Ramp :=
  let flagged := { r with last := res.flags, sticky := r.sticky.union res.flags }
  let faulted := if (res.flags.inter p.unmasked).any then flagged.setFaultPending else flagged
  let filtered := (r.clock.flush.map (fun f => decide (f < res.period))).getD false
  { faulted with
    rPrev := some res.rate, lastResult := .accepted,
    clock := { faulted.clock with
      computed := some res.period
      staged := if filtered then faulted.clock.staged else some ⟨res.period, .computed⟩ } }

theorem Ramp.deliverStart_eq (r : Ramp) (res : JobResult) : r.deliverStart res = { r with
    rPrev := some res.rate, lastResult := .accepted,
    clock := { r.clock with
      computed := some res.period
      staged := if (r.clock.flush.map (fun f => decide (f < res.period))).getD false then r.clock.staged
        else some ⟨res.period, .computed⟩ } } := by
  rw [Ramp.deliverStart, Ramp.stageComputed_eq]
  rfl

theorem RampState.takesStart_iff {x : RampState} : x.takesStart = true ↔
    ¬(x = .dark ∨ x = .clearing) ∧ ¬(x = .fallback ∨ x = .suspended .fallback) := by
  rw [RampState.takesStart, Bool.and_eq_true, RampState.active_eq_true, Bool.not_eq_true', ← Bool.not_eq_true,
    RampState.fallbackOrHeld_iff]

theorem Ramp.flush_setFaultPending (r : Ramp) : r.setFaultPending.clock.flush = r.clock.flush := by
  rw [Ramp.setFaultPending_eq]

/-- R90, R103: a START job's result before the clock comes to DUE. -/
theorem State.startTaken_spec (s : State) (k : Fin 4) (x : Snapshot) (res : JobResult) :
    let r := s.ramp k
    let unmasked := res.flags.inter x.plan.unmasked
    let s1 := s.updRamp k (fun r => r.recordFlags res.flags)
    let s2 := if unmasked.any then s1.jobFault k .start x res.flags else s1
    s.rampSet (s2.updRamp k (fun r => r.deliverStart res)) k (r.takingStart x.plan res)
      (if unmasked.any then [faultNotice k .start r.state res.flags unmasked x.number] else []) [] := by
  dsimp only
  have h := (s.rampSet_refl k).updRamp (fun r => r.recordFlags res.flags)
  by_cases hu : (res.flags.inter x.plan.unmasked).any = true
  · rw [if_pos hu, if_pos hu]
    have h1 := ((h.updRamp Ramp.setFaultPending).offerFault .start res.flags (res.flags.inter x.plan.unmasked)
      x.number).updRamp (fun r => r.deliverStart res)
    have hst : ((s.ramp k).recordFlags res.flags).setFaultPending.state = (s.ramp k).state := by
      rw [Ramp.setFaultPending_eq]
      rfl
    rw [hst, Ramp.deliverStart_eq, Ramp.flush_setFaultPending] at h1
    simp only [Ramp.takingStart, hu, if_true]
    exact h1
  · rw [if_neg hu, if_neg hu]
    have h1 := h.updRamp (fun r => r.deliverStart res)
    rw [Ramp.deliverStart_eq] at h1
    simp only [Ramp.takingStart, hu, if_false, Bool.false_eq_true]
    exact h1

theorem Ramp.takingStart_facts (r : Ramp) (p : Plan) (res : JobResult) :
    (r.takingStart p res).state = r.state ∧ (r.takingStart p res).clock.awaiting = r.clock.awaiting ∧
    (r.takingStart p res).stack = r.stack ∧ (r.takingStart p res).lanes = r.lanes ∧
    (r.takingStart p res).heads = r.heads := by
  simp only [Ramp.takingStart]
  split
  · rw [Ramp.setFaultPending_eq]
    exact ⟨rfl, rfl, rfl, rfl, rfl⟩
  · exact ⟨rfl, rfl, rfl, rfl, rfl⟩

theorem execStartJobCompletion_eq {carried : Option Nat} {x : Option Snapshot} (hr : s.rcu = .busy x)
    (hj : s.jobs = ⟨k, .start carried⟩ :: rest) :
    exec .startJobCompletion s = .next (State.settled s (s.startDelivered k x carried).jobLeft).withStarts := by
  change State.ends _ = _
  rw [hr, hj]
  rfl

/-- A completion that hands nothing over tells no head. -/
theorem State.settled_jobLeft (hj : s.jobs = j :: rest) :
    State.settled s s.jobLeft = { s with jobs := rest, rcu := .idle } := by
  rw [State.jobLeft_eq hj]
  exact State.settled_same fun _ _ => rfl

/-- The heads after a completion that left their targets. -/
theorem State.rampSet.jobLeft_same (h : s.rampSet t k r a []) (hj : s.jobs = j :: rest)
    (hk : ∀ l, (s.ramp k).headKey l = r.headKey l) :
    State.rampSet { s with jobs := rest, rcu := .idle } (State.settled s t.jobLeft) k r a [] := by
  rw [← State.settled_congr (s := s) (s' := { s with jobs := rest, rcu := .idle }) rfl]
  exact (h.jobLeft hj).settled_same hk

/-- Settles O36. -/
theorem startJobsDeliver : Obligations.StartJobsDeliver := by
  refine ⟨fun s carried k rest hr hj => ?_, fun s x carried k rest hr hj => ⟨_, execStartJobCompletion_eq hr hj, ?_⟩⟩
  · rw [execStartJobCompletion_eq hr hj, State.startDelivered, State.settled_jobLeft hj]
  dsimp only
  simp only [State.startDelivered]
  have hflag := (s.rampSet_refl k).updRamp (fun r => r.recordFlags (computeStart x carried).flags)
  by_cases hd : (s.ramp k).state = .dark
  · rw [if_pos hd, if_pos hd]
    exact State.settled_jobLeft hj
  rw [if_neg hd, if_neg hd]
  by_cases hc : (s.ramp k).state = .clearing
  · rw [if_pos hc, if_neg fun h => (RampState.takesStart_iff.mp h).1 (.inr hc)]
    exact hflag.jobLeft_same hj fun _ => rfl
  rw [if_neg hc]
  by_cases hf : (s.ramp k).state = .fallback ∨ (s.ramp k).state = .suspended .fallback
  · rw [if_pos hf, if_neg fun h => (RampState.takesStart_iff.mp h).2 hf]
    exact hflag.jobLeft_same hj fun _ => rfl
  rw [if_neg hf, if_pos (RampState.takesStart_iff.mpr ⟨not_or.mpr ⟨hd, hc⟩, hf⟩)]
  have h := s.startTaken_spec k x (computeStart x carried)
  obtain ⟨hstate, hawaiting, hstack, hlanes, hheads⟩ := (s.ramp k).takingStart_facts x.plan (computeStart x carried)
  dsimp only at h
  simp only [State.firstPeriod, h.ramp_self, hstate, hawaiting]
  by_cases hm : (s.ramp k).state = .metering ∧ (s.ramp k).clock.awaiting = true
  · rw [if_pos hm, if_pos hm]
    intro p hp
    have htop : s.plans.get ((s.ramp k).takingStart x.plan (computeStart x carried)).top = some p := by
      rw [Ramp.top, hstack]
      exact hp
    exact ((h.comeDue (p := p) (.inl htop)).jobLeft hj).settled (s0 := s) rfl
  · rw [if_neg hm, if_neg hm]
    refine h.jobLeft_same hj fun l => ?_
    exact (Ramp.headKey_congr hstate hlanes (by rw [Ramp.disabled_eq, Ramp.disabled_eq, Ramp.head, Ramp.head, hheads])).symm

end Sys2Proof.Machine
end

section
/-! The context transfer and the plan table: O39, O28. -/

namespace Sys2Proof.Machine

variable {s t u : State} {k : Fin 4} {r : Ramp} {p : Plan}

/-! ## Lowest failing fields -/

/-- A list of checks names its lowest failing field: the first of those that fail. -/
theorem lowestFailing_eq_head? {checks bad : List (Nat × Bool)} (h : bad = checks.map (fun x => (x.1, !x.2))) :
    lowestFailing checks = ((bad.filter (fun x => x.2)).map (fun x => x.1)).head? := by
  subst h
  induction checks with
  | nil => rfl
  | cons x rest ih =>
    obtain ⟨n, ok⟩ := x
    cases ok with
    | true => simpa [lowestFailing] using ih
    | false => simp [lowestFailing]

theorem not_within (lo hi n : Nat) : (!within lo hi n) = (decide (n < lo) || decide (hi < n)) := by
  rw [within, Bool.not_and, ← decide_not, ← decide_not]
  simp only [not_le]

/-! ## CONTEXT DUMP -/

/-- Two bytes as the field they stand in. -/
theorem u16_of_bytes (a b : Byte) : u16 (a.toNat * 256 + b.toNat) = [a, b] := by
  have ha := a.isLt
  have hb := b.isLt
  have h1 : (a.toNat * 256 + b.toNat) / 256 = a.toNat := by omega
  simp only [u16, u8, h1]
  congr 1
  · exact BitVec.eq_of_toNat_eq (by rw [BitVec.toNat_ofNat]; omega)
  · congr 1
    exact BitVec.eq_of_toNat_eq (by rw [BitVec.toNat_ofNat]; omega)

theorem waitPlace_eq (order : List (Fin 3)) (l : Fin 3) : waitPlace order l = if l ∈ order then order.idxOf l + 1 else 0 := by
  simp only [waitPlace, List.contains_iff_mem]

/-- R173, R181: the bytes of a ramp's context. -/
theorem Ramp.context_bytes (r : Ramp) (a b : Byte) :
    (r.context (a.toNat * 256 + b.toNat)).bytes =
      u16 (r.rPrev.getD 0xFFFF) ++ u16 ((r.clock.staged.map (fun x => x.period)).getD 0) ++
      [u8 ((r.clock.staged.map (fun x => x.mark.code)).getD 0)] ++ u16 (r.clock.active.getD 0) ++
      [u8 ((if r.clock.staged.isSome then 1 else 0) +
        (if (if r.state = .dark then r.startFault.isSome else r.faultPending) then 2 else 0)),
       u8 r.sticky.code, u8 r.last.code, u8 r.recovery] ++ stackBytes r.stack ++
      (r.share.map (fun x => u16 x.reduction)).getD [a, b] ++
      [u8 ((r.share.map (fun x => x.lifetime)).getD 0),
       u8 (if (0 : Fin 3) ∈ r.waitOrder then r.waitOrder.idxOf 0 + 1 else 0),
       u8 (if (1 : Fin 3) ∈ r.waitOrder then r.waitOrder.idxOf 1 + 1 else 0),
       u8 (if (2 : Fin 3) ∈ r.waitOrder then r.waitOrder.idxOf 2 + 1 else 0), u8 (r.lane 0).starvation,
       u8 (r.lane 1).starvation, u8 (r.lane 2).starvation, u8 r.pointer.val] := by
  simp only [ContextRecord.bytes, Ramp.context, waitPlace_eq, bitValue, stackBytes]
  cases r.clock.staged <;> cases hs : r.share <;> simp [u16_of_bytes]

theorem State.contextDumped_spec (u : State) (q : Request) (k : Fin 4) :
    let r := u.ramp k
    let bit (b : Bool) (n : Nat) : Nat := if b then n else 0
    let place (l : Fin 3) : Byte := u8 (if l ∈ r.waitOrder then r.waitOrder.idxOf l + 1 else 0)
    let t := u.contextDumped q k
    if u.jobs.any (fun j => j.ramp == k) then u.repliesOnly t q 0x42 .busy []
    else
      u.tells t [] [replyOf u q 0x42 .done
        (u16 (r.rPrev.getD 0xFFFF) ++ u16 ((r.clock.staged.map (fun x => x.period)).getD 0) ++
         [u8 ((r.clock.staged.map (fun x => x.mark.code)).getD 0)] ++ u16 (r.clock.active.getD 0) ++
         [u8 (bit r.clock.staged.isSome 1 + bit (if r.state = .dark then r.startFault.isSome else r.faultPending) 2),
          u8 r.sticky.code, u8 r.last.code, u8 r.recovery] ++ stackBytes r.stack ++
         (r.share.map (fun x => u16 x.reduction)).getD
           [Config.unstatedByte u.freeCount, Config.unstatedByte (u.freeCount + 1)] ++
         [u8 ((r.share.map (fun x => x.lifetime)).getD 0), place 0, place 1, place 2, u8 (r.lane 0).starvation,
          u8 (r.lane 1).starvation, u8 (r.lane 2).starvation, u8 r.pointer.val])] ∧
      t = { u with
        normal := t.normal, normalDropped := t.normalDropped
        freeCount := if r.share.isNone then u.freeCount + 2 else u.freeCount } := by
  intro r bit place t
  by_cases hj : (u.jobs.any (fun j => j.ramp == k)) = true
  · rw [if_pos hj]
    have ht : t = u.reply q 0x42 .busy [] := if_pos hj
    rw [ht]
    exact u.reply_repliesOnly _ _ _ _
  · rw [if_neg hj]
    have ht : t = if (u.ramp k).share.isNone then
        (u.reply q 0x42 .done ((u.ramp k).context u.freeWord).bytes).drew 2
      else u.reply q 0x42 .done ((u.ramp k).context u.freeWord).bytes := if_neg hj
    obtain ⟨h1, h2⟩ := u.reply_repliesOnly q 0x42 .done ((u.ramp k).context u.freeWord).bytes
    simp only [State.freeWord, Ramp.context_bytes] at h1 h2 ht
    by_cases hn : (u.ramp k).share.isNone = true
    · rw [if_pos hn] at ht
      refine ⟨State.tells_congr h1 (by rw [ht]; rfl) (by rw [ht]; rfl) (by rw [ht]; rfl), ?_⟩
      rw [ht, State.drew]
      conv_lhs => rw [h2]
      simp only [r, hn, if_true]
    · rw [if_neg hn] at ht
      rw [ht]
      refine ⟨h1, ?_⟩
      conv_lhs => rw [h2]
      simp only [r, hn, if_false, Bool.false_eq_true]

/-! ## CONTEXT LOAD -/

theorem State.contextFault_eq (u : State) (rec : ContextRecord) :
    let stack := [rec.stack0, rec.stack1, rec.stack2, rec.stack3].take rec.stackCount
    let bad : List (Nat × Bool) := [(1, decide (9999 < rec.rPrev ∧ rec.rPrev ≠ 0xFFFF)), (8, decide (15 < rec.recovery)),
      (9, decide (rec.stackCount < 1 ∨ 4 < rec.stackCount)), (10, stack.any (fun n => (u.plans.get n).isNone)),
      (12, decide (15 < rec.lifetime)),
      (14, decide (15 < rec.starvation0 ∨ 15 < rec.starvation1 ∨ 15 < rec.starvation2)),
      (15, decide (2 < rec.pointer))]
    u.contextFault rec = ((bad.filter (fun x => x.2)).map (fun x => x.1)).head? := by
  refine lowestFailing_eq_head? ?_
  have hstack : ((contextStack rec).any (fun n => (u.plans.get n).isNone)) = !(contextStack rec).all u.planValid := by
    rw [List.all_eq_not_any_not, Bool.not_not]
    congr 1
    funext n
    simp [State.planValid]
  have hout : ∀ lo hi n, (!within lo hi n) = decide (n < lo ∨ hi < n) := fun lo hi n => by
    rw [not_within, Bool.decide_or]
  simp only [List.map_cons, List.map_nil, Bool.not_or, Bool.not_and, hout, Nat.not_lt_zero, false_or, ← hstack,
    ← Bool.decide_or, ← decide_not, or_assoc, ← Bool.decide_and]
  rfl

/-- R174, R101: what a taken CONTEXT LOAD writes, field by field. -/
theorem Ramp.loaded_eq (u : State) (rec : ContextRecord) (r : Ramp) :
    let stack := [rec.stack0, rec.stack1, rec.stack2, rec.stack3].take rec.stackCount
    let sticky := Flags.ofCode rec.sticky
    let judged := (((stack.getLast?.bind u.plans.get).map (fun p => (sticky.inter p.unmasked).any))).getD false
    r.loaded rec (u.loadedPlan rec) = { r with
      carriedRate := if rec.rPrev = 0xFFFF then none else some rec.rPrev
      stack := stack
      share := if rec.lifetime = 0 then none else some ⟨min 5400 rec.reduction, rec.lifetime, false⟩
      sticky := sticky
      last := Flags.ofCode rec.last
      recovery := rec.recovery
      lastResult := .none
      startFault := if rec.bits.testBit 1 ∨ judged = true then some ⟨sticky, judged⟩ else none
      lanes := ⟨{ r.lane 0 with starvation := rec.starvation0 }, { r.lane 1 with starvation := rec.starvation1 },
        { r.lane 2 with starvation := rec.starvation2 }⟩
      pointer := Fin.ofNat 3 rec.pointer } := by
  intro stack sticky judged
  have hplan : u.loadedPlan rec = stack.getLast?.bind u.plans.get := by
    simp only [State.loadedPlan]
    change (match stack.getLast? with | some p => u.plans.get p | none => none) = _
    cases stack.getLast? <;> rfl
  have hfault : loadedFault rec (u.loadedPlan rec) =
      if rec.bits.testBit 1 ∨ judged = true then some ⟨sticky, judged⟩ else none := by
    rw [hplan]
    simp only [loadedFault, judged]
    cases stack.getLast?.bind u.plans.get <;> simp [sticky]
  simp only [Ramp.loaded, hfault]
  rfl

/-- Settles O39. -/
theorem contextIsDumpedAndLoaded : Obligations.ContextIsDumpedAndLoaded := by
  refine ⟨fun q k s hq => ⟨_, rfl, ?_⟩, fun q rec k s hq => ⟨_, rfl, ?_⟩⟩ <;> rw [State.onRamp_of_subject hq]
  · exact State.contextDumped_spec _ q k
  · dsimp only
    generalize s.took _ = u
    have hf := u.contextFault_eq rec
    dsimp only at hf
    simp only [State.contextLoaded]
    by_cases hd : (u.ramp k).state ≠ .dark
    · rw [if_pos hd, if_pos hd]
      exact u.reply_repliesOnly _ _ _ _
    rw [if_neg hd, if_neg hd]
    by_cases hj : u.hasJob k = true
    · rw [if_pos hj]
      refine (if_pos (show (u.jobs.any fun j => j.ramp == k) = true from hj)).mpr ?_
      exact u.reply_repliesOnly _ _ _ _
    rw [if_neg hj]
    refine (if_neg (show ¬(u.jobs.any fun j => j.ramp == k) = true from hj)).mpr ?_
    cases hn : u.contextFault rec with
    | some n =>
      rw [hn] at hf
      rw [if_pos (fun h => by rw [h] at hf; cases hf), List.headD_eq_head?_getD, ← hf]
      exact u.reply_repliesOnly _ _ _ _
    | none =>
      rw [hn] at hf
      rw [if_neg (not_not.mpr (List.head?_eq_none_iff.mp hf.symm)), ← Ramp.loaded_eq]
      exact ((u.rampSet_refl k).updRamp (Ramp.loaded rec (u.loadedPlan rec))).reply q 0x43 .done []

end Sys2Proof.Machine
end

section
/-! PLAN WRITE and PLAN READ: O28. -/

namespace Sys2Proof.Machine

variable {s t u : State} {k : Fin 4} {r : Ramp} {p : Plan}

/-! ## The ramps one after the other -/

/-- An operation on each ramp in ascending order, seen ramp by ramp. -/
theorem State.foldl_updRamp (f : Ramp → Ramp) (s : State) :
    allRamps.foldl (fun s k => s.updRamp k f) s = { s with ramps := Four.tabulate (fun k => f (s.ramp k)) } := rfl

/-- R125: the pick made again of each ramp whose top plan is `n`, a valid plan. -/
theorem State.rerunPlan_eq {n : Nat} (h : s.plans.get n = some p) :
    s.rerunPlan n = { s with ramps := Four.tabulate (fun k =>
      if (s.ramp k).top = n then (s.ramp k).pick p else s.ramp k) } := by
  have hone : ∀ (x : State) (k : Fin 4), x.plans = s.plans →
      (if (x.ramp k).top = n then x.rerunPick k else x) = x.updRamp k (fun r => if r.top = n then r.pick p else r) := by
    intro x k hx
    by_cases hk : (x.ramp k).top = n
    · have hp : x.topPlan k = some p := by rw [State.topPlan, hk, hx, h]
      rw [if_pos hk]
      simp only [State.rerunPick, State.withPlan, hp, State.updRamp, if_pos hk]
    · rw [if_neg hk]
      simp only [State.updRamp, if_neg hk, State.setRamp]
      rw [State.ramp, Four.set_get]
  have hfold : ∀ (l : List (Fin 4)) (x : State), x.plans = s.plans →
      l.foldl (fun s k => if (s.ramp k).top = n then s.rerunPick k else s) x =
        l.foldl (fun s k => s.updRamp k (fun r => if r.top = n then r.pick p else r)) x := by
    intro l
    induction l with
    | nil => exact fun _ _ => rfl
    | cons k l ih =>
      intro x hx
      rw [List.foldl_cons, List.foldl_cons, hone x k hx]
      exact ih _ hx
  rw [State.rerunPlan, hfold allRamps s rfl, State.foldl_updRamp]

/-! ## The bytes of a plan -/

theorem bitValue_testBit (n i w : Nat) : bitValue (n.testBit i) w = w * (n / 2 ^ i % 2) := by
  rw [bitValue, Nat.testBit_eq_decide_div_mod_eq]
  simp only [decide_eq_true_eq]
  split
  · rename_i h
    rw [h, Nat.mul_one]
  · rename_i h
    rw [Nat.mod_two_ne_one.mp h, Nat.mul_zero]

theorem Flags.code_ofCode (n : Nat) : (Flags.ofCode n).code = n % 64 := by
  simp only [Flags.code, Flags.ofCode, bitValue_testBit]
  omega

theorem Rounding.code_ofCode {n : Nat} (h : n ≤ 2) : (Rounding.ofCode n).code = n := by
  interval_cases n <;> rfl

theorem Leveling.code_ofCode {n : Nat} (h : n ≤ 2) : (Leveling.ofCode n).code = n := by
  interval_cases n <;> rfl

theorem bitValue_decide_one {n : Nat} (h : n ≤ 1) : bitValue (decide (n = 1)) 1 = n := by
  interval_cases n <;> rfl

/-- R38, R181: a plan record that was written reads back, but for the bits of its mask that name no flag. -/
theorem planOf_record {rec : PlanRecord} (hf : planFault rec = none) :
    (planOf rec).record = { rec with mask := rec.mask % 64 } := by
  simp only [planFault, lowestFailing_eq_none, List.forall_mem_cons, within_iff] at hf
  obtain ⟨-, -, -, -, -, -, -, -, -, -, -, -, -, -, -, -, -, ⟨-, hrounding⟩, ⟨-, hgating⟩, ⟨-, hleveling⟩, -⟩ := hf
  simp only [Plan.record, planOf, Rounding.code_ofCode hrounding, bitValue_decide_one hgating,
    Leveling.code_ofCode hleveling, Flags.code_ofCode]

/-! ## The requests -/

/-- R40, R41, R125: a PLAN WRITE that passes its checks. -/
theorem State.planTaken_spec (u : State) (q : Request) (rec : PlanRecord) :
    let plans := u.plans.insert q.subject (planOf rec)
    let t := (State.settled u ({ u with plans := plans }.rerunPlan q.subject)).reply q 0x20 .done []
    t.plans = plans ∧ u.tells t [] [replyOf u q 0x20 .done []] ∧
    t = u.told { u with
      plans := t.plans, normal := t.normal, normalDropped := t.normalDropped
      ramps := Four.tabulate (fun k =>
        if (u.ramp k).top = q.subject then (u.ramp k).pick (planOf rec) else u.ramp k) } [] := by
  intro plans t
  have hget : ({ u with plans := plans } : State).plans.get q.subject = some (planOf rec) := by
    simp [plans]
  have ht : t = (u.told { u with
      plans := plans
      ramps := Four.tabulate (fun k =>
        if (u.ramp k).top = q.subject then (u.ramp k).pick (planOf rec) else u.ramp k) } []).reply q 0x20 .done [] := by
    simp only [t]
    rw [State.rerunPlan_eq hget, State.settled_eq_told]
    rfl
  obtain ⟨h1, h2⟩ := (u.told { u with
      plans := plans
      ramps := Four.tabulate (fun k =>
        if (u.ramp k).top = q.subject then (u.ramp k).pick (planOf rec) else u.ramp k) } []).reply_repliesOnly q 0x20 .done []
  rw [← ht] at h1 h2
  have hplans : t.plans = plans := by
    rw [h2]
    rfl
  refine ⟨hplans, State.tells_base h1 rfl rfl rfl rfl rfl, ?_⟩
  rw [hplans]
  exact h2

theorem State.planWritten_spec (u : State) (q : Request) (rec : PlanRecord) (hq : q.subject < 16) :
    let t := u.planWritten q rec
    (∀ n, planFault rec = some n → u.repliesOnly t q 0x20 .badValue [u8 n]) ∧
    (planFault rec = none →
      (∀ n, t.plans.get n = if n = q.subject then some (planOf rec) else u.plans.get n) ∧
      u.tells t [] [replyOf u q 0x20 .done []] ∧
      t = u.told { u with
        plans := t.plans, normal := t.normal, normalDropped := t.normalDropped
        ramps := Four.tabulate (fun k =>
          if (u.ramp k).top = q.subject then (u.ramp k).pick (planOf rec) else u.ramp k) } []) := by
  have hin : ¬within 0 15 q.subject = false := by
    rw [within_eq_false]
    omega
  dsimp only
  simp only [State.planWritten]
  rw [if_neg hin]
  refine ⟨fun n hn => ?_, fun hn => ?_⟩
  · rw [hn]
    exact u.reply_repliesOnly _ _ _ _
  · rw [hn]
    obtain ⟨hplans, htells, heq⟩ := u.planTaken_spec q rec
    refine ⟨fun n => ?_, htells, heq⟩
    dsimp only at hplans ⊢
    rw [hplans, Table.get_insert]

/-- Settles O28. -/
theorem planWriteReplacesTheRecord : Obligations.PlanWriteReplacesTheRecord := by
  refine ⟨fun q rec s hq => ⟨_, rfl, State.planWritten_spec _ q rec hq⟩, fun q s hq => ⟨_, rfl, ?_⟩, fun rec _ hf => ?_,
    fun rec => ?_⟩
  · have hin : ¬within 0 15 q.subject = false := by
      rw [within_eq_false]
      omega
    dsimp only
    generalize s.took _ = u
    simp only [State.planRead]
    rw [if_neg hin]
    refine ⟨fun hn => ?_, fun p hp => ?_⟩
    · rw [hn]
      exact u.reply_repliesOnly _ _ _ _
    · rw [hp]
      exact u.reply_repliesOnly _ _ _ _
  · rw [planOf_record hf]
  · refine lowestFailing_eq_head? ?_
    simp only [List.map_cons, List.map_nil, not_within]

end Sys2Proof.Machine
end

section
/-! What the triggers of an event make of the ramps, in closed form (R17 to R20, R125, R128, R130, R135). -/

namespace Sys2Proof.Machine

variable {s t u : State} {k : Fin 4} {r : Ramp} {p : Plan} {touched : Nat → Bool} {d : Fin 3 → Option Bool}

/-! ## Demand -/

/-- R18, R135: lane `l` has a demand state derived, unless `d` says none; a value other than the last one is delivered. -/
def Ramp.deliver (d : Fin 3 → Option Bool) (r : Ramp) (l : Fin 3) : Ramp :=
  match d l with
  | none => r
  | some b => if b = (r.lane l).demand then r else r.deliverDemand l b

/-- R18, R135: `Ramp.demanding` for the lanes of a list, in its order. -/
def Ramp.demandingOn (d : Fin 3 → Option Bool) (order : List (Fin 3)) (r : Ramp) : Ramp :=
  let before (l : Fin 3) : Bool := (r.lane l).demand
  let now (l : Fin 3) : Bool := (d l).getD (before l)
  { r with
    lanes := Three.tabulate (fun l => if l ∈ order then { r.lane l with demand := now l } else r.lane l)
    waitOrder := r.waitOrder.filter (fun l => decide (l ∉ order) || now l || !before l) ++
      order.filter (fun l => now l && !before l && decide ((r.lane l).cycle = .ready) && decide (l ∉ r.waitOrder)) }

theorem Ramp.lane_demandingOn (r : Ramp) (order : List (Fin 3)) (l : Fin 3) : (r.demandingOn d order).lane l =
    if l ∈ order then { r.lane l with demand := (d l).getD (r.lane l).demand } else r.lane l := by
  simp [Ramp.demandingOn, Ramp.lane]

theorem Ramp.demandingOn_nil (r : Ramp) : r.demandingOn d [] = r := by
  simp [Ramp.demandingOn, Ramp.lanes_eq]

/-- A lane whose demand state stays is derived without effect. -/
theorem Ramp.demandingOn_same {order : List (Fin 3)} {l : Fin 3} (hl : l ∉ order)
    (hd : (d l).getD (r.lane l).demand = (r.lane l).demand) : r.demandingOn d (order ++ [l]) = r.demandingOn d order := by
  have hlane : ∀ j, (r.demandingOn d (order ++ [l])).lane j = (r.demandingOn d order).lane j := fun j => by
    rw [Ramp.lane_demandingOn, Ramp.lane_demandingOn]
    by_cases hj : j = l
    · subst hj
      simp only [List.mem_append, List.mem_singleton, or_true, if_true, hd, if_neg hl]
    · simp only [List.mem_append, List.mem_singleton, hj, or_false]
  have hstay : ∀ j, (decide (j ∉ order ++ [l]) || (d j).getD (r.lane j).demand || !(r.lane j).demand) =
      (decide (j ∉ order) || (d j).getD (r.lane j).demand || !(r.lane j).demand) := fun j => by
    by_cases hj : j = l
    · subst hj
      rw [hd]
      cases (r.lane j).demand <;> simp [hl]
    · simp [hj]
  have hlanes : (r.demandingOn d (order ++ [l])).lanes = (r.demandingOn d order).lanes := Three.ext_get hlane
  simp only [Ramp.demandingOn] at hlanes ⊢
  rw [hlanes]
  simp only [hstay, List.filter_append, List.filter_cons, List.filter_nil, hd, Bool.and_not_self, Bool.false_and,
    Bool.false_eq_true, if_false, List.append_nil]

theorem Ramp.mem_waitOrder_demandingOn {order : List (Fin 3)} {l : Fin 3} (hl : l ∉ order) :
    l ∈ (r.demandingOn d order).waitOrder ↔ l ∈ r.waitOrder := by
  simp [Ramp.demandingOn, hl]

/-- A lane whose demand became present joins the tail of the wait order, if it is READY and not there. -/
theorem Ramp.demandingOn_arrived {order : List (Fin 3)} {l : Fin 3} (hl : l ∉ order) (hd : d l = some true)
    (hb : (r.lane l).demand = false) : (r.demandingOn d order).deliverDemand l true = r.demandingOn d (order ++ [l]) := by
  have hlane : (r.demandingOn d order).lane l = r.lane l := by rw [Ramp.lane_demandingOn, if_neg hl]
  have hlanes : ((r.demandingOn d order).updLane l (fun x => { x with demand := true })).lanes =
      (r.demandingOn d (order ++ [l])).lanes := by
    refine Three.ext_get fun j => ?_
    change (Ramp.updLane _ _ _).lane j = (Ramp.demandingOn _ _ _).lane j
    rw [Ramp.lane_updLane, Ramp.lane_demandingOn, Ramp.lane_demandingOn, Ramp.lane_demandingOn]
    by_cases hj : j = l
    · subst hj
      simp [hl, hd]
    · simp [hj]
  have hstay : r.waitOrder.filter (fun j => decide (j ∉ order ++ [l]) || (d j).getD (r.lane j).demand || !(r.lane j).demand) =
      r.waitOrder.filter (fun j => decide (j ∉ order) || (d j).getD (r.lane j).demand || !(r.lane j).demand) := by
    refine List.filter_congr fun j _ => ?_
    by_cases hj : j = l
    · subst hj
      simp [hd]
    · simp [hj]
  simp only [Ramp.deliverDemand, if_true, hlane, Ramp.joinWait, List.contains_iff_mem]
  have hmem : l ∈ ((r.demandingOn d order).updLane l (fun x => { x with demand := true })).waitOrder ↔ l ∈ r.waitOrder :=
    Ramp.mem_waitOrder_demandingOn hl
  have hjoin : (order ++ [l]).filter (fun j => (d j).getD (r.lane j).demand && !(r.lane j).demand &&
        decide ((r.lane j).cycle = .ready) && decide (j ∉ r.waitOrder)) =
      order.filter (fun j => (d j).getD (r.lane j).demand && !(r.lane j).demand &&
        decide ((r.lane j).cycle = .ready) && decide (j ∉ r.waitOrder)) ++
      if (r.lane l).cycle = .ready ∧ l ∉ r.waitOrder then [l] else [] := by
    simp [List.filter_append, List.filter_cons, hd, hb]
  have heq : r.demandingOn d (order ++ [l]) =
      { (r.demandingOn d order).updLane l (fun x => { x with demand := true }) with
        waitOrder := (r.demandingOn d order).waitOrder ++
          if (r.lane l).cycle = .ready ∧ l ∉ r.waitOrder then [l] else [] } := by
    rw [Ramp.updLane] at hlanes ⊢
    dsimp only at hlanes ⊢
    rw [hlanes]
    simp only [Ramp.demandingOn, hstay, hjoin, List.append_assoc]
  rw [heq]
  by_cases hc : (r.lane l).cycle = .ready
  · by_cases hw : l ∈ r.waitOrder
    · rw [if_pos hc, if_pos (hmem.mpr hw), if_neg fun h => h.2 hw, List.append_nil]
      rfl
    · rw [if_pos hc, if_neg fun h => hw (hmem.mp h), if_pos ⟨hc, hw⟩]
      rfl
  · rw [if_neg hc, if_neg fun h => hc h.1, List.append_nil]
    rfl

/-- A lane whose demand became absent leaves the wait order. -/
theorem Ramp.demandingOn_left {order : List (Fin 3)} {l : Fin 3} (hl : l ∉ order) (hd : d l = some false)
    (hb : (r.lane l).demand = true) : (r.demandingOn d order).deliverDemand l false = r.demandingOn d (order ++ [l]) := by
  have hlanes : ((r.demandingOn d order).updLane l (fun x => { x with demand := false })).lanes =
      (r.demandingOn d (order ++ [l])).lanes := by
    refine Three.ext_get fun j => ?_
    change (Ramp.updLane _ _ _).lane j = (Ramp.demandingOn _ _ _).lane j
    rw [Ramp.lane_updLane, Ramp.lane_demandingOn, Ramp.lane_demandingOn, Ramp.lane_demandingOn]
    by_cases hj : j = l
    · subst hj
      simp [hl, hd]
    · simp [hj]
  have hwait : (r.demandingOn d order).waitOrder.filter (fun j => j != l) = (r.demandingOn d (order ++ [l])).waitOrder := by
    simp only [Ramp.demandingOn, List.filter_append, List.filter_filter]
    have h1 : r.waitOrder.filter (fun j => (j != l) && (decide (j ∉ order) || (d j).getD (r.lane j).demand || !(r.lane j).demand)) =
        r.waitOrder.filter (fun j => decide (j ∉ order ++ [l]) || (d j).getD (r.lane j).demand || !(r.lane j).demand) := by
      refine List.filter_congr fun j _ => ?_
      by_cases hj : j = l
      · subst hj
        simp [hd, hb]
      · simp [hj]
    have h2 : order.filter (fun j => (j != l) && ((d j).getD (r.lane j).demand && !(r.lane j).demand &&
          decide ((r.lane j).cycle = .ready) && decide (j ∉ r.waitOrder))) =
        order.filter (fun j => (d j).getD (r.lane j).demand && !(r.lane j).demand &&
          decide ((r.lane j).cycle = .ready) && decide (j ∉ r.waitOrder)) := by
      refine List.filter_congr fun j hj => ?_
      have hjl : j ≠ l := fun h => hl (h ▸ hj)
      simp [hjl]
    rw [h1, h2]
    simp [hd]
  simp only [Ramp.deliverDemand, Bool.false_eq_true, if_false, Ramp.leaveWait]
  rw [Ramp.updLane] at hlanes ⊢
  dsimp only at hlanes ⊢
  rw [hlanes, hwait]
  rfl

/-- R18, R135: demand derived lane after lane. -/
theorem Ramp.foldl_deliver {order : List (Fin 3)} (hn : order.Nodup) (r : Ramp) :
    order.foldl (Ramp.deliver d) r = r.demandingOn d order := by
  induction order using List.reverseRecOn with
  | nil => exact r.demandingOn_nil.symm
  | append_singleton order l ih =>
    obtain ⟨hn', -, hl⟩ := List.nodup_append.mp hn
    have hl : l ∉ order := fun hm => hl l hm l (List.mem_singleton.mpr rfl) rfl
    have hlane : (r.demandingOn d order).lane l = r.lane l := by rw [Ramp.lane_demandingOn, if_neg hl]
    rw [List.foldl_append, ih hn', List.foldl_cons, List.foldl_nil]
    simp only [Ramp.deliver, hlane]
    cases hd : d l with
    | none => exact (Ramp.demandingOn_same hl (by rw [hd]; rfl)).symm
    | some b =>
      by_cases hb : b = (r.lane l).demand
      · simp only [if_pos hb]
        exact (Ramp.demandingOn_same hl (by rw [hd]; exact hb)).symm
      · simp only [if_neg hb]
        cases b with
        | true => exact Ramp.demandingOn_arrived hl hd (by simpa using hb)
        | false => exact Ramp.demandingOn_left hl hd (by simpa using hb)

theorem Ramp.rotation_nodup (r : Ramp) : r.rotation.Nodup := by
  refine List.Nodup.filter _ ?_
  generalize r.pointer = x
  revert x
  decide

theorem Ramp.mem_rotation (r : Ramp) (l : Fin 3) : l ∈ r.rotation ↔ r.used l = true := by
  have : ∀ x l : Fin 3, l ∈ [x + 1, x + 2, x] := by decide
  simp [Ramp.rotation, List.mem_filter, this]

/-- R18, R135: with demand states derived for used lanes alone, rotation order is all that matters. -/
theorem Ramp.demandingOn_rotation (hd : ∀ l, r.used l = false → d l = none) :
    r.demandingOn d r.rotation = r.demanding d := by
  have hnow : ∀ l, l ∉ r.rotation → (d l).getD (r.lane l).demand = (r.lane l).demand := fun l hl => by
    rw [Ramp.mem_rotation, Bool.not_eq_true] at hl
    rw [hd l hl]
    rfl
  have hlanes : (Three.tabulate (fun l => if l ∈ r.rotation then { r.lane l with demand := (d l).getD (r.lane l).demand }
      else r.lane l)) = Three.tabulate (fun l => { r.lane l with demand := (d l).getD (r.lane l).demand }) := by
    refine Three.ext_get fun l => ?_
    rw [Three.get_tabulate, Three.get_tabulate]
    by_cases hl : l ∈ r.rotation
    · rw [if_pos hl]
    · rw [if_neg hl, hnow l hl]
  have hstay : r.waitOrder.filter (fun l => decide (l ∉ r.rotation) || (d l).getD (r.lane l).demand || !(r.lane l).demand) =
      r.waitOrder.filter (fun l => (d l).getD (r.lane l).demand || !(r.lane l).demand) := by
    refine List.filter_congr fun l _ => ?_
    by_cases hl : l ∈ r.rotation
    · simp [hl]
    · rw [hnow l hl]
      cases (r.lane l).demand <;> simp
  have hjoin : r.rotation.filter (fun l => (d l).getD (r.lane l).demand && !(r.lane l).demand &&
        decide ((r.lane l).cycle = .ready) && decide (l ∉ r.waitOrder)) =
      [r.pointer + 1, r.pointer + 2, r.pointer].filter (fun l => r.used l && (d l).getD (r.lane l).demand &&
        !(r.lane l).demand && decide ((r.lane l).cycle = .ready) &&
        decide (l ∉ r.waitOrder.filter (fun l => (d l).getD (r.lane l).demand || !(r.lane l).demand))) := by
    rw [Ramp.rotation, List.filter_filter]
    refine List.filter_congr fun l _ => ?_
    cases hu : r.used l
    · simp
    · cases hn : (d l).getD (r.lane l).demand
      · simp
      · simp [List.mem_filter, hn]
  simp only [Ramp.demandingOn, Ramp.demanding]
  rw [hlanes, hstay, hjoin]

end Sys2Proof.Machine
end

section
/-! The triggers of an event as `State.triggeredRamp` says them, ramp by ramp (R17 to R20, R125, R128, R130). -/

namespace Sys2Proof.Machine

variable {s t u : State} {k : Fin 4} {r : Ramp} {p : Plan} {touched : Nat → Bool} {d : Fin 3 → Option Bool}

/-! ## Demand derived on a state -/

/-- R18: the demand states that a derivation of all used lanes of ramp `k` gives. -/
def State.demandsNow (s : State) (k : Fin 4) (l : Fin 3) : Option Bool := ((s.ramp k).laneConfig l).map (s.demandNow k)

theorem State.ramp_setRamp_self (s : State) (k : Fin 4) (r : Ramp) : (s.setRamp k r).ramp k = r := by
  rw [State.ramp, State.setRamp_ramps, Four.get_set, if_pos rfl]

theorem State.setRamp_self (s : State) (k : Fin 4) : s.setRamp k (s.ramp k) = s := by
  simp only [State.setRamp, State.ramp, Four.set_get]

theorem State.setRamp_setRamp (s : State) (k : Fin 4) (r r' : Ramp) : (s.setRamp k r).setRamp k r' = s.setRamp k r' := by
  simp only [State.setRamp, Four.set_set]

theorem State.updRamp_setRamp (s : State) (k : Fin 4) (r : Ramp) (f : Ramp → Ramp) :
    (s.setRamp k r).updRamp k f = s.setRamp k (f r) := by
  rw [State.updRamp, State.ramp_setRamp_self, State.setRamp_setRamp]

theorem Ramp.laneConfig_congr {r r' : Ramp} (h : r'.config = r.config) (l : Fin 3) : r'.laneConfig l = r.laneConfig l := by
  simp only [Ramp.laneConfig, h]

theorem Ramp.config_deliver (d : Fin 3 → Option Bool) (r : Ramp) (l : Fin 3) : (Ramp.deliver d r l).config = r.config := by
  simp only [Ramp.deliver]
  split
  · rfl
  · split
    · rfl
    · simp

/-- R18: the demand of one lane derived. -/
theorem State.deriveDemand_setRamp (hc : r.config = (s.ramp k).config) (l : Fin 3) :
    (s.setRamp k r).deriveDemand k l = s.setRamp k (Ramp.deliver (s.demandsNow k) r l) := by
  have hl : r.laneConfig l = (s.ramp k).laneConfig l := Ramp.laneConfig_congr hc l
  have hnow : ∀ c, (s.setRamp k r).demandNow k c = s.demandNow k c := fun _ => rfl
  simp only [State.deriveDemand, Ramp.deliver, State.demandsNow, State.ramp_setRamp_self, hl]
  cases (s.ramp k).laneConfig l with
  | none => rfl
  | some c =>
    simp only [hnow, Option.map_some]
    split
    · rfl
    · exact State.updRamp_setRamp s k r _

theorem State.demandConcerned_setRamp (hc : r.config = (s.ramp k).config) (l : Fin 3) :
    (s.setRamp k r).demandConcerned touched k l = s.demandConcerned touched k l := by
  have hl : r.laneConfig l = (s.ramp k).laneConfig l := Ramp.laneConfig_congr hc l
  simp only [State.demandConcerned, State.ramp_setRamp_self, hl]
  rfl

theorem State.touches_eq (s : State) (touched : Nat → Bool) (i : Nat) : s.concerns touched i = s.touches touched i := by
  simp only [State.concerns, State.touches]
  cases s.detector i with
  | none => rfl
  | some x => cases hx : x.config.substitute <;> simp [hx]

theorem State.derivedDemand_eq (s : State) (touched : Nat → Bool) (k : Fin 4) (l : Fin 3) :
    s.derivedDemand touched k l = if s.demandConcerned touched k l then s.demandsNow k l else none := by
  simp only [State.derivedDemand, State.demandConcerned, State.demandsNow, State.touches_eq]
  cases (s.ramp k).laneConfig l with
  | none => rfl
  | some c => cases hc : c.demand <;> simp [hc]

/-- R18, R135: the concerned lanes of a list derived. -/
theorem State.foldl_deriveDemand {which : State → Fin 3 → Bool}
    (hw : ∀ r l, r.config = (s.ramp k).config → which (s.setRamp k r) l = which s l) (order : List (Fin 3))
    (hc : r.config = (s.ramp k).config) :
    order.foldl (fun s l => if which s l then s.deriveDemand k l else s) (s.setRamp k r) =
      s.setRamp k (order.foldl (Ramp.deliver (fun l => if which s l then s.demandsNow k l else none)) r) := by
  induction order generalizing r with
  | nil => rfl
  | cons l rest ih =>
    rw [List.foldl_cons, List.foldl_cons, hw r l hc]
    have hstep : (if which s l then (s.setRamp k r).deriveDemand k l else s.setRamp k r) =
        s.setRamp k (Ramp.deliver (fun l => if which s l then s.demandsNow k l else none) r l) := by
      by_cases hl : which s l = true
      · rw [if_pos hl, State.deriveDemand_setRamp hc]
        simp only [Ramp.deliver, if_pos hl]
      · rw [if_neg hl]
        simp only [Ramp.deliver, if_neg hl]
    rw [hstep]
    exact ih ((Ramp.config_deliver _ _ _).trans hc)

theorem State.demandsNow_unused (s : State) (k : Fin 4) (l : Fin 3) (h : (s.ramp k).used l = false) :
    s.demandsNow k l = none := by
  rw [Ramp.used, Option.isSome_eq_false_iff, Option.isNone_iff_eq_none] at h
  rw [State.demandsNow, h, Option.map_none]

/-- R18, R135: the concerned lanes of ramp `k` derived, in rotation order. -/
theorem State.deriveDemands_eq (s : State) (touched : Nat → Bool) (k : Fin 4) :
    s.deriveDemands touched k = s.setRamp k ((s.ramp k).demanding (s.derivedDemand touched k)) := by
  have h := State.foldl_deriveDemand (which := fun s l => s.demandConcerned touched k l)
    (fun r l hc => State.demandConcerned_setRamp hc l) (s.ramp k).rotation (r := s.ramp k) rfl
  rw [State.setRamp_self] at h
  have hd : (fun l => if s.demandConcerned touched k l then s.demandsNow k l else none) = s.derivedDemand touched k :=
    funext fun l => (s.derivedDemand_eq touched k l).symm
  rw [State.deriveDemands, h, hd, Ramp.foldl_deliver (Ramp.rotation_nodup _), Ramp.demandingOn_rotation]
  intro l hl
  rw [State.derivedDemand_eq, State.demandsNow_unused s k l hl, ite_self]

/-- R18, R135: all used lanes of ramp `k` derived. -/
theorem State.deriveAllDemands_eq (s : State) (k : Fin 4) :
    s.deriveAllDemands k = s.setRamp k ((s.ramp k).demanding (s.demandsNow k)) := by
  have h := State.foldl_deriveDemand (which := fun _ _ => true) (fun _ _ _ => rfl) (s.ramp k).rotation (r := s.ramp k) rfl
  rw [State.setRamp_self] at h
  simp only [if_true] at h
  have hd : (fun l => s.demandsNow k l) = s.demandsNow k := rfl
  rw [State.deriveAllDemands, h, hd, Ramp.foldl_deliver (Ramp.rotation_nodup _), Ramp.demandingOn_rotation]
  exact fun l hl => State.demandsNow_unused s k l hl

/-! ## Spill -/

theorem RampState.metersOrHeld_iff {x : RampState} : x.metersOrHeld = true ↔
    (x = .metering ∨ x = .suspended .metering) ∨ x = .fallback ∨ x = .suspended .fallback := by
  cases x with
  | suspended h => cases h <;> simp [RampState.metersOrHeld]
  | _ => simp [RampState.metersOrHeld]

/-- R128: the staged period that an assertion of spill keeps. -/
abbrev Clock.keepsStaged (c : Clock) (p : Plan) : Prop :=
  (c.staged.map (fun x => x.mark)) = some .returning ∨
  (c.staged.map (fun x => decide (x.mark = .computed) && decide (x.period ≤ p.flushPeriod))) = some true

theorem Clock.keepsStaged_iff (c : Clock) (p : Plan) :
    ((match c.staged with
      | none => false
      | some x => match x.mark with
        | .returning => true
        | .computed => decide (x.period ≤ p.flushPeriod)
        | .flush => false) = true) ↔ c.keepsStaged p := by
  simp only [Clock.keepsStaged]
  cases c.staged with
  | none => simp
  | some x => cases hx : x.mark <;> simp [hx]

/-- R128: an assertion of spill takes a flush: the ramp meters or recovers, and the flush period is the shorter. -/
def Ramp.takesFlush (r : Ramp) (p : Plan) : Prop :=
  ((r.state = .metering ∨ r.state = .suspended .metering) ∨ r.state = .fallback ∨ r.state = .suspended .fallback) ∧
  (r.clock.active.map (fun a => decide (p.flushPeriod < a))) = some true

theorem Ramp.flushStart_of_takesFlush (h : r.takesFlush p) : r.flushStart p = r.updClock (fun c => { c with
    flush := some p.flushPeriod
    staged := if r.clock.keepsStaged p then c.staged else some ⟨p.flushPeriod, .flush⟩ }) := by
  obtain ⟨hs, ha⟩ := h
  obtain ⟨a, hact, hlt⟩ := Option.map_eq_some_iff.mp ha
  have hc : (r.state.metersOrHeld && decide (p.flushPeriod < a)) = true := by
    rw [RampState.metersOrHeld_iff.mpr hs, hlt]
    rfl
  simp only [Ramp.flushStart, hact]
  rw [if_pos hc]
  refine congrArg r.updClock (funext fun c => ?_)
  congr 1
  exact if_congr (Clock.keepsStaged_iff r.clock p) rfl rfl

theorem Ramp.flushStart_of_not (h : ¬r.takesFlush p) : r.flushStart p = r := by
  simp only [Ramp.flushStart]
  split
  · rfl
  · rename_i a hact
    refine if_neg fun hc => h ?_
    rw [Bool.and_eq_true] at hc
    exact ⟨RampState.metersOrHeld_iff.mp hc.1, by rw [hact, Option.map_some, hc.2]⟩

/-- R20, R128: an assertion of spill. -/
theorem Ramp.spilling_assert (r : Ramp) (p : Plan) (h : r.spill = false) :
    ({ r with spill := true } : Ramp).flushStart p = r.spilling p true := by
  by_cases hf : r.takesFlush p
  · rw [Ramp.flushStart_of_takesFlush (r := { r with spill := true }) hf]
    simp only [Ramp.spilling, h, true_and, Bool.true_eq_false, false_and, if_false]
    have hf' := hf
    simp only [Ramp.takesFlush] at hf'
    simp only [if_pos hf']
    rfl
  · rw [Ramp.flushStart_of_not (r := { r with spill := true }) hf]
    have hf' := hf
    simp only [Ramp.takesFlush] at hf'
    simp only [Ramp.spilling, h, true_and, Bool.true_eq_false, false_and, if_false]
    simp only [if_neg hf']

/-- R130: a RETURN period is staged. -/
abbrev Clock.holdsReturn (c : Clock) : Prop := (c.staged.map (fun x => x.mark)) = some .returning

/-- R20, R130: a clearing of spill. -/
theorem Ramp.spilling_clear (r : Ramp) (p : Plan) (h : r.spill = true) :
    ({ r with spill := false } : Ramp).flushEnd p = r.spilling p false := by
  simp only [Ramp.spilling, h, Bool.false_eq_true, Bool.true_eq_false, false_and, and_false, if_false, true_and]
  cases hf : r.clock.flush with
  | none =>
    simp only [Ramp.flushEnd, hf, ne_eq, not_true, false_and, if_false]
    rw [← hf]
  | some f =>
    simp only [Ramp.flushEnd, hf, ne_eq, reduceCtorEq, not_false_iff, true_and, if_true]
    by_cases hr : r.state = .fallback ∨ r.state = .suspended .fallback
    · have hm : ¬(r.state = .metering ∨ r.state = .suspended .metering) := by
        rcases hr with hr | hr <;> rw [hr] <;> simp
      rw [if_pos (RampState.fallbackOrHeld_iff.mpr hr)]
      simp only [hr, hm, true_and, false_and, if_false, Clock.returnStaged_iff]
      by_cases hret : r.clock.holdsReturn
      · rw [if_pos hret, if_neg (not_not.mpr hret)]
        rfl
      · rw [if_neg hret, if_pos hret]
        rfl
    · rw [if_neg fun h => hr (RampState.fallbackOrHeld_iff.mp h)]
      simp only [hr, false_and, if_false]
      by_cases hm : r.state = .metering ∨ r.state = .suspended .metering
      · rw [if_pos (RampState.metersOrHeld_iff.mpr (.inl hm))]
        simp only [hm, true_and]
        cases hc : r.clock.computed <;> simp [Ramp.updClock, Ramp.stage, hc]
      · rw [if_neg fun h => (RampState.metersOrHeld_iff.mp h).elim hm hr]
        simp only [hm, false_and, if_false]
        rfl

/-- R20: an evaluation that leaves the spill condition leaves the ramp. -/
theorem Ramp.spilling_same (r : Ramp) (p : Plan) : r.spilling p r.spill = r := by
  have h1 : ¬(r.spill = true ∧ r.spill = false ∧ ((r.state = .metering ∨ r.state = .suspended .metering) ∨
      (r.state = .fallback ∨ r.state = .suspended .fallback)) ∧
      (r.clock.active.map (fun a => decide (p.flushPeriod < a))) = some true) := fun h => by
    rw [h.1] at h
    exact absurd h.2.1 (by simp)
  have h2 : ¬(r.spill = false ∧ r.spill = true ∧ r.clock.flush ≠ none) := fun h => by
    rw [h.1] at h
    exact absurd h.2.1 (by simp)
  simp only [Ramp.spilling, h1, h2, false_and, if_false]

/-- R20, R128, R130: the spill condition evaluated to `now`. -/
theorem Ramp.spilling_eq (r : Ramp) (p : Plan) (now : Bool) : r.spilling p now =
    if now = r.spill then r
    else if now then ({ r with spill := now } : Ramp).flushStart p else ({ r with spill := now } : Ramp).flushEnd p := by
  by_cases h : now = r.spill
  · rw [if_pos h, h, Ramp.spilling_same]
  · rw [if_neg h]
    cases now with
    | true => exact (Ramp.spilling_assert r p (by simpa using h)).symm
    | false => exact (Ramp.spilling_clear r p (by simpa using h)).symm

theorem State.spillRows_eq (s : State) (k : Fin 4) : s.spillEntries k = s.spillRows k := by
  simp only [State.spillEntries, State.spillRows, Bool.decide_and]

theorem State.sourceEntry_eq (s : State) (k : Fin 4) (role : Role) (i : Nat) :
    s.sourceEntry k role i = (s.source k role i).bind s.detector := by
  simp only [State.sourceEntry]
  cases s.source k role i <;> rfl

/-- R20: the spill condition that an evaluation gives. -/
theorem State.spillNow_setRamp (s : State) (k : Fin 4) (r : Ramp) (p : Plan) :
    (s.setRamp k r).spillNow k (p.spillTime * 1000) = s.spillJudged k p r.spill := by
  have hs : (s.setRamp k r).spillSources k = (s.spillRows k).filterMap (fun i => (s.source k .spill i).bind s.detector) := by
    rw [← State.spillRows_eq]
    simp only [← State.sourceEntry_eq]
    rfl
  simp only [State.spillNow, State.spillJudged, State.ramp_setRamp_self, hs]
  split
  · rw [List.all_eq_not_any_not, Bool.not_not]
    congr 1
    funext x
    rw [← decide_not]
    simp only [not_le]
  · rfl

theorem State.topPlan_setRamp (hs : r.stack = (s.ramp k).stack) : (s.setRamp k r).topPlan k = s.topPlan k := by
  have ht : r.top = (s.ramp k).top := by simp only [Ramp.top, hs]
  simp only [State.topPlan, State.ramp_setRamp_self, ht]
  rfl

/-- R20, R128, R130: the spill of ramp `k` evaluated. -/
theorem State.evaluateSpill_setRamp (hs : r.stack = (s.ramp k).stack) : (s.setRamp k r).evaluateSpill k = s.setRamp k
    (if r.state = .dark then r else ((s.topPlan k).map (fun p => r.spilling p (s.spillJudged k p r.spill))).getD r) := by
  simp only [State.evaluateSpill, State.ramp_setRamp_self, State.topPlan_setRamp hs]
  by_cases hd : r.state = .dark
  · rw [if_pos hd, if_pos hd]
  rw [if_neg hd, if_neg hd]
  cases s.topPlan k with
  | none => rfl
  | some p =>
    simp only [Option.map_some, Option.getD_some, State.spillNow_setRamp, Ramp.spilling_eq, State.updRamp_setRamp]
    split
    · rfl
    · congr 1

end Sys2Proof.Machine
end

section
/-! All triggers of an event in closed form (R17 to R20), and STATION_TIMER_EXPIRY: O23. -/

namespace Sys2Proof.Machine

variable {s t u : State} {k : Fin 4} {r : Ramp} {p : Plan} {touched : Nat → Bool} {due : Fin 4 → Bool}

/-! ## The triggers of one ramp -/

theorem Ramp.stack_demanding (r : Ramp) (d : Fin 3 → Option Bool) : (r.demanding d).stack = r.stack := rfl

theorem Ramp.state_demanding (r : Ramp) (d : Fin 3 → Option Bool) : (r.demanding d).state = r.state := rfl

theorem Ramp.spill_demanding (r : Ramp) (d : Fin 3 → Option Bool) : (r.demanding d).spill = r.spill := rfl

theorem Ramp.lane_spilling (r : Ramp) (p : Plan) (now : Bool) (l : Fin 3) : (r.spilling p now).lane l = r.lane l := rfl

/-- R125: the pick made again on a state that differs in ramp `k` alone. -/
theorem State.rerunPick_setRamp (hs : r.stack = (s.ramp k).stack) :
    (s.setRamp k r).rerunPick k = s.setRamp k (((s.topPlan k).map (fun p => r.pick p)).getD r) := by
  simp only [State.rerunPick, State.withPlan, State.topPlan_setRamp hs]
  cases s.topPlan k with
  | none => rfl
  | some p => exact State.updRamp_setRamp s k r _

theorem demandArrived_eq (r0 r r' : Ramp) (h : ∀ l, (r'.lane l).demand = (r.lane l).demand)
    (hc : ∀ l, (r.lane l).cycle = (r0.lane l).cycle) (hc' : ∀ l, (r'.lane l).cycle = (r.lane l).cycle) :
    demandArrived r0 r' = allLanes.any (fun l =>
      !(r0.lane l).demand && (r.lane l).demand && decide ((r0.lane l).cycle = .ready)) := by
  simp only [demandArrived, h, hc', hc]

/-- R17 to R20, R125: the triggers of ramp `k`. -/
theorem State.deriveRamp_eq (s : State) (touched : Nat → Bool) (due : Bool) (k : Fin 4) :
    s.deriveRamp touched due k = s.setRamp k (s.triggeredRamp touched due k (s.ramp k)) := by
  have hcycle : ∀ l, (((s.ramp k).demanding (s.derivedDemand touched k)).lane l).cycle = ((s.ramp k).lane l).cycle :=
    fun l => by simp [Ramp.demanding, Ramp.lane]
  have hspill : (if due then (s.deriveDemands touched k).evaluateSpill k else s.deriveDemands touched k) =
      s.setRamp k (((if due = true ∧ (s.ramp k).state ≠ .dark then
          (s.topPlan k).map (fun p => s.spillJudged k p (s.ramp k).spill) else none).bind (fun now =>
          (s.topPlan k).map (fun p => ((s.ramp k).demanding (s.derivedDemand touched k)).spilling p now))).getD
        ((s.ramp k).demanding (s.derivedDemand touched k))) := by
    rw [State.deriveDemands_eq]
    cases due with
    | false => rfl
    | true =>
      rw [if_pos rfl, State.evaluateSpill_setRamp (Ramp.stack_demanding _ _)]
      change s.setRamp k (if (s.ramp k).state = .dark then (s.ramp k).demanding (s.derivedDemand touched k)
        else ((s.topPlan k).map (fun p => ((s.ramp k).demanding (s.derivedDemand touched k)).spilling p
          (s.spillJudged k p (s.ramp k).spill))).getD ((s.ramp k).demanding (s.derivedDemand touched k))) = _
      simp only [true_and]
      by_cases hd : (s.ramp k).state = .dark
      · rw [if_pos hd, if_neg (not_not.mpr hd)]
        rfl
      · rw [if_neg hd, if_pos hd]
        cases s.topPlan k <;> rfl
  simp only [State.deriveRamp, hspill, State.ramp_setRamp_self]
  cases hp : s.topPlan k with
  | none =>
    have h2 : (if due = true ∧ (s.ramp k).state ≠ .dark then
        (none : Option Plan).map (fun p => s.spillJudged k p (s.ramp k).spill) else none) = none := by
      split <;> rfl
    simp only [State.triggeredRamp, Ramp.triggered, hp, h2, Option.bind_none, Option.getD_none]
    split
    · rw [State.rerunPick_setRamp (Ramp.stack_demanding _ _), hp]
      rfl
    · rfl
  | some p =>
    have h2 : ∀ o : Option Bool, (o.bind (fun now => (some p).map (fun p =>
          ((s.ramp k).demanding (s.derivedDemand touched k)).spilling p now))).getD
          ((s.ramp k).demanding (s.derivedDemand touched k)) =
        (o.map (fun now => ((s.ramp k).demanding (s.derivedDemand touched k)).spilling p now)).getD
          ((s.ramp k).demanding (s.derivedDemand touched k)) := fun o => by
      cases o <;> rfl
    simp only [h2, State.triggeredRamp, Ramp.triggered, hp]
    generalize (if due = true ∧ (s.ramp k).state ≠ .dark then
      (some p).map (fun p => s.spillJudged k p (s.ramp k).spill) else none) = o
    have hlane : ∀ l, ((o.map (fun now => ((s.ramp k).demanding (s.derivedDemand touched k)).spilling p now)).getD
        ((s.ramp k).demanding (s.derivedDemand touched k))).lane l =
        ((s.ramp k).demanding (s.derivedDemand touched k)).lane l := fun l => by
      cases o <;> rfl
    have hstack : ((o.map (fun now => ((s.ramp k).demanding (s.derivedDemand touched k)).spilling p now)).getD
        ((s.ramp k).demanding (s.derivedDemand touched k))).stack = (s.ramp k).stack := by
      cases o <;> rfl
    rw [demandArrived_eq (s.ramp k) ((s.ramp k).demanding (s.derivedDemand touched k)) _ (fun l => by rw [hlane]) hcycle
      (fun l => by rw [hlane])]
    split
    · rw [State.rerunPick_setRamp hstack, hp]
      rfl
    · rfl

/-! ## The triggers of every ramp -/

/-- What the triggers of ramp `k` make of it depends on the tables, the plans and ramp `k` alone. -/
theorem State.triggeredRamp_ramps {R : Four Ramp} (h : R.get k = s.ramp k) (b : Bool) (r : Ramp) :
    ({ s with ramps := R } : State).triggeredRamp touched b k r = s.triggeredRamp touched b k r := by
  have hk : ({ s with ramps := R } : State).ramp k = s.ramp k := h
  have hd : ({ s with ramps := R } : State).derivedDemand touched k = s.derivedDemand touched k := by
    funext l
    simp only [State.derivedDemand, hk]
    rfl
  have hp : ({ s with ramps := R } : State).topPlan k = s.topPlan k := by
    simp only [State.topPlan, hk]
  simp only [State.triggeredRamp, hd, hp]
  rfl

theorem State.foldl_deriveRamp (order : List (Fin 4)) (hn : order.Nodup) (R : Four Ramp)
    (hR : ∀ k ∈ order, R.get k = s.ramp k) :
    order.foldl (fun s k => s.deriveRamp touched (due k) k) { s with ramps := R } =
      { s with ramps := order.foldl (fun R k => R.set k (s.triggeredRamp touched (due k) k (s.ramp k))) R } := by
  induction order generalizing R with
  | nil => rfl
  | cons k rest ih =>
    obtain ⟨hk, hn⟩ := List.nodup_cons.mp hn
    have hramp : ({ s with ramps := R } : State).ramp k = s.ramp k := hR k List.mem_cons_self
    rw [List.foldl_cons, List.foldl_cons, State.deriveRamp_eq, State.triggeredRamp_ramps (hR k List.mem_cons_self), hramp]
    refine ih hn _ fun j hj => ?_
    have hjk : j ≠ k := fun h => hk (h ▸ hj)
    rw [Four.get_set, if_neg hjk]
    exact hR j (List.mem_cons_of_mem k hj)

/-- R17 to R20, R125: the triggers of every ramp, from the tables as `s` has them. -/
theorem State.deriveTriggers_eq (s : State) (touched : Nat → Bool) (due : Fin 4 → Bool) :
    s.deriveTriggers touched due = { s with
      lastSources := s.detectors.collect (s.lastSource (s.resolves touched due))
      ramps := Four.tabulate (fun k => s.triggeredRamp touched (due k) k (s.ramp k)) } := by
  have h := State.foldl_deriveRamp (s := s.resolveSources (s.resolves touched due)) (touched := touched) (due := due)
    allRamps (by decide) s.ramps (fun _ _ => rfl)
  exact h

/-- R17, R20: the last resolved sources that the triggers of an event leave. -/
theorem State.lastSources_deriveTriggers (s : State) (touched : Nat → Bool) (due : Fin 4 → Bool) (i : Nat) :
    (s.deriveTriggers touched due).lastSources.get i = s.resolvedSource touched due i := by
  rw [State.deriveTriggers_eq]
  simp only [Table.get_collect, State.resolvedSource, State.lastSource, State.resolves, State.touches_eq, Bool.or_eq_true,
    Bool.and_eq_true, decide_eq_true_eq]
  change (s.detector i).bind _ = _
  cases hd : s.detector i with
  | none => rfl
  | some d =>
    simp only [Option.bind_some]
    by_cases hr : d.config.role = .spill
    · rw [if_neg (not_not.mpr hr), if_pos hr]
    · rw [if_pos hr, if_neg hr]

/-- R147: the triggers of an event from `s0` that left the tables as `s` has them, and the heads told. -/
theorem State.settled_deriveTriggers (s0 s : State) (touched : Nat → Bool) (due : Fin 4 → Bool) :
    State.settled s0 (s.deriveTriggers touched due) = s0.told { s with
      lastSources := (State.settled s0 (s.deriveTriggers touched due)).lastSources
      ramps := Four.tabulate (fun k => s.triggeredRamp touched (due k) k (s.ramp k)) } [] := by
  have hl : (State.settled s0 (s.deriveTriggers touched due)).lastSources = (s.deriveTriggers touched due).lastSources := by
    rw [State.settled_eq_told]
    rfl
  rw [hl, State.settled_eq_told, State.deriveTriggers_eq]

theorem State.lastSources_settled (s0 s : State) : (State.settled s0 s).lastSources = s.lastSources := by
  rw [State.settled_eq_told]
  rfl

/-! ## STATION_TIMER_EXPIRY -/

theorem State.spillSourceMoved_eq (s : State) (touched : Nat → Bool) (k : Fin 4) :
    s.sourceChanged touched k = s.spillSourceMoved touched k := by
  simp only [State.sourceChanged, State.spillSourceMoved, State.spillRows_eq, State.touches_eq]

theorem State.namesStation_eq (s : State) (a i : Nat) :
    s.namesStation a i = decide ((s.detector i).map (fun d => d.config.station) = some a) := by
  simp only [State.namesStation]
  cases s.detector i <;> simp

theorem State.stationTimed_iff (s : State) (a : Nat) :
    s.stationTimed a = true ↔ (s.stations.get a).bind (fun st => st.timer) ≠ none := by
  simp only [State.stationTimed]
  cases s.stations.get a with
  | none => simp
  | some st => simp [Option.isSome_iff_ne_none]

/-- R8: the expiry of a running station timer. -/
theorem State.stationExpired_spec (s : State) (address : Nat) :
    let t := State.settled s (s.stationExpired address)
    (∀ a, t.stations.get a = if a = address then some ⟨false, .all true, none⟩ else s.stations.get a) ∧
    (let v : State := { s with stations := t.stations }
     let named (i : Nat) : Bool := decide ((s.detector i).map (fun d => d.config.station) = some address)
     let due (k : Fin 4) : Bool := v.spillSourceMoved named k
     (∀ i, t.lastSources.get i = v.resolvedSource named due i) ∧
     t = s.told { v with
       lastSources := t.lastSources
       ramps := Four.tabulate (fun k => v.triggeredRamp named (due k) k (s.ramp k)) } []) := by
  intro t
  have hst : t.stations = s.stations.insert address ⟨false, .all true, none⟩ := by
    simp only [t, State.settled_eq_told, State.stationExpired, State.deriveTriggers_eq]
    rfl
  have hnamed : ({ s with stations := t.stations } : State).namesStation address =
      fun i => decide ((s.detector i).map (fun d => d.config.station) = some address) :=
    funext fun i => State.namesStation_eq _ _ _
  have ht : t = State.settled s (({ s with stations := t.stations } : State).deriveTriggers
      (fun i => decide ((s.detector i).map (fun d => d.config.station) = some address))
      (fun k => ({ s with stations := t.stations } : State).spillSourceMoved
        (fun i => decide ((s.detector i).map (fun d => d.config.station) = some address)) k)) := by
    rw [← hnamed]
    simp only [← State.spillSourceMoved_eq, hst]
    rfl
  refine ⟨fun a => by rw [hst, Table.get_insert], ?_, ?_⟩
  · intro i
    rw [ht, State.lastSources_settled, State.lastSources_deriveTriggers, ← ht]
  · have h := State.settled_deriveTriggers s ({ s with stations := t.stations } : State)
      (fun i => decide ((s.detector i).map (fun d => d.config.station) = some address))
      (fun k => ({ s with stations := t.stations } : State).spillSourceMoved
        (fun i => decide ((s.detector i).map (fun d => d.config.station) = some address)) k)
    rw [← ht] at h
    exact h

/-! ## Trigger sources -/

theorem State.sound_iff (s : State) (d : Detector) : s.sound d = true ↔
    (d.health = .good ∨ d.health = .suspect) ∧ (s.stations.get d.config.station).map (fun st => st.live) = some true := by
  have hl : s.stationLive d.config.station = true ↔
      (s.stations.get d.config.station).map (fun st => st.live) = some true := by
    simp only [State.stationLive]
    cases s.stations.get d.config.station <;> simp
  rw [State.sound, Bool.and_eq_true, hl]
  cases d.health <;> simp [Health.serves]

/-- R17: the source of an entry of the right ramp and role. -/
theorem State.source_of {s : State} {k : Fin 4} {role : Role} {i : Nat} {d : Detector} (hd : s.detector i = some d) :
    s.source k role i = if d.config.ramp ≠ k ∨ d.config.role ≠ role then none
      else if s.sound d then some i
      else d.config.substitute.bind (fun j => (s.detector j).bind (fun e =>
        if e.config.ramp = k ∧ s.sound e then some j else none)) := by
  simp only [State.source, hd]
  split
  · rfl
  · split
    · rfl
    · cases d.config.substitute with
      | none => rfl
      | some j =>
        simp only [Option.bind_some]
        cases s.detector j <;> rfl

theorem State.source_none {s : State} {k : Fin 4} {role : Role} {i : Nat} (hd : s.detector i = none) :
    s.source k role i = none := by
  simp only [State.source, hd]

/-- R17: what a source is. -/
theorem State.source_some {s : State} {k : Fin 4} {role : Role} {i j : Nat} (h : s.source k role i = some j) :
    ∃ d e, s.detector i = some d ∧ d.config.ramp = k ∧ d.config.role = role ∧ s.detector j = some e ∧ e.config.ramp = k ∧
      s.sound e = true ∧ (j ≠ i → ¬s.sound d = true ∧ d.config.substitute = some j) := by
  cases hd : s.detector i with
  | none => rw [State.source_none hd] at h; cases h
  | some d =>
    rw [State.source_of hd] at h
    split at h
    · cases h
    rename_i hk
    obtain ⟨hr, hro⟩ : d.config.ramp = k ∧ d.config.role = role := by simpa only [not_or, not_not] using hk
    split at h
    · rename_i hs
      cases h
      exact ⟨d, d, rfl, hr, hro, hd, hr, hs, fun hj => absurd rfl hj⟩
    · rename_i hs
      obtain ⟨j', hj', h⟩ := Option.bind_eq_some_iff.mp h
      obtain ⟨e, he, h⟩ := Option.bind_eq_some_iff.mp h
      split at h
      · rename_i hek
        cases h
        exact ⟨d, e, rfl, hr, hro, he, hek.1, hek.2, fun _ => ⟨hs, hj'⟩⟩
      · cases h

/-- R18: the demand that a lane's derivation gives. -/
theorem State.demandNow_of {s : State} {k : Fin 4} {c : LaneConfig} {i : Nat} (hc : c.demand = some i) :
    s.demandNow k c = (((s.source k .demand i).bind s.detector).map (fun d => d.presence != c.inverted)).getD true := by
  simp only [State.demandNow, hc, State.sourceEntry_eq]
  cases (s.source k .demand i).bind s.detector <;> rfl

/-- Settles O23. -/
theorem stationTimersAndTriggerSources : Obligations.StationTimersAndTriggerSources := by
  refine ⟨fun address s => ⟨_, rfl, fun hn => ?_, fun hn => ?_⟩, fun s k role i => ?_⟩
  · exact if_neg fun ht => (State.stationTimed_iff s address).mp ht hn
  · rw [if_pos ((State.stationTimed_iff s address).mpr hn)]
    exact s.stationExpired_spec address
  dsimp only
  simp only [← State.sound_iff]
  refine ⟨State.source_none, fun d hd hn => ?_, fun d hd hr hro => ⟨fun hs => ?_, fun hs j e hj he hek hse => ?_,
    fun hs hn => ?_⟩, fun j hj => State.source_some hj, fun c hc => ?_, fun c hc hn => ?_, fun c j e hc hj he => ?_⟩
  · rw [State.source_of hd, if_pos hn]
  · rw [State.source_of hd, if_neg (by simp [hr, hro]), if_pos hs]
  · rw [State.source_of hd, if_neg (by simp [hr, hro]), if_neg hs, hj, Option.bind_some, he, Option.bind_some,
      if_pos ⟨hek, hse⟩]
  · rw [State.source_of hd, if_neg (by simp [hr, hro]), if_neg hs]
    rcases hn with hn | ⟨j, hj, hn⟩
    · rw [hn, Option.bind_none]
    · rw [hj, Option.bind_some]
      cases he : s.detector j with
      | none => rfl
      | some e =>
        rw [Option.bind_some, if_neg]
        rintro ⟨hek, hse⟩
        exact (hn e he).elim (fun h => h hek) (fun h => h hse)
  · simp only [State.demandNow, hc]
  · rw [State.demandNow_of hc, hn]
    rfl
  · rw [State.demandNow_of hc, hj, Option.bind_some, he]
    simp only [Option.map_some, Option.getD_some]
    cases c.inverted <;> cases e.presence <;> rfl

end Sys2Proof.Machine
end

section
/-! Scan frames: O20, O21 (R10 to R20). -/

namespace Sys2Proof.Machine

variable {s t u : State} {k : Fin 4} {r : Ramp} {p : Plan} {touched : Nat → Bool} {due : Fin 4 → Bool}
  {src span count : Nat} {records : List ScanRecord}

/-! ## The records that are used -/

/-- R11: screening of the records after `pre`, which were seen. -/
theorem screenScan_eq (pre rest : List ScanRecord) (seen : List Nat) (hs : ∀ c, c ∈ seen ↔ ∃ e ∈ pre, e.channel = c) :
    screenScan seen rest = ((rest.zipIdx pre.length).filter (fun p =>
      decide (p.1.presence ≤ 1) && decide (p.1.arrivals ≤ 15) && decide (p.1.channel ≤ 15) &&
      !((pre ++ rest).take p.2).any (fun e => e.channel == p.1.channel))).map (fun p => p.1) := by
  induction rest generalizing pre seen with
  | nil => rfl
  | cons x rest ih =>
    have hs' : ∀ c, c ∈ x.channel :: seen ↔ ∃ e ∈ pre ++ [x], e.channel = c := fun c => by
      rw [List.mem_cons, hs]
      constructor
      · rintro (rfl | ⟨e, he, rfl⟩)
        · exact ⟨x, by simp, rfl⟩
        · exact ⟨e, by simp [he], rfl⟩
      · rintro ⟨e, he, rfl⟩
        rcases List.mem_append.mp he with he | he
        · exact .inr ⟨e, he, rfl⟩
        · exact .inl (by rw [List.mem_singleton.mp he])
    have hseen : seen.contains x.channel = ((pre ++ x :: rest).take pre.length).any (fun e => e.channel == x.channel) := by
      rw [List.take_left', Bool.eq_iff_iff, List.contains_iff_mem, hs, List.any_eq_true]
      · simp
      · rfl
    have ih := ih (pre ++ [x]) (x.channel :: seen) hs'
    rw [List.length_append, List.length_singleton, List.append_assoc, List.singleton_append] at ih
    simp only [screenScan, List.zipIdx_cons, List.filter_cons, ← hseen, scanRecordOk, ih]
    split <;> simp

/-- R11: the records that survive screening. -/
theorem screenScan_nil (records : List ScanRecord) : screenScan [] records = usableRecords records :=
  screenScan_eq [] records [] (by simp)

/-- R12: the record that an entry is matched by. -/
theorem matchRecord_eq (src : Nat) (records : List ScanRecord) (d : Detector) :
    matchRecord src (screenScan [] records) d = recordFor src records d := by
  rw [screenScan_nil]
  rfl

theorem Detector.config_scanned (lim : Limits) (dark : Bool) (span : Nat) (x : ScanRecord) (d : Detector) :
    (d.scanned lim dark span x).config = d.config := by
  simp only [Detector.scanned]
  split <;> rfl

/-! ## Passages -/

/-- R19, R138: ramp `k` at a scan frame, its passages counted. -/
def State.passedRamp (s : State) (src : Nat) (screened : List ScanRecord) (k : Fin 4) : Ramp :=
  if (s.ramp k).state = .dark then s.ramp k
  else { s.ramp k with
    lanes := Three.tabulate (fun l => ((s.ramp k).lane l).passages (s.lanePassages src screened k l)) }

theorem State.deliverPassages_eq (s : State) (screened : List ScanRecord) (k : Fin 4) :
    s.deliverPassages src screened k = s.setRamp k (s.passedRamp src screened k) := by
  simp only [State.deliverPassages, State.passedRamp]
  split
  · rw [State.setRamp_self]
  · rfl

theorem State.passedRamp_ramps {R : Four Ramp} (screened : List ScanRecord) (h : R.get k = s.ramp k) :
    ({ s with ramps := R } : State).passedRamp src screened k = s.passedRamp src screened k := by
  have hk : ({ s with ramps := R } : State).ramp k = s.ramp k := h
  have hl : ∀ l, ({ s with ramps := R } : State).lanePassages src screened k l = s.lanePassages src screened k l := by
    intro l
    simp only [State.lanePassages, hk]
    rfl
  simp only [State.passedRamp, hk, hl]

theorem State.foldl_deliverPassages (screened : List ScanRecord) (order : List (Fin 4)) (hn : order.Nodup) (R : Four Ramp)
    (hR : ∀ k ∈ order, R.get k = s.ramp k) :
    order.foldl (fun s k => s.deliverPassages src screened k) { s with ramps := R } =
      { s with ramps := order.foldl (fun R k => R.set k (s.passedRamp src screened k)) R } := by
  induction order generalizing R with
  | nil => rfl
  | cons k rest ih =>
    obtain ⟨hk, hn⟩ := List.nodup_cons.mp hn
    rw [List.foldl_cons, List.foldl_cons, State.deliverPassages_eq,
      State.passedRamp_ramps screened (hR k List.mem_cons_self)]
    refine ih hn _ fun j hj => ?_
    have hjk : j ≠ k := fun h => hk (h ▸ hj)
    rw [Four.get_set, if_neg hjk]
    exact hR j (List.mem_cons_of_mem k hj)

/-- R19: the passages of every ramp delivered. -/
theorem State.allPassages_eq (s : State) (screened : List ScanRecord) :
    allRamps.foldl (fun s k => s.deliverPassages src screened k) s =
      { s with ramps := Four.tabulate (fun k => s.passedRamp src screened k) } :=
  State.foldl_deliverPassages screened allRamps (by decide) s.ramps (fun _ _ => rfl)

theorem State.passedRamp_facts (s : State) (screened : List ScanRecord) (k : Fin 4) :
    (s.passedRamp src screened k).config = (s.ramp k).config ∧ (s.passedRamp src screened k).stack = (s.ramp k).stack ∧
    (s.passedRamp src screened k).state = (s.ramp k).state := by
  simp only [State.passedRamp]
  split <;> exact ⟨rfl, rfl, rfl⟩

/-! ## The triggers of a scan frame -/

/-- What the triggers of ramp `k` make of it depends on the ramp's record and stack, the tables and the plans. -/
theorem State.triggeredRamp_congr {R : Four Ramp} (hc : (R.get k).config = (s.ramp k).config)
    (hs : (R.get k).stack = (s.ramp k).stack) (b : Bool) (r : Ramp) :
    ({ s with ramps := R } : State).triggeredRamp touched b k r = s.triggeredRamp touched b k r := by
  have hl : ∀ l, (({ s with ramps := R } : State).ramp k).laneConfig l = (s.ramp k).laneConfig l :=
    Ramp.laneConfig_congr hc
  have hd : ({ s with ramps := R } : State).derivedDemand touched k = s.derivedDemand touched k := by
    funext l
    simp only [State.derivedDemand, hl]
    rfl
  have hp : ({ s with ramps := R } : State).topPlan k = s.topPlan k := by
    have ht : (({ s with ramps := R } : State).ramp k).top = (s.ramp k).top := by
      simp only [Ramp.top]
      exact congrArg (fun x => x.getLast?.getD 0) hs
    simp only [State.topPlan, ht]
  simp only [State.triggeredRamp, hd, hp]
  rfl

theorem State.resolvedSource_congr {R : Four Ramp} (h : ∀ k, (R.get k).state = (s.ramp k).state) (i : Nat) :
    ({ s with ramps := R } : State).resolvedSource touched due i = s.resolvedSource touched due i := by
  have hr : ∀ k, (({ s with ramps := R } : State).ramp k).state = (s.ramp k).state := h
  simp only [State.resolvedSource, hr]
  rfl

/-- R8, R12, R13: the tables once the stations and the entries of an acted-on scan frame were updated. -/
def State.scanTables (u : State) (src span : Nat) (records : List ScanRecord) : State :=
  { u with
    stations := (u.stationHeard src).stations
    detectors := u.detectors.map (fun _ d =>
      match recordFor src records d with
      | some x => d.scanned u.limits (decide ((u.ramp d.config.ramp).state = .dark)) span x
      | none => d) }

/-- R17: the entries that a scan frame matched. -/
def State.scanMatched (u : State) (src : Nat) (records : List ScanRecord) (i : Nat) : Bool :=
  ((u.detector i).bind (recordFor src records)).isSome

theorem recordFor_congr {d e : Detector} (h : e.config = d.config) (src : Nat) (records : List ScanRecord) :
    recordFor src records e = recordFor src records d := by
  simp only [recordFor, h]

theorem State.stationHeard_eq (u : State) (src : Nat) : u.stationHeard src = { u with stations := (u.stationHeard src).stations } := by
  simp only [State.stationHeard]
  split <;> rfl

/-- R10 to R20: a scan frame that is acted on, up to its triggers. -/
theorem State.scanned_eq (u : State) (src span : Nat) (records : List ScanRecord) :
    let heard : State := { u with stations := (u.stationHeard src).stations }
    let w : State := { u.scanTables src span records with
      ramps := Four.tabulate (fun k => heard.passedRamp src (screenScan [] records) k) }
    u.scanned src span records = w.deriveTriggers (u.scanMatched src records) (fun k =>
      ((u.scanTables src span records).spillRows k).any ((u.scanTables src span records).touches
        (u.scanMatched src records))) := by
  intro heard w
  have hw : (allRamps.foldl (fun t k => t.deliverPassages src (screenScan [] records) k) (u.stationHeard src)).scanEntries
      src span (screenScan [] records) = w := by
    rw [State.allPassages_eq, State.stationHeard_eq]
    simp only [State.scanEntries, w, State.scanTables, matchRecord_eq]
    congr 2
    funext _ d
    have hst : ∀ j, (({ heard with ramps := Four.tabulate (fun k => heard.passedRamp src (screenScan [] records) k) } :
        State).ramp j).state = (u.ramp j).state := fun j => by
      rw [State.ramp]
      simp only [Four.get_tabulate]
      exact (heard.passedRamp_facts (screenScan [] records) j).2.2
    rw [hst] <;> rfl
  have htouch : w.scanTouches src (screenScan [] records) = u.scanMatched src records := by
    funext i
    have hg : w.detector i = (u.detector i).map (fun d => match recordFor src records d with
        | some x => d.scanned u.limits (decide ((u.ramp d.config.ramp).state = .dark)) span x
        | none => d) := Table.get_map _ _ _
    simp only [State.scanTouches, hg, State.scanMatched, matchRecord_eq]
    cases hd : u.detector i with
    | none => rfl
    | some d =>
      simp only [Option.map_some, Option.bind_some]
      congr 1
      refine recordFor_congr ?_ _ _
      cases recordFor src records d with
      | none => rfl
      | some x => exact Detector.config_scanned _ _ _ _ _
  simp only [State.scanned, hw, htouch]
  congr 1
  funext k
  simp only [State.spillConcerned, State.spillRows_eq]
  congr 1
  funext i
  exact State.touches_eq _ _ _

theorem State.scanActedOn_iff (u : State) (src span count : Nat) (records : List ScanRecord) :
    u.scanActedOn src span count records = true ↔ (u.stations.get src).isSome = true ∧ 50 ≤ span ∧ span ≤ 1000 ∧
      1 ≤ count ∧ count ≤ 8 ∧ records.length = count := by
  simp only [State.scanActedOn, Bool.and_eq_true, within_iff, decide_eq_true_eq, and_assoc]

/-- R8 to R20: what a scan frame that is acted on makes of the state. -/
theorem State.settled_scanned (u : State) (src span : Nat) (records : List ScanRecord) :
    let v := u.scanTables src span records
    let heard : State := { u with stations := v.stations }
    let due (k : Fin 4) : Bool := (v.spillRows k).any (v.touches (u.scanMatched src records))
    let t := State.settled u (u.scanned src span records)
    (∀ i, t.lastSources.get i = v.resolvedSource (u.scanMatched src records) due i) ∧
    t = u.told { v with
      lastSources := t.lastSources
      ramps := Four.tabulate (fun k => v.triggeredRamp (u.scanMatched src records) (due k) k
        (heard.passedRamp src (screenScan [] records) k)) } [] := by
  intro v heard due t
  have hR : ∀ k, ((Four.tabulate (fun k => heard.passedRamp src (screenScan [] records) k)).get k) =
      heard.passedRamp src (screenScan [] records) k := fun k => Four.get_tabulate _ k
  have hfacts := heard.passedRamp_facts (src := src) (screenScan [] records)
  have ht : t = State.settled u (({ v with
      ramps := Four.tabulate (fun k => heard.passedRamp src (screenScan [] records) k) } : State).deriveTriggers
        (u.scanMatched src records) due) := by
    simp only [t, State.scanned_eq]
    rfl
  refine ⟨fun i => ?_, ?_⟩
  · rw [ht, State.lastSources_settled, State.lastSources_deriveTriggers]
    exact State.resolvedSource_congr (fun k => by rw [hR]; exact (hfacts k).2.2) i
  · have h := State.settled_deriveTriggers u ({ v with
      ramps := Four.tabulate (fun k => heard.passedRamp src (screenScan [] records) k) } : State)
        (u.scanMatched src records) due
    rw [← ht] at h
    have hramp : ∀ k, ({ v with ramps := Four.tabulate (fun k => heard.passedRamp src (screenScan [] records) k) } :
        State).triggeredRamp (u.scanMatched src records) (due k) k (({ v with
          ramps := Four.tabulate (fun k => heard.passedRamp src (screenScan [] records) k) } : State).ramp k) =
        v.triggeredRamp (u.scanMatched src records) (due k) k (heard.passedRamp src (screenScan [] records) k) := fun k => by
      rw [State.triggeredRamp_congr (by rw [hR]; exact (hfacts k).1) (by rw [hR]; exact (hfacts k).2.1), State.ramp]
      simp only [hR]
    simp only [hramp] at h
    exact h

/-- R19: the passage events of one lane, from the entry that is its source. -/
theorem State.lanePassages_eq (s : State) (src : Nat) (records : List ScanRecord) (k : Fin 4) (l : Fin 3) :
    s.lanePassages src (screenScan [] records) k l =
      ((((s.ramp k).laneConfig l).bind (fun c => c.passage.bind (fun i =>
        ((s.source k .passage i).bind s.detector).map (fun d => (c.departure, d))))).map (fun x =>
          ((recordFor src records x.2).map (fun r =>
            if x.1 then r.arrivals + (if x.2.previous then 1 else 0) - r.presence else r.arrivals)).getD 0)).getD 0 := by
  simp only [State.lanePassages, State.sourceEntry_eq, matchRecord_eq]
  cases (s.ramp k).laneConfig l with
  | none => rfl
  | some c =>
    simp only [Option.bind_some]
    cases c.passage with
    | none => rfl
    | some i =>
      simp only [Option.bind_some]
      cases (s.source k .passage i).bind s.detector with
      | none => rfl
      | some d =>
        simp only [Option.map_some, Option.getD_some]
        cases recordFor src records d <;> rfl

/-- Settles O21. -/
theorem scanFramesDriveTriggers : Obligations.ScanFramesDriveTriggers := by
  intro src span count records s
  refine ⟨_, rfl, ?_⟩
  dsimp only
  generalize s.took _ = u
  intro hst h1 h2 h3 h4 h5
  rw [if_pos ((u.scanActedOn_iff src span count records).mpr ⟨hst, h1, h2, h3, h4, h5⟩)]
  obtain ⟨hl, ht⟩ := u.settled_scanned src span records
  have hs : (State.settled u (u.scanned src span records)).stations = (u.scanTables src span records).stations := by
    rw [ht]
    rfl
  have hd : (State.settled u (u.scanned src span records)).detectors = (u.scanTables src span records).detectors := by
    rw [ht]
    rfl
  have hevents : ∀ k l,
      (match (((u.ramp k).laneConfig l).bind (fun c => c.passage.bind (fun i =>
          ((({ u with stations := (u.scanTables src span records).stations } : State).source k .passage i).bind
            u.detector).map (fun d => (c.departure, d))))) with
      | some (departure, d) =>
        ((recordFor src records d).map (fun r =>
          if departure then r.arrivals + (if d.previous then 1 else 0) - r.presence else r.arrivals)).getD 0
      | none => 0) = ({ u with stations := (u.scanTables src span records).stations } : State).lanePassages src
        (screenScan [] records) k l := by
    intro k l
    rw [State.lanePassages_eq]
    change _ = ((((u.ramp k).laneConfig l).bind (fun c => c.passage.bind (fun i =>
      ((({ u with stations := (u.scanTables src span records).stations } : State).source k .passage i).bind
        u.detector).map (fun d => (c.departure, d))))).map _).getD 0
    cases (((u.ramp k).laneConfig l).bind (fun c => c.passage.bind (fun i =>
      ((({ u with stations := (u.scanTables src span records).stations } : State).source k .passage i).bind
        u.detector).map (fun d => (c.departure, d))))) <;> rfl
  rw [hs, hd]
  refine ⟨hl, ht.trans (congrArg (fun R => u.told { u.scanTables src span records with
    lastSources := (State.settled u (u.scanned src span records)).lastSources, ramps := R } []) ?_)⟩
  refine Four.ext_get fun k => ?_
  rw [Four.get_tabulate, Four.get_tabulate]
  refine congrArg ((u.scanTables src span records).triggeredRamp _ _ k) ?_
  simp only [State.passedRamp]
  by_cases hdark : (u.ramp k).state = .dark
  · rw [if_pos hdark]
    exact if_pos hdark
  · rw [if_neg hdark]
    refine (if_neg hdark).trans ?_
    refine congrArg (fun x => ({ u.ramp k with lanes := x } : Ramp)) (Three.ext_get fun l => ?_)
    rw [Three.get_tabulate, Three.get_tabulate]
    exact congrArg (fun n => ((u.ramp k).lane l).passages n) (hevents k l).symm

end Sys2Proof.Machine
end

section
/-! What a scan frame does to the tables: O20 (R8 to R16). -/

namespace Sys2Proof.Machine

variable {s t u : State} {k : Fin 4} {r : Ramp} {p : Plan} {touched : Nat → Bool} {due : Fin 4 → Bool}
  {src span count : Nat} {records : List ScanRecord}

/-! ## What triggers, picks and head commands leave -/

theorem Ramp.apartFromRelease_demanding (r : Ramp) (d : Fin 3 → Option Bool) :
    (r.demanding d).apartFromRelease = r.apartFromRelease := rfl

theorem Ramp.apartFromRelease_spilling (r : Ramp) (p : Plan) (now : Bool) :
    (r.spilling p now).apartFromRelease = r.apartFromRelease := rfl

/-- Two ramps that differ in their clocks, pointers, wait orders and their lanes' timed states alone. -/
theorem Ramp.apartFromRelease_congr {c : Clock} {w : List (Fin 3)} {x : Fin 3} {lanes : Three Lane}
    (hl : ∀ l, (lanes.get l).isOpen = (r.lane l).isOpen ∧ (lanes.get l).closePending = (r.lane l).closePending) :
    ({ r with clock := c, waitOrder := w, pointer := x, lanes := lanes } : Ramp).apartFromRelease = r.apartFromRelease := by
  have h : Three.tabulate (fun l => { Lane.reset with
        isOpen := (lanes.get l).isOpen, closePending := (lanes.get l).closePending }) =
      Three.tabulate (fun l => { Lane.reset with
        isOpen := (r.lane l).isOpen, closePending := (r.lane l).closePending }) := by
    refine Three.ext_get fun l => ?_
    rw [Three.get_tabulate, Three.get_tabulate, (hl l).1, (hl l).2]
  simp only [Ramp.apartFromRelease]
  exact congrArg (fun x => ({ r.apartFromCommands with
    spill := false, clock := .reset, waitOrder := [], pointer := 0, lanes := x } : Ramp)) h

theorem Ramp.apartFromRelease_pick (r : Ramp) (p : Plan) : (r.pick p).apartFromRelease = r.apartFromRelease := by
  simp only [Ramp.pick]
  split
  · split
    · rfl
    · rename_i l _
      refine Ramp.apartFromRelease_congr (r := r) fun j => ?_
      rw [Three.get_tabulate]
      simp only [Ramp.countedLane]
      split
      · exact ⟨rfl, rfl⟩
      · split <;> exact ⟨rfl, rfl⟩
  · rfl

theorem Ramp.apartFromRelease_triggered (r : Ramp) (plan : Option Plan) (d : Fin 3 → Option Bool) (spill : Option Bool) :
    (r.triggered plan d spill).apartFromRelease = r.apartFromRelease := by
  simp only [Ramp.triggered]
  cases plan with
  | none => exact r.apartFromRelease_demanding d
  | some p =>
    have h : ((spill.map (fun now => (r.demanding d).spilling p now)).getD (r.demanding d)).apartFromRelease =
        r.apartFromRelease := by
      cases spill <;> rfl
    dsimp only
    split
    · rw [Ramp.apartFromRelease_pick, h]
    · exact h

theorem Lane.passageEvent_closure (x : Lane) :
    x.passageEvent.isOpen = x.isOpen ∧ x.passageEvent.closePending = x.closePending := by
  simp only [Lane.passageEvent]
  split
  · exact ⟨rfl, rfl⟩
  · split <;> exact ⟨rfl, rfl⟩

theorem Lane.passages_closure (n : Nat) (x : Lane) :
    (x.passages n).isOpen = x.isOpen ∧ (x.passages n).closePending = x.closePending := by
  induction n generalizing x with
  | zero => exact ⟨rfl, rfl⟩
  | succ n ih =>
    obtain ⟨h1, h2⟩ := ih x.passageEvent
    exact ⟨h1.trans x.passageEvent_closure.1, h2.trans x.passageEvent_closure.2⟩

theorem State.apartFromRelease_passedRamp (s : State) (screened : List ScanRecord) (k : Fin 4) :
    (s.passedRamp src screened k).apartFromRelease = (s.ramp k).apartFromRelease := by
  simp only [State.passedRamp]
  split
  · rfl
  · exact Ramp.apartFromRelease_congr (r := s.ramp k) fun l => by
      rw [Three.get_tabulate]
      exact Lane.passages_closure _ _

/-- R147: head commands change heads alone, and of those only what sending changes. -/
theorem State.apartFromRelease_told (s0 s : State) (fresh : List (Fin 4 × Fin 3)) (k : Fin 4) :
    ((s0.told s fresh).ramp k).apartFromRelease = (s.ramp k).apartFromRelease := by
  have h : Three.tabulate (fun l => (((s0.told s fresh).ramp k).head l).map Head.standing) =
      Three.tabulate (fun l => ((s.ramp k).head l).map Head.standing) := by
    refine Three.ext_get fun l => ?_
    rw [Three.get_tabulate, Three.get_tabulate, State.told_eq_toldHeads, State.head_toldHeads, Option.map_map]
    refine Option.map_congr fun h _ => ?_
    simp only [Function.comp_apply]
    split <;> rfl
  simp only [Ramp.apartFromRelease, Ramp.apartFromCommands, h]
  rw [State.told_eq_toldHeads, State.ramp_toldHeads]
  rfl

/-! ## The entries and the stations -/

theorem State.stations_scanTables (u : State) {st : Station} (h : u.stations.get src = some st) (a : Nat) :
    (u.scanTables src span records).stations.get a =
      if a = src then some { st with live := true, timer := some u.limits.timeout } else u.stations.get a := by
  simp only [State.scanTables, State.stationHeard, h, Table.get_insert]

theorem State.detector_scanTables (u : State) (i : Nat) :
    (u.scanTables src span records).detector i = (u.detector i).map (fun d =>
      ((recordFor src records d).map (fun x =>
        d.scanned u.limits (decide ((u.ramp d.config.ramp).state = .dark)) span x)).getD d) := by
  rw [State.detector]
  simp only [State.scanTables, Table.get_map]
  refine Option.map_congr fun d _ => ?_
  cases recordFor src records d <;> rfl

/-- R13, R14, R16: a matched entry, field by field. -/
theorem Detector.scanned_eq (lim : Limits) (dark : Bool) (span : Nat) (x : ScanRecord) (d : Detector) :
    let on := min x.onTime span
    let run := if x.presence = 1 then min 3600000 (if on = span then d.presenceRun + span else on) else 0
    d.scanned lim dark span x = { d with
      arrivals := if dark then d.arrivals else min 65535 (d.arrivals + x.arrivals)
      onTime := if dark then d.onTime else min 655350 (d.onTime + on)
      span := if dark then d.span else min 655350 (d.span + span)
      presence := decide (x.presence = 1)
      previous := decide (x.presence = 1)
      presenceRun := run
      absenceRun := if x.presence = 1 then 0
        else min 3600000 (if on = 0 then d.absenceRun + span else span - on)
      symptoms := if dark then d.symptoms else { d.symptoms with
        chatter := d.symptoms.chatter || decide (lim.chatter ≤ x.arrivals)
        stuckOn := d.symptoms.stuckOn || decide (lim.stuckOn * 1000 ≤ run) } } := by
  intro on run
  cases dark
  · simp only [Detector.scanned, Detector.accumulate, Detector.runs, Detector.scanSymptoms, clampedOnTime, saturate_eq,
      Bool.false_eq_true, if_false, run, on, apply_ite (min 3600000)]
    rfl
  · simp only [Detector.scanned, Detector.runs, clampedOnTime, saturate_eq, if_true, run, on, apply_ite (min 3600000)]
    rfl

/-- Settles O20. -/
theorem scanFramesUpdateTheirEntries : Obligations.ScanFramesUpdateTheirEntries := by
  intro src span count records s
  refine ⟨_, rfl, ?_⟩
  dsimp only
  generalize s.took _ = u
  refine ⟨fun hn => if_neg fun ha => ?_, fun st hst h1 h2 h3 h4 h5 => ?_⟩
  · obtain ⟨a1, a2, a3, a4, a5, a6⟩ := (u.scanActedOn_iff src span count records).mp ha
    rcases hn with hn | hn | hn | hn | hn | hn
    · rw [hn] at a1
      cases a1
    all_goals omega
  rw [if_pos ((u.scanActedOn_iff src span count records).mpr ⟨by rw [hst]; rfl, h1, h2, h3, h4, h5⟩)]
  obtain ⟨-, ht⟩ := u.settled_scanned src span records
  have hs : (State.settled u (u.scanned src span records)).stations = (u.scanTables src span records).stations := by
    rw [ht]
    rfl
  have hd : ∀ i, (State.settled u (u.scanned src span records)).detector i = (u.scanTables src span records).detector i := by
    intro i
    rw [ht]
    rfl
  refine ⟨fun a => by rw [hs, State.stations_scanTables u hst], fun i d hi hr => ?_, fun i d x hi hr => ?_, fun i => ?_,
    fun k => ?_, ?_⟩
  · rw [hd, State.detector_scanTables, hi, Option.map_some, hr]
    rfl
  · rw [hd, State.detector_scanTables, hi, Option.map_some, hr]
    simp only [Option.map_some, Option.getD_some, Detector.scanned_eq, decide_eq_true_eq]
  · rw [hd, State.detector_scanTables, Option.isSome_map]
  · rw [ht, State.apartFromRelease_told, State.ramp]
    simp only [Four.get_tabulate, State.triggeredRamp]
    rw [Ramp.apartFromRelease_triggered, State.apartFromRelease_passedRamp]
    rfl
  · rw [ht]
    rfl

end Sys2Proof.Machine
end

section
/-! What DETECTOR WRITE does: O17 (R1, R4 to R7, R17, R20, R32, R172). -/

namespace Sys2Proof.Machine

variable {s t u : State} {k : Fin 4} {i n : Nat} {run : List EntryRecord}

/-! ## The entries offered -/

theorem Role.ofCode_isSome (n : Nat) : (Role.ofCode n).isSome = true ↔ n ≤ 6 := by
  constructor
  · intro h
    by_contra hn
    obtain ⟨m, rfl⟩ : ∃ m, n = m + 7 := ⟨n - 7, by omega⟩
    cases h
  · intro h
    interval_cases n <;> rfl

/-- R1: a valid entry, bound by bound. -/
theorem entryValid_eq (j : Nat) (r : EntryRecord) : entryValid j r = (!r.flags.testBit 0 ||
    (decide (1 ≤ r.station ∧ r.station ≤ 126 ∧ r.channel ≤ 15 ∧ r.role ≤ 6 ∧ r.ramp ≤ 3 ∧ 32 ≤ r.scale ∧ r.scale ≤ 255) &&
      (!r.flags.testBit 1 || decide (r.substitute ≤ 63 ∧ r.substitute ≠ j)))) := by
  rw [Bool.eq_iff_iff]
  simp only [entryValid, entryEnabled, entryHasSubstitute, Bool.or_eq_true, Bool.and_eq_true, within_iff, decide_eq_true_eq,
    Role.ofCode_isSome]
  constructor
  · rintro (h | ⟨⟨⟨⟨⟨h1, h2⟩, h3⟩, h4⟩, h5⟩, h6⟩)
    · exact .inl h
    · exact .inr ⟨by omega, h5.imp id fun h => ⟨h.1.2, h.2⟩⟩
  · rintro (h | ⟨h, h5⟩)
    · exact .inl h
    · exact .inr ⟨⟨by omega, h5.imp id fun h => ⟨⟨Nat.zero_le _, h.1⟩, h.2⟩⟩, by omega⟩

/-- R172: the entry refused is the first invalid one of the run. -/
theorem invalidEntry_eq (i n : Nat) (run : List EntryRecord) :
    invalidEntry (i + n) run =
      (((run.zipIdx n).filter (fun p => !entryValid (i + p.2) p.1)).map (fun p => i + p.2)).head? := by
  induction run generalizing n with
  | nil => rfl
  | cons r rest ih =>
    simp only [invalidEntry, List.zipIdx_cons, List.filter_cons]
    cases hv : entryValid (i + n) r with
    | true =>
      rw [if_pos rfl, if_neg (by simp)]
      exact ih (n + 1)
    | false =>
      rw [if_neg (by simp)]
      rfl

/-! ## The notices -/

/-- A notice moves the normal insert queue, its dropped indication and the sequence number alone. -/
theorem State.offerSequenced_eq (s : State) (kind : Nat) (payload : List Byte) :
    s.offerSequenced kind payload = { s with
      normal := (s.offerSequenced kind payload).normal
      normalDropped := (s.offerSequenced kind payload).normalDropped
      sequence := (s.offerSequenced kind payload).sequence } := by
  simp only [State.offerSequenced, State.offerNormal]
  split <;> rfl

/-- R32: the HEALTH notice of an enabled entry written over. -/
def rewrittenNotice (i : Nat) (before : Option Detector) (after : Option DetectorConfig) : List (Nat × List Byte) :=
  match before, after with
  | some d, some c => if d.health = .good then [] else [healthNotice i c.ramp d.health .good .write .none]
  | _, _ => []

theorem State.writeNotices_cons (s0 s : State) (i : Nat) (r : EntryRecord) (rest : List EntryRecord) :
    ∃ t, State.writeNotices s0 i (r :: rest) s = State.writeNotices s0 (i + 1) rest t ∧
      s.tells t (rewrittenNotice i (s0.detector i) (entryConfig r)) [] ∧
      t = { s with normal := t.normal, normalDropped := t.normalDropped, sequence := t.sequence } := by
  refine ⟨_, rfl, ?_⟩
  cases s0.detector i with
  | none => exact ⟨s.tells_nil, rfl⟩
  | some d =>
    cases entryConfig r with
    | none => exact ⟨s.tells_nil, rfl⟩
    | some c =>
      simp only [rewrittenNotice]
      split
      · exact ⟨s.tells_nil, rfl⟩
      · refine ⟨s.offerHealth_tells _ _ _ _ _ _, ?_⟩
        exact s.offerSequenced_eq _ _

/-- R32: the notices of a run, in ascending index; nothing else changes. -/
theorem State.writeNotices_spec (s0 s : State) (i n : Nat) (run : List EntryRecord) :
    s.tells (State.writeNotices s0 (i + n) run s)
      ((run.zipIdx n).flatMap (fun p => rewrittenNotice (i + p.2) (s0.detector (i + p.2)) (entryConfig p.1))) [] ∧
    State.writeNotices s0 (i + n) run s = { s with
      normal := (State.writeNotices s0 (i + n) run s).normal
      normalDropped := (State.writeNotices s0 (i + n) run s).normalDropped
      sequence := (State.writeNotices s0 (i + n) run s).sequence } := by
  induction run generalizing n s with
  | nil => exact ⟨s.tells_nil, rfl⟩
  | cons r rest ih =>
    obtain ⟨t, ht, h1, h2⟩ := State.writeNotices_cons s0 s (i + n) r rest
    obtain ⟨ih1, ih2⟩ := ih t (n + 1)
    rw [ht, List.zipIdx_cons, List.flatMap_cons]
    refine ⟨State.tells_trans h1 ih1 (by rw [h2]) (by rw [h2]), ?_⟩
    rw [h2] at ih2 ⊢
    exact ih2

/-! ## The event -/

theorem State.spillMoved_eq (s t : State) (k : Fin 4) : s.spillMoved k t = s.spillEntryMoved t k := by
  simp only [State.spillMoved, State.spillEntryMoved, State.spillRows_eq]
  congr 2 <;> simp

/-- R6: a station has a record exactly while an entry of the table names it. -/
theorem stationList_named (timeout : Nat) (d : Table Detector) (old : Table Station) (a : Nat) :
    (stationList timeout (stationsNamed d) old).get a =
      if d.rows.any (fun p => p.2.config.station == a) then
        some ((old.get a).getD ⟨true, .all false, some timeout⟩) else none := by
  rw [stationList_get]
  have h : a ∈ stationsNamed d ↔ d.rows.any (fun p => p.2.config.station == a) = true := by
    rw [mem_stationsNamed, List.any_eq_true]
    simp only [beq_iff_eq]
  simp only [h]
  rfl

/-- R147, R169: the triggers of a write that left the tables as `w` has them, the heads told, and the reply. -/
theorem State.writeSettled_spec (u w : State) (q : Request) (x : Result) (body : List Byte) (touched : Nat → Bool)
    {notices : List (Nat × List Byte)} (hn : u.tells w notices [])
    (hw : w = { u with
      detectors := w.detectors, stations := w.stations
      normal := w.normal, normalDropped := w.normalDropped, sequence := w.sequence }) :
    let t := (State.settled u (w.deriveTriggers touched (fun k =>
      w.sourceChanged touched k || u.spillMoved k w))).reply q 0x10 x body
    let v : State := { u with detectors := t.detectors, stations := t.stations }
    let due (k : Fin 4) : Bool := v.spillSourceMoved touched k || u.spillEntryMoved v k
    t.detectors = w.detectors ∧ t.stations = w.stations ∧ u.tells t notices [replyOf u q 0x10 x body] ∧
    (∀ j, t.lastSources.get j = v.resolvedSource touched due j) ∧
    t = u.told { v with
      lastSources := t.lastSources
      normal := t.normal, normalDropped := t.normalDropped, sequence := t.sequence
      ramps := Four.tabulate (fun k => v.triggeredRamp touched (due k) k (u.ramp k)) } [] := by
  intro t v due
  generalize hD : w.detectors = D at hw
  generalize hS : w.stations = S at hw
  generalize w.normal = a at hw
  generalize w.normalDropped = b at hw
  generalize w.sequence = c at hw
  have hdue : (fun k => w.sourceChanged touched k || u.spillMoved k w) = fun k =>
      ({ u with detectors := D, stations := S } : State).spillSourceMoved touched k ||
        u.spillEntryMoved { u with detectors := D, stations := S } k := by
    funext k
    rw [State.spillSourceMoved_eq, State.spillMoved_eq, hw]
    rfl
  let T := State.settled u (w.deriveTriggers touched (fun k => w.sourceChanged touched k || u.spillMoved k w))
  have hT : T = u.told { w with
      lastSources := T.lastSources
      ramps := Four.tabulate (fun k => w.triggeredRamp touched
        (w.sourceChanged touched k || u.spillMoved k w) k (w.ramp k)) } [] := State.settled_deriveTriggers _ _ _ _
  have hlast : ∀ j, T.lastSources.get j = w.resolvedSource touched
      (fun k => w.sourceChanged touched k || u.spillMoved k w) j := fun j => by
    rw [State.lastSources_settled, State.lastSources_deriveTriggers]
  obtain ⟨h1, ht⟩ : T.repliesOnly t q 0x10 x body := T.reply_repliesOnly q 0x10 x body
  clear_value T t
  have hTn : u.tells T notices [] := State.tells_congr hn (by rw [hT]; rfl) (by rw [hT]; rfl) (by rw [hT]; rfl)
  have hsite : T.site = u.site := by rw [hT, hw]; rfl
  have hown : T.ownAddress = u.ownAddress := by rw [hT, hw]; rfl
  have hreply : replyOf T q 0x10 x body = replyOf u q 0x10 x body := by simp only [replyOf, hown]
  have hdet : t.detectors = D := by rw [ht, hT, hw]; rfl
  have hsta : t.stations = S := by rw [ht, hT, hw]; rfl
  have hv : v = { u with detectors := D, stations := S } := by simp only [v, hdet, hsta]
  have hd : due = fun k => w.sourceChanged touched k || u.spillMoved k w := by simp only [due, hv, hdue]
  refine ⟨hdet, hsta, ?_, fun j => ?_, ?_⟩
  · have h := State.tells_trans hTn h1 hsite hown
    rwa [List.append_nil, hreply] at h
  · rw [hv, hd, show t.lastSources = T.lastSources by rw [ht], hlast, hw]
    rfl
  · rw [hv, hd]
    conv_lhs => rw [ht, hT]
    rw [show t.lastSources = T.lastSources by rw [ht], show t.sequence = w.sequence by rw [ht, hT]; rfl]
    rw [hw]
    rfl

/-- R4 to R6, R17, R20, R32: a run of entries written from entry `i` on, and the reply. -/
theorem State.runWritten_spec (u : State) (q : Request) (x : Result) (body : List Byte) (i : Nat) (run : List EntryRecord) :
    let t := (State.settled u (u.runWritten i run)).reply q 0x10 x body
    let v : State := { u with detectors := t.detectors, stations := t.stations }
    let due (k : Fin 4) : Bool := v.spillSourceMoved (inRun i run.length) k || u.spillEntryMoved v k
    t.detectors = writeRun i run u.detectors ∧
    t.stations = stationList u.limits.timeout (stationsNamed (writeRun i run u.detectors)) u.stations ∧
    u.tells t (run.zipIdx.flatMap (fun p => rewrittenNotice (i + p.2) (u.detector (i + p.2)) (entryConfig p.1)))
      [replyOf u q 0x10 x body] ∧
    (∀ j, t.lastSources.get j = v.resolvedSource (inRun i run.length) due j) ∧
    t = u.told { v with
      lastSources := t.lastSources
      normal := t.normal, normalDropped := t.normalDropped, sequence := t.sequence
      ramps := Four.tabulate (fun k => v.triggeredRamp (inRun i run.length) (due k) k (u.ramp k)) } [] := by
  obtain ⟨hn, hs⟩ := State.writeNotices_spec u { u with
    detectors := writeRun i run u.detectors
    stations := stationList u.limits.timeout (stationsNamed (writeRun i run u.detectors)) u.stations } i 0 run
  simp only [Nat.add_zero] at hn hs
  have hdet := congrArg State.detectors hs
  have hsta := congrArg State.stations hs
  obtain ⟨h1, h2, h3⟩ := u.writeSettled_spec _ q x body (inRun i run.length)
    (State.tells_base hn rfl rfl rfl rfl rfl) (by rw [hdet, hsta]; exact hs)
  exact ⟨h1.trans hdet, h2.trans hsta, h3⟩

/-- R4 to R7, R17, R20, R32, R172: DETECTOR WRITE of 1-4 entries from an entry 0-63. -/
theorem State.detectorsWritten_spec (u : State) (q : Request) (entries : List EntryRecord) (hq : q.subject < 64)
    (h1 : 1 ≤ entries.length) (h4 : entries.length ≤ 4) :
    let t := u.detectorsWritten q entries
    let i := q.subject
    let n := min entries.length (4 - i % 4)
    let run := entries.take n
    let bad := (run.zipIdx.filter (fun p => !entryValid (i + p.2) p.1)).map (fun p => i + p.2)
    let written (j : Nat) : Bool := decide (i ≤ j ∧ j < i + n)
    if bad ≠ [] then u.repliesOnly t q 0x10 .badValue [u8 (bad.headD 0)]
    else if 24 < (stationsNamed (writeRun i run u.detectors)).length then u.repliesOnly t q 0x10 .noRoom []
    else
      (∀ j, t.detector j = if written j then (run[j - i]?.bind entryConfig).map Detector.fresh else u.detector j) ∧
      (∀ a, t.stations.get a = if t.detectors.rows.any (fun p => p.2.config.station == a) then
          some ((u.stations.get a).getD ⟨true, .all false, some u.limits.timeout⟩) else none) ∧
      u.tells t (run.zipIdx.flatMap (fun p => rewrittenNotice (i + p.2) (u.detector (i + p.2)) (entryConfig p.1)))
        [replyOf u q 0x10 (if n = entries.length then .done else .partly) [u8 n]] ∧
      (let v : State := { u with detectors := t.detectors, stations := t.stations }
       let due (k : Fin 4) : Bool := v.spillSourceMoved written k || u.spillEntryMoved v k
       (∀ j, t.lastSources.get j = v.resolvedSource written due j) ∧
       t = u.told { v with
         lastSources := t.lastSources
         normal := t.normal, normalDropped := t.normalDropped, sequence := t.sequence
         ramps := Four.tabulate (fun k => v.triggeredRamp written (due k) k (u.ramp k)) } []) := by
  intro t i n run bad written
  have hcount : ¬within 1 4 entries.length = false := by
    rw [within_eq_false]
    omega
  have hin : ¬within 0 63 q.subject = false := by
    rw [within_eq_false]
    omega
  have hrun : run.length = n := by
    simp only [run, List.length_take]
    omega
  have hwritten : inRun i run.length = written := by
    funext j
    simp only [inRun, hrun, written, Bool.decide_and]
  have hbad : invalidEntry i run = bad.head? := invalidEntry_eq i 0 run
  have ht : t = match invalidEntry i run with
      | some j => u.badValue q 0x10 j
      | none =>
        if Config.stationRecords < (stationsNamed (writeRun i run u.detectors)).length then u.reply q 0x10 .noRoom []
        else (State.settled u (u.runWritten i run)).reply q 0x10 (runResult n entries.length) [u8 n] := by
    simp only [t, State.detectorsWritten]
    rw [if_neg hcount, if_neg hin]
    rfl
  clear_value t bad
  cases bad with
  | cons j rest =>
    rw [hbad] at ht
    rw [if_pos (List.cons_ne_nil j rest), ht]
    exact u.reply_repliesOnly _ _ _ _
  | nil =>
    rw [hbad] at ht
    rw [if_neg (not_not.mpr rfl)]
    dsimp only [List.head?_nil] at ht
    split
    · rename_i hroom
      rw [ht]
      exact (if_pos hroom).symm ▸ u.reply_repliesOnly _ _ _ _
    · rename_i hroom
      have hspec := u.runWritten_spec q (runResult n entries.length) [u8 n] i run
      rw [hwritten] at hspec
      dsimp only at hspec
      rw [← ht.trans (if_neg hroom)] at hspec
      obtain ⟨hdet, hsta, htells, hlast, heq⟩ := hspec
      refine ⟨fun j => ?_, fun a => ?_, htells, hlast, heq⟩
      · rw [State.detector, hdet, writeRun_get, hrun]
        simp only [written, decide_eq_true_eq]
        rfl
      · rw [hsta, hdet]
        exact stationList_named _ _ _ a

/-- Settles O17. -/
theorem detectorWriteSetsEntriesUp : Obligations.DetectorWriteSetsEntriesUp := by
  intro q entries s hq h1 h4
  refine ⟨_, rfl, ?_⟩
  dsimp only
  simp only [← entryValid_eq]
  exact (s.took _).detectorsWritten_spec q entries hq h1 h4

end Sys2Proof.Machine
end

section
/-! FORCE OUT and RESTORE: O19 (R30 to R32). -/

namespace Sys2Proof.Machine

variable {s t u : State}

/-- R30, R31: an entry's health set by request, its notice, and the reply. -/
theorem State.healthSet_spec (u : State) (q : Request) (code i : Nat) (d : Detector) (h : Health) (cause : HealthCause) :
    let t := (u.healthSet i d h cause).reply q code .done []
    (∀ j, t.detector j =
      if j = i then some { d with health := h, symptomatic := 0, clean := 0 } else u.detector j) ∧
    u.tells t [healthNotice i d.config.ramp d.health h cause .none] [replyOf u q code .done []] ∧
    t = { u with
      detectors := t.detectors, normal := t.normal, normalDropped := t.normalDropped, sequence := t.sequence } := by
  intro t
  let v : State := { u with detectors := u.detectors.insert i { d with health := h, symptomatic := 0, clean := 0 } }
  let w := v.offerHealth i d.config.ramp d.health h cause .none
  have hw : w = { v with normal := w.normal, normalDropped := w.normalDropped, sequence := w.sequence } :=
    v.offerSequenced_eq _ _
  have hn : v.tells w [healthNotice i d.config.ramp d.health h cause .none] [] := v.offerHealth_tells _ _ _ _ _ _
  obtain ⟨h1, ht⟩ : w.repliesOnly t q code .done [] := w.reply_repliesOnly q code .done []
  have hown : w.ownAddress = u.ownAddress := by rw [hw]
  have hreply : replyOf w q code .done [] = replyOf u q code .done [] := by simp only [replyOf, hown]
  clear_value w t
  have htells := State.tells_trans (State.tells_base hn rfl rfl rfl rfl rfl) h1 (by rw [hw]) hown
  rw [List.append_nil, hreply] at htells
  have hdet : t.detectors = v.detectors := by rw [ht, hw]
  refine ⟨fun j => ?_, htells, ?_⟩
  · rw [State.detector, hdet]
    exact Table.get_insert _ _ _ _
  · rw [hdet]
    conv_lhs => rw [ht, hw]
    rw [show t.sequence = w.sequence by rw [ht]]

/-- R30: FORCE OUT of an entry 0-63. -/
theorem State.forcedOut_spec (u : State) (q : Request) (hq : q.subject < 64) :
    let t := u.forcedOut q
    (u.detector q.subject = none → u.repliesOnly t q 0x12 .wrongState []) ∧
    (∀ d, u.detector q.subject = some d →
      if d.health = .forcedOut then u.repliesOnly t q 0x12 .done []
      else
        (∀ j, t.detector j =
          if j = q.subject then some { d with health := .forcedOut, symptomatic := 0, clean := 0 } else u.detector j) ∧
        u.tells t [healthNotice q.subject d.config.ramp d.health .forcedOut .forceOut .none] [replyOf u q 0x12 .done []] ∧
        t = { u with detectors := t.detectors, normal := t.normal, normalDropped := t.normalDropped,
                     sequence := t.sequence }) := by
  have hin : ¬within 0 63 q.subject = false := by
    rw [within_eq_false]
    omega
  simp only [State.forcedOut]
  rw [if_neg hin]
  refine ⟨fun hd => ?_, fun d hd => ?_⟩
  · rw [hd]
    exact u.reply_repliesOnly _ _ _ _
  · rw [hd]
    dsimp only
    split
    · exact u.reply_repliesOnly _ _ _ _
    · exact u.healthSet_spec q _ _ d _ _

theorem Health.serves_iff (h : Health) : h.serves = true ↔ h = .good ∨ h = .suspect := by
  cases h <;> simp [Health.serves]

/-- R31: RESTORE of an entry 0-63. -/
theorem State.restored_spec (u : State) (q : Request) (hq : q.subject < 64) :
    let t := u.restored q
    (u.detector q.subject = none → u.repliesOnly t q 0x13 .wrongState []) ∧
    (∀ d, u.detector q.subject = some d →
      if d.health = .good ∨ d.health = .suspect then u.repliesOnly t q 0x13 .wrongState []
      else
        (∀ j, t.detector j =
          if j = q.subject then some { d with health := .good, symptomatic := 0, clean := 0 } else u.detector j) ∧
        u.tells t [healthNotice q.subject d.config.ramp d.health .good .restore .none] [replyOf u q 0x13 .done []] ∧
        t = { u with detectors := t.detectors, normal := t.normal, normalDropped := t.normalDropped,
                     sequence := t.sequence }) := by
  have hin : ¬within 0 63 q.subject = false := by
    rw [within_eq_false]
    omega
  simp only [State.restored]
  rw [if_neg hin]
  refine ⟨fun hd => ?_, fun d hd => ?_⟩
  · rw [hd]
    exact u.reply_repliesOnly _ _ _ _
  · rw [hd]
    dsimp only
    by_cases hs : d.health = .good ∨ d.health = .suspect
    · rw [if_pos hs, if_pos ((Health.serves_iff _).mpr hs)]
      exact u.reply_repliesOnly _ _ _ _
    · rw [if_neg hs, if_neg (fun h => hs ((Health.serves_iff _).mp h))]
      exact u.healthSet_spec q _ _ d _ _

/-- Settles O19. -/
theorem forceOutAndRestore : Obligations.ForceOutAndRestore := by
  refine ⟨fun q s hq => ?_, fun q s hq => ⟨⟨_, rfl, (s.took _).forcedOut_spec q hq⟩,
    ⟨_, rfl, (s.took _).restored_spec q hq⟩⟩⟩
  have hout : within 0 63 q.subject = false := by
    rw [within_eq_false]
    omega
  refine ⟨⟨_, rfl, ?_⟩, ⟨_, rfl, ?_⟩⟩
  · simp only [State.forcedOut, hout, if_true]
    exact State.reply_repliesOnly _ _ _ _ _
  · simp only [State.restored, hout, if_true]
    exact State.reply_repliesOnly _ _ _ _ _

end Sys2Proof.Machine
end

section
/-! DETECTOR READ, its records and its configuration view: O18 (R1, R172, R181). -/

namespace Sys2Proof.Machine

variable {s t u : State}

/-! ## Records of one length, one after the other -/

theorem length_flatMap_of_const {α β : Type} {f : α → List β} {m : Nat} (l : List α) (h : ∀ x ∈ l, (f x).length = m) :
    (l.flatMap f).length = l.length * m := by
  induction l with
  | nil => simp
  | cons x rest ih =>
    rw [List.flatMap_cons, List.length_append, h x List.mem_cons_self, ih fun y hy => h y (List.mem_cons_of_mem x hy),
      List.length_cons, Nat.succ_mul, Nat.add_comm]

/-- The `j`-th of the records. -/
theorem slice_flatMap_of_const {α β : Type} {f : α → List β} {m : Nat} (l : List α) (h : ∀ x ∈ l, (f x).length = m)
    {j : Nat} {x : α} (hj : l[j]? = some x) : ((l.flatMap f).drop (j * m)).take m = f x := by
  induction l generalizing j with
  | nil => simp at hj
  | cons y rest ih =>
    have hy := h y List.mem_cons_self
    rw [List.flatMap_cons]
    cases j with
    | zero =>
      rw [List.getElem?_cons_zero, Option.some.injEq] at hj
      subst hj
      rw [Nat.zero_mul, List.drop_zero, ← hy, List.take_left]
    | succ j =>
      rw [List.getElem?_cons_succ] at hj
      have hd : (f y ++ rest.flatMap f).drop ((j + 1) * m) = (rest.flatMap f).drop (j * m) := by
        rw [show (j + 1) * m = (f y).length + j * m by rw [hy]; ring, List.drop_length_add_append]
      rw [hd]
      exact ih (fun z hz => h z (List.mem_cons_of_mem y hz)) hj

/-! ## The views -/

/-- R181: the length of a record in a view. -/
def viewSize (view : Nat) : Nat := if view = 0 then 7 else if view = 1 then 6 else 13

theorem length_measureBytes (m : Option Measure) : (measureBytes m).length = 4 := by
  cases m <;> rfl

theorem length_heldBytes (h : Option Held) : (heldBytes h).length = 5 := by
  cases h <;> rfl

theorem State.length_entryView (s : State) (view i : Nat) (free : Byte) : (s.entryView view i free).length = viewSize view := by
  match view with
  | 0 =>
    simp only [State.entryView, configView]
    split <;> rfl
  | 1 =>
    simp only [State.entryView, healthView]
    split <;> rfl
  | n + 2 =>
    simp only [State.entryView, measuresView, viewSize]
    split
    · rfl
    · simp [length_measureBytes, length_heldBytes]

theorem State.length_runRecords (s : State) (i n view : Nat) : (s.runRecords i n view).length = n * viewSize view := by
  rw [State.runRecords, length_flatMap_of_const _ fun j _ => s.length_entryView view (i + j) _, List.length_range]

theorem State.slice_runRecords (s : State) (i n view : Nat) {j : Nat} (hj : j < n) :
    ((s.runRecords i n view).drop (j * viewSize view)).take (viewSize view) =
      s.entryView view (i + j) (Config.unstatedByte (s.freeCount + j)) :=
  slice_flatMap_of_const (List.range n) (fun j _ => s.length_entryView view (i + j) _)
    (by rw [List.getElem?_range hj])

/-- R172, R181: what the record of a disabled and of an enabled entry carries in each view. -/
theorem State.entryView_spec (s : State) {view : Nat} (hv : view ≤ 2) (i : Nat) (free : Byte) :
    (s.detector i = none → s.entryView view i free = List.replicate (viewSize view) (if view = 0 then 0#8 else 0xFF#8)) ∧
    (∀ d, s.detector i = some d →
      (view = 0 → s.entryView view i free = configView free (some d)) ∧
      (view = 1 → s.entryView view i free = [u8 d.health.code, u8 d.symptomatic, u8 d.clean, u8 d.symptoms.code,
        u8 (usabilityCode d.usability), u8 (substituteUsedCode d.usability)]) ∧
      (view = 2 → s.entryView view i free = measureBytes d.raw ++ measureBytes d.smoothed ++ heldBytes d.held)) := by
  refine ⟨fun hd => ?_, fun d hd => ⟨?_, ?_, ?_⟩⟩
  · interval_cases view <;> simp only [State.entryView, hd] <;> rfl
  all_goals
    rintro rfl
    simp only [State.entryView, hd, healthView, measuresView]

/-! ## The configuration view read as an entry -/

theorem toNat_u8 {n : Nat} (h : n < 256) : (u8 n).toNat = n := by
  rw [u8, BitVec.toNat_ofNat]
  omega

/-- R181: the flags of an enabled entry: enabled, substitute present, policy. -/
theorem entryFlags (present drop : Bool) :
    let n := 1 + bitValue present 2 + bitValue drop 4
    n < 256 ∧ n.testBit 0 = true ∧ n.testBit 1 = present ∧ n.testBit 2 = drop := by
  cases present <;> cases drop <;> decide

theorem Role.code_lt (r : Role) : r.code < 7 := by
  cases r <;> decide

theorem Role.ofCode_code (r : Role) : Role.ofCode r.code = some r := by
  cases r <;> rfl

/-- R181: the configuration view of an enabled entry, with its substitute byte. -/
theorem configView_substitute (free : Byte) (d : Detector) (h : ∀ j, d.config.substitute = some j → j < 64) :
    ∃ x : Byte, configView free (some d) =
        [u8 (1 + bitValue d.config.substitute.isSome 2 + bitValue d.config.drop 4), u8 d.config.station, u8 d.config.channel,
          u8 d.config.role.code, u8 d.config.ramp.val, x, u8 d.config.scale] ∧
      (if d.config.substitute.isSome = true then some x.toNat else none) = d.config.substitute := by
  simp only [configView]
  cases hs : d.config.substitute with
  | none => exact ⟨free, rfl, rfl⟩
  | some j =>
    have hj := h j hs
    exact ⟨u8 j, rfl, by rw [toNat_u8 (by omega)]; rfl⟩

/-- R172: the configuration view of an entry in range, read as a DETECTOR WRITE entry. -/
theorem configView_entry (free : Byte) (d : Detector) (h1 : 1 ≤ d.config.station) (h2 : d.config.station ≤ 126)
    (h3 : d.config.channel ≤ 15) (h4 : 32 ≤ d.config.scale) (h5 : d.config.scale ≤ 255)
    (h6 : ∀ j, d.config.substitute = some j → j < 64) :
    ∃ r, entryRecords (byteValues (configView free (some d))) = [r] ∧ entryConfig r = some d.config ∧
      (∀ i, d.config.substitute ≠ some i → entryValid i r = true) := by
  obtain ⟨hf, hb0, hb1, hb2⟩ := entryFlags d.config.substitute.isSome d.config.drop
  have hrole := d.config.role.code_lt
  have hramp := d.config.ramp.isLt
  obtain ⟨x, hview, hsub⟩ := configView_substitute free d h6
  refine ⟨⟨1 + bitValue d.config.substitute.isSome 2 + bitValue d.config.drop 4, d.config.station, d.config.channel,
    d.config.role.code, d.config.ramp.val, x.toNat, d.config.scale⟩, ?_, ?_, fun i hi => ?_⟩
  · simp only [hview, byteValues, List.map_cons, List.map_nil, entryRecords, toNat_u8 hf,
      toNat_u8 (show d.config.station < 256 by omega), toNat_u8 (show d.config.channel < 256 by omega),
      toNat_u8 (show d.config.role.code < 256 by omega), toNat_u8 (show d.config.ramp.val < 256 by omega),
      toNat_u8 (show d.config.scale < 256 by omega)]
  · simp only [entryConfig, entryEnabled, entryHasSubstitute, hb0, hb1, hb2, if_true, Role.ofCode_code, Option.getD_some,
      Fin.ofNat_val_eq_self, hsub]
  · have hchecks : 1 ≤ d.config.station ∧ d.config.station ≤ 126 ∧ d.config.channel ≤ 15 ∧ d.config.role.code ≤ 6 ∧
        d.config.ramp.val ≤ 3 ∧ 32 ≤ d.config.scale ∧ d.config.scale ≤ 255 := by omega
    rw [entryValid_eq]
    simp only [hb0, hb1, decide_eq_true hchecks]
    cases hs : d.config.substitute with
    | none => rfl
    | some j =>
      rw [hs, Option.isSome_some, if_pos rfl, Option.some.injEq] at hsub
      have hj : x.toNat ≤ 63 ∧ x.toNat ≠ i := by
        have hj := h6 j hs
        have hji : j ≠ i := fun h => hi (h ▸ hs)
        omega
      simp only [decide_eq_true hj]
      rfl

/-- R172: DETECTOR READ from an entry 0-63. -/
theorem State.detectorsRead_spec (u : State) (q : Request) (count view : Nat) (hq : q.subject < 64) :
    let t := u.detectorsRead q count view
    let n := min count (4 - q.subject % 4)
    if count < 1 ∨ 4 < count ∨ 2 < view then u.repliesOnly t q 0x11 .badValue [u8 0xFF]
    else
      u.tells t [] [replyOf u q 0x11 (if n = count then .done else .partly)
        ([u8 n, u8 view] ++ u.runRecords q.subject n view)] ∧
      t = { u with
        normal := t.normal, normalDropped := t.normalDropped
        freeCount := if view = 0 then u.freeCount + n else u.freeCount } := by
  have hin : ¬within 0 63 q.subject = false := by
    rw [within_eq_false]
    omega
  intro t n
  simp only [t, State.detectorsRead]
  rw [if_neg hin]
  by_cases hc : count < 1 ∨ 4 < count ∨ 2 < view
  · rw [if_pos hc, if_pos (by simp only [within_eq_false]; omega)]
    exact u.reply_repliesOnly _ _ _ _
  · rw [if_neg hc, if_neg (by simp only [within_eq_false]; omega)]
    obtain ⟨h1, h2⟩ := u.reply_repliesOnly q 0x11 (runResult (runTaken q.subject count) count)
      ([u8 (runTaken q.subject count), u8 view] ++ u.runRecords q.subject (runTaken q.subject count) view)
    split
    · refine ⟨State.tells_congr h1 rfl rfl rfl, ?_⟩
      simp only [State.drew]
      conv_lhs => rw [h2]
      rfl
    · exact ⟨h1, h2⟩

/-- Settles O18. -/
theorem detectorReadReturnsTheRun : Obligations.DetectorReadReturnsTheRun := by
  refine ⟨fun q count view s hq => ⟨_, rfl, ?_⟩, configView_entry⟩
  have h := (s.took (.detectorRead q count view)).detectorsRead_spec q count view hq
  dsimp only at h ⊢
  split
  · rename_i hc
    rw [if_pos hc] at h
    exact h
  · rename_i hc
    rw [if_neg hc] at h
    obtain ⟨h1, h2⟩ := h
    exact ⟨⟨_, h1, State.length_runRecords _ _ _ _, fun j hj => (State.slice_runRecords _ _ _ _ hj).symm ▸
      State.entryView_spec _ (by omega) _ _⟩, h2⟩

end Sys2Proof.Machine
end

section
/-! The measures of one entry: O25 (R57 to R60). -/

namespace Sys2Proof.Machine

/-! ## Weighted differences -/

/-- R60: a weight of at most 16 sixteenths takes no more than the difference. -/
theorem halfUp_weighted_le {w : Nat} (h : w ≤ 16) (d : Nat) : halfUp (d * w) 16 ≤ d := by
  have hd : d * w ≤ d * 16 := Nat.mul_le_mul_left d h
  simp only [halfUp]
  omega

theorem halfUp_weighted_full (d : Nat) : halfUp (d * 16) 16 = d := by
  simp only [halfUp]
  omega

/-- R60: a smoothed value that rises. -/
theorem smoothValue_rising {previous raw : Nat} (h : previous ≤ raw) (w : Nat) :
    smoothValue w previous raw = previous + halfUp ((raw - previous) * w) 16 := by
  have hnum : ((raw : Int) - (previous : Int)) * (w : Int) = (((raw - previous) * w : Nat) : Int) := by
    rw [Nat.cast_mul, Nat.cast_sub h]
  rw [smoothValue, hnum, halfAway_of_nonneg (Int.natCast_nonneg _), Int.natAbs_natCast]
  omega

/-- R60: a smoothed value that falls. -/
theorem smoothValue_falling {previous raw : Nat} (h : raw < previous) {w : Nat} (hw : 1 ≤ w) :
    smoothValue w previous raw = previous - halfUp ((previous - raw) * w) 16 := by
  have hnum : ((raw : Int) - (previous : Int)) * (w : Int) = -(((previous - raw) * w : Nat) : Int) := by
    rw [Nat.cast_mul, Nat.cast_sub h.le]
    ring
  have hpos : 0 < (previous - raw) * w := Nat.mul_pos (by omega) hw
  rw [smoothValue, hnum, halfAway_of_neg (by omega), Int.natAbs_neg, Int.natAbs_natCast]
  omega

/-- R60: a smoothed value moves toward the raw one and never past it. -/
theorem smoothValue_spec {w : Nat} (hw : 1 ≤ w) (hw' : w ≤ 16) (previous raw : Nat) :
    let v := smoothValue w previous raw
    min previous raw ≤ v ∧ v ≤ max previous raw ∧ (w = 16 → v = raw) ∧
    (previous ≤ raw → v - previous = (2 * ((raw - previous) * w) + 16) / 32) ∧
    (raw ≤ previous → previous - v = (2 * ((previous - raw) * w) + 16) / 32) := by
  intro v
  rcases Nat.lt_or_ge raw previous with h | h
  · have hv : v = previous - halfUp ((previous - raw) * w) 16 := smoothValue_falling h hw
    have hle := halfUp_weighted_le hw' (previous - raw)
    have hdef : halfUp ((previous - raw) * w) 16 = (2 * ((previous - raw) * w) + 16) / 32 := rfl
    refine ⟨by omega, by omega, fun hf => ?_, fun hr => by omega, fun _ => by omega⟩
    rw [hv, hf, halfUp_weighted_full]
    omega
  · have hv : v = previous + halfUp ((raw - previous) * w) 16 := smoothValue_rising h w
    have hle := halfUp_weighted_le hw' (raw - previous)
    have hdef : halfUp ((raw - previous) * w) 16 = (2 * ((raw - previous) * w) + 16) / 32 := rfl
    refine ⟨by omega, by omega, fun hf => ?_, fun _ => by omega, fun hr => ?_⟩
    · rw [hv, hf, halfUp_weighted_full]
      omega
    · obtain rfl : raw = previous := by omega
      simp only [Nat.sub_self, Nat.zero_mul] at hdef ⊢
      omega

/-! ## Raw measures -/

/-- R57 to R59: the raw measures of the totals taken. -/
theorem rawMeasure_spec (arrivals onTime : Nat) {span : Nat} (h : span ≠ 0) :
    ∃ m v, rawMeasure arrivals onTime span = some m ∧ m.flow = min 9999 v ∧
      2 * span * v ≤ 2 * (arrivals * 3600000) + span ∧ 2 * (arrivals * 3600000) + span < 2 * span * (v + 1) ∧
      2 * span * m.occ ≤ 2 * (onTime * 10000) + span ∧ 2 * (onTime * 10000) + span < 2 * span * (m.occ + 1) ∧
      (onTime ≤ span → m.occ ≤ 10000) := by
  obtain ⟨f1, f2⟩ := halfUp_spec (Nat.pos_of_ne_zero h) (arrivals * 3600000)
  obtain ⟨o1, o2⟩ := halfUp_spec (Nat.pos_of_ne_zero h) (onTime * 10000)
  refine ⟨_, halfUp (arrivals * 3600000) span, if_neg h, rfl, f1, f2, o1, o2, fun hle => ?_⟩
  have hlt : 2 * span * halfUp (onTime * 10000) span < 2 * span * 10001 := by omega
  exact Nat.le_of_lt_succ (Nat.lt_of_mul_lt_mul_left hlt)

/-- Settles O25. -/
theorem measuresOfOneEntry : Obligations.MeasuresOfOneEntry := by
  refine ⟨fun arrivals onTime span => ⟨fun h => if_pos h, rawMeasure_spec arrivals onTime⟩,
    fun w previous raw h1 h2 => smoothValue_spec h1 h2 previous raw, fun w n previous p m => ⟨?_, ?_, rfl, rfl⟩⟩
  · cases w <;> rfl
  · rfl

end Sys2Proof.Machine
end

section
/-! The usability of an entry and the group measures: O27 (R33 to R36, R62, R64). -/

namespace Sys2Proof.Machine

variable {hold ms : Nat} {all : List (Nat × Closing)} {c : Closing}

/-! ## What an entry may supply -/

theorem Closing.short_eq_false_iff (ms : Nat) (c : Closing) : c.short ms = false ↔ c.span ≠ 0 ∧ ms ≤ 2 * c.span := by
  simp only [Closing.short, Bool.or_eq_false_iff, decide_eq_false_iff_not]
  omega

/-- R33: an entry supplies its own smoothed measures while it serves and is covered. -/
theorem Closing.ownMeasure_eq (ms : Nat) (c : Closing) : c.ownMeasure ms =
    if (c.entry.health = .good ∨ c.entry.health = .suspect) ∧ c.span ≠ 0 ∧ ms ≤ 2 * c.span then c.entry.smoothed else none := by
  simp only [Closing.ownMeasure, Health.serves_iff, Closing.short_eq_false_iff]

theorem Closing.ownMeasure_eq_some {m : Measure} (hs : c.entry.health = .good ∨ c.entry.health = .suspect)
    (hc : c.span ≠ 0 ∧ ms ≤ 2 * c.span) (hm : c.entry.smoothed = some m) : c.ownMeasure ms = some m := by
  rw [Closing.ownMeasure_eq, if_pos ⟨hs, hc⟩, hm]

theorem Closing.ownMeasure_eq_none (h : ¬((c.entry.health = .good ∨ c.entry.health = .suspect) ∧
    (c.span ≠ 0 ∧ ms ≤ 2 * c.span) ∧ c.entry.smoothed ≠ none)) : c.ownMeasure ms = none := by
  rw [Closing.ownMeasure_eq]
  split
  · rename_i hc
    by_contra hn
    exact h ⟨hc.1, hc.2, hn⟩
  · rfl

theorem substituteMeasure_serving (hs : c.entry.health = .good ∨ c.entry.health = .suspect) :
    substituteMeasure ms all c = none := if_pos ((Health.serves_iff _).mpr hs)

/-- R34: what the substitute of an entry that does not serve brings. -/
theorem substituteMeasure_of (hs : ¬(c.entry.health = .good ∨ c.entry.health = .suspect)) {j : Nat}
    (hj : c.entry.config.substitute = some j) : substituteMeasure ms all c =
      (rowsGet all j).bind (fun e => (e.ownMeasure ms).map (fun m => (j, scaledMeasure c.entry.config.scale m))) := by
  simp only [substituteMeasure]
  rw [if_neg fun h => hs ((Health.serves_iff _).mp h), hj]
  cases he : rowsGet all j <;> simp only [he] <;> rfl

theorem substituteMeasure_absent (hj : c.entry.config.substitute = none) : substituteMeasure ms all c = none := by
  simp only [substituteMeasure, hj]
  split <;> rfl

/-! ## The outcome -/

theorem closeUsability_own {m : Measure} (h : c.ownMeasure ms = some m) : closeUsability hold ms all c =
    ({ c.entry with
       usability := some .own, held := if c.entry.config.drop then none else some ⟨m.flow, m.occ, hold⟩ }, some m) := by
  simp only [closeUsability, h]

theorem closeUsability_substitute {j : Nat} {m : Measure} (h : c.ownMeasure ms = none)
    (hs : substituteMeasure ms all c = some (j, m)) :
    closeUsability hold ms all c = ({ c.entry with usability := some (.substitute j) }, some m) := by
  simp only [closeUsability, h, hs]

/-- R35: an entry that supplies neither its own measures nor a substitute's. -/
theorem closeUsability_alone (h : c.ownMeasure ms = none) (hs : substituteMeasure ms all c = none) :
    (∀ x, c.entry.held = some x → c.entry.config.drop = false → 1 ≤ x.count →
      closeUsability hold ms all c = ({ c.entry with
        usability := some .held, held := if x.count = 1 then none else some { x with count := x.count - 1 } },
        some ⟨x.flow, x.occ⟩)) ∧
    ((c.entry.held = none ∨ c.entry.config.drop = true) →
      closeUsability hold ms all c = ({ c.entry with usability := some .unusable }, none)) := by
  refine ⟨fun x hx hd hcount => ?_, fun hn => ?_⟩
  · have hheld : c.heldMeasure = some x := by
      simp only [Closing.heldMeasure, hx, hd, Bool.false_or, decide_eq_true_eq]
      exact if_neg (by omega)
    have hlast : x.count ≤ 1 ↔ x.count = 1 := by omega
    simp only [closeUsability, h, hs, hheld, hlast]
  · have hheld : c.heldMeasure = none := by
      simp only [Closing.heldMeasure]
      split
      · rfl
      · rename_i x hx
        rcases hn with hn | hn
        · rw [hn] at hx
          cases hx
        · exact if_pos (by rw [hn]; rfl)
    simp only [closeUsability, h, hs, hheld]

/-- R34: a substitute that may not supply brings nothing. -/
theorem substituteMeasure_unusable (hs : ¬(c.entry.health = .good ∨ c.entry.health = .suspect)) {j : Nat}
    (hj : c.entry.config.substitute = some j)
    (hn : ∀ e, rowsGet all j = some e → ¬((e.entry.health = .good ∨ e.entry.health = .suspect) ∧
      (e.span ≠ 0 ∧ ms ≤ 2 * e.span) ∧ e.entry.smoothed ≠ none)) : substituteMeasure ms all c = none := by
  rw [substituteMeasure_of hs hj]
  cases he : rowsGet all j with
  | none => rfl
  | some e => rw [Option.bind_some, Closing.ownMeasure_eq_none (hn e he), Option.map_none]

/-! ## Group measures -/

theorem grouped_eq_none_iff (f : List Nat → Nat) (values : List Nat) : grouped f values = none ↔ values = [] := by
  cases values <;> simp [grouped]

theorem grouped_eq_some {f : List Nat → Nat} {values : List Nat} {v : Nat} (h : grouped f values = some v) :
    values ≠ [] ∧ v = f values := by
  cases values with
  | nil => cases h
  | cons x rest => exact ⟨List.cons_ne_nil x rest, (Option.some.inj h).symm⟩

theorem foldl_max_spec (l : List Nat) (n : Nat) :
    n ≤ l.foldl max n ∧ (∀ w ∈ l, w ≤ l.foldl max n) ∧ (l.foldl max n = n ∨ l.foldl max n ∈ l) := by
  induction l generalizing n with
  | nil => exact ⟨le_refl _, fun _ h => absurd h List.not_mem_nil, .inl rfl⟩
  | cons x rest ih =>
    obtain ⟨h1, h2, h3⟩ := ih (max n x)
    rw [List.foldl_cons]
    refine ⟨(le_max_left n x).trans h1, fun w hw => ?_, ?_⟩
    · rcases List.mem_cons.mp hw with rfl | hw
      · exact (le_max_right n w).trans h1
      · exact h2 w hw
    · rcases h3 with h3 | h3
      · rcases max_choice n x with hx | hx
        · exact .inl (h3.trans hx)
        · exact .inr (List.mem_cons.mpr (.inl (h3.trans hx)))
      · exact .inr (List.mem_cons_of_mem x h3)

/-- R62: the largest value of a group is one of it. -/
theorem largest_spec {values : List Nat} (h : values ≠ []) : largest values ∈ values ∧ ∀ w ∈ values, w ≤ largest values := by
  obtain ⟨-, h2, h3⟩ := foldl_max_spec values 0
  refine ⟨?_, h2⟩
  rcases h3 with h3 | h3
  · obtain ⟨x, hx⟩ := List.exists_mem_of_ne_nil values h
    have hle := h2 x hx
    have hx0 : x = largest values := by
      rw [largest, h3]
      omega
    exact hx0 ▸ hx
  · exact h3

/-- Settles O27. -/
theorem usabilityAndGroupMeasures : Obligations.UsabilityAndGroupMeasures := by
  refine ⟨fun hold ms all c => ⟨fun hs hc m hm => ?_, fun hs j e m hj he hse hce hm => ?_, fun hn => ?_⟩,
    fun supplied spill => ⟨grouped_eq_none_iff _ _, grouped_eq_none_iff (fun v => saturate 30000 v.sum) _,
      grouped_eq_none_iff (fun v => saturate 30000 v.sum) _, grouped_eq_none_iff _ _, rfl,
      fun v hv => (grouped_eq_some hv).2, fun v hv => (grouped_eq_some (f := fun v => saturate 30000 v.sum) hv).2,
      fun v hv => (grouped_eq_some (f := fun v => saturate 30000 v.sum) hv).2, fun v hv => ?_⟩⟩
  · rw [closeUsability_own (Closing.ownMeasure_eq_some hs hc hm)]
    exact ⟨rfl, rfl⟩
  · have hsub : substituteMeasure ms all c = some (j, scaledMeasure c.entry.config.scale m) := by
      rw [substituteMeasure_of hs hj, he, Option.bind_some, Closing.ownMeasure_eq_some hse hce hm, Option.map_some]
    rw [closeUsability_substitute (Closing.ownMeasure_eq_none fun h => hs h.1) hsub]
    exact ⟨rfl, rfl⟩
  · obtain ⟨hown, hsub⟩ : c.ownMeasure ms = none ∧ substituteMeasure ms all c = none := by
      rcases hn with ⟨hs, hn⟩ | ⟨hs, hn⟩
      · refine ⟨Closing.ownMeasure_eq_none fun h => ?_, substituteMeasure_serving hs⟩
        exact hn.elim (fun hc => hc h.2.1) h.2.2
      · refine ⟨Closing.ownMeasure_eq_none fun h => hs h.1, ?_⟩
        rcases hn with hj | ⟨j, hj, hn⟩
        · exact substituteMeasure_absent hj
        · refine substituteMeasure_unusable hs hj fun e he => ?_
          rw [he] at hn
          exact of_decide_eq_false hn
    obtain ⟨h1, h2⟩ := closeUsability_alone (hold := hold) hown hsub
    refine ⟨fun x hx hd hcount => ?_, fun hn => ?_⟩
    · rw [h1 x hx hd hcount]
      exact ⟨rfl, rfl⟩
    · rw [h2 hn]
      exact ⟨rfl, rfl⟩
  · obtain ⟨hne, rfl⟩ := grouped_eq_some hv
    exact largest_spec hne

end Sys2Proof.Machine
end

section
/-! The interval close: O26 (R24 to R26, R32, R55, R64 to R66, R70). -/

namespace Sys2Proof.Machine

variable {s t u : State} {k : Fin 4} {ms : Nat}

/-! ## The findings of a close -/

/-- R60: the weight of ramp `k`'s top plan. -/
def State.closeWeight (s : State) (k : Fin 4) : Option Nat := (s.topPlan k).map (fun p => p.weight)

theorem Detector.close_short (w : Option Nat) (ms : Nat) (d : Detector) :
    (d.close w).short ms = (decide (2 * d.span < ms) || decide (d.span = 0)) := by
  rw [Closing.short, Detector.close, Nat.mul_comm, Bool.or_comm]

/-- R25: the smoothed flows of the serving, covered peers of entry `i`. -/
theorem State.peerFlows_eq (s : State) (k : Fin 4) (ms i : Nat) (role : Role) :
    peerFlows ms (s.closeStep1 k) i role =
      (s.detectors.rows.filter (fun p => decide (p.1 ≠ i ∧ p.2.config.ramp = k ∧ p.2.config.role = role ∧
        (p.2.health = .good ∨ p.2.health = .suspect)) && !(decide (2 * p.2.span < ms) || decide (p.2.span = 0)))).filterMap
          (fun p => (smoothMeasure (s.closeWeight k) p.2.smoothed (rawMeasure p.2.arrivals p.2.onTime p.2.span)).map
            (fun m => m.flow)) := by
  simp only [peerFlows, State.closeStep1, List.filter_map, List.filterMap_map, List.filterMap_filter]
  congr 1
  funext p
  simp only [Function.comp_apply, Closing.peerFlow, Detector.close_short, ← ite_and]
  refine if_congr ?_ rfl rfl
  simp only [Detector.close, Health.serves_iff, decide_eq_true_eq, bne_iff_ne, Bool.and_eq_true, Bool.not_eq_true']
  tauto

theorem Role.silenceChecked_eq (r : Role) :
    r.silenceChecked = decide (r = .mainUp ∨ r = .mainDown ∨ r = .rampIn) := by
  cases r <;> rfl

/-- R25: an entry is found silent against the mean of its peers. -/
theorem foundSilent_eq (floor ms : Nat) (all : List (Nat × Closing)) (i : Nat) (c : Closing) {flows : List Nat}
    (h : peerFlows ms all i c.entry.config.role = flows) : foundSilent floor ms all i c =
      (decide (c.entry.config.role = .mainUp ∨ c.entry.config.role = .mainDown ∨ c.entry.config.role = .rampIn) &&
        decide (c.arrivals = 0) && decide (flows ≠ []) &&
        decide (floor ≤ (2 * flows.sum + flows.length) / (2 * flows.length))) := by
  simp only [foundSilent, Role.silenceChecked_eq, h]
  cases flows with
  | nil => simp
  | cons x rest =>
    rw [decide_eq_true (List.cons_ne_nil x rest), Bool.and_true]
    rfl

theorem State.silentMark_eq (s : State) (k : Fin 4) (a : Nat) :
    s.silentMark k a = ((s.stations.get a).map (fun st => st.marks.get k)).getD false := by
  simp only [State.silentMark]
  cases s.stations.get a <;> rfl

/-- R24, R25, R9: the symptoms that a close finds at entry `i`. -/
def State.foundAt (s : State) (k : Fin 4) (ms i : Nat) (d : Detector) : Symptoms :=
  (closeSymptoms s k ms (s.closeStep1 k) i (d.close (s.closeWeight k))).entry.symptoms

/-! ## The health update -/

/-- R27 to R29: the judgement reads and writes the health and the two counts alone. -/
theorem Detector.judge_fields (lim : Limits) (b : Bool) {d e : Detector} (hh : e.health = d.health)
    (hs : e.symptomatic = d.symptomatic) (hc : e.clean = d.clean) :
    e.judge lim b = { e with
      health := (d.judge lim b).health, symptomatic := (d.judge lim b).symptomatic, clean := (d.judge lim b).clean } := by
  cases e
  dsimp only at hh hs hc
  subst hh hs hc
  simp only [Detector.judge]
  cases d.health with
  | good => cases b <;> rfl
  | suspect =>
    cases b
    · rfl
    · simp only [if_true]
      split <;> rfl
  | failed =>
    cases b
    · simp only [Bool.false_eq_true, if_false]
      split <;> rfl
    · rfl
  | forcedOut => rfl

/-- R26: entry `i` after the health update of a close. -/
def State.closingAt (s : State) (k : Fin 4) (ms i : Nat) (d : Detector) : Closing :=
  closeHealth s.limits (closeSymptoms s k ms (s.closeStep1 k) i (d.close (s.closeWeight k)))

theorem State.closingAt_eq (s : State) (k : Fin 4) (ms i : Nat) (d : Detector) : s.closingAt k ms i d =
      let judged := d.judge s.limits (s.foundAt k ms i d).any
      let raw := rawMeasure d.arrivals d.onTime d.span
      { entry := { d with
          arrivals := 0, onTime := 0, span := 0, raw := raw
          smoothed := smoothMeasure (s.closeWeight k) d.smoothed raw
          symptoms := .none, health := judged.health, symptomatic := judged.symptomatic, clean := judged.clean }
        arrivals := d.arrivals, span := d.span } := by
  have h := Detector.judge_fields s.limits (s.foundAt k ms i d).any (d := d)
    (e := (closeSymptoms s k ms (s.closeStep1 k) i (d.close (s.closeWeight k))).entry) rfl rfl rfl
  simp only [State.closingAt, closeHealth]
  rw [State.foundAt] at h
  rw [h]
  rfl

/-! ## The entries of the ramp -/

/-- The rows of ramp `k`'s entries. -/
def State.rampRows (s : State) (k : Fin 4) : List (Nat × Detector) :=
  s.detectors.rows.filter (fun p => decide (p.2.config.ramp = k))

/-- R26 step 2, entry by entry. -/
theorem State.closeStep2_eq (s : State) (k : Fin 4) (ms : Nat) : s.closeStep2 k ms = (s.rampRows k).map (fun p =>
    (p.1, closeSymptoms s k ms (s.closeStep1 k) p.1 (p.2.close (s.closeWeight k)))) := by
  rw [State.closeStep2, State.closeStep1, List.map_map]
  rfl

/-- R26 step 3, entry by entry. -/
theorem State.closeStep3_eq (s : State) (k : Fin 4) (ms : Nat) : s.closeStep3 k ms =
    (s.rampRows k).map (fun p => (p.1, s.closingAt k ms p.1 p.2)) := by
  rw [State.closeStep3, State.closeStep2_eq, List.map_map]
  rfl

theorem State.rowsGet_rampRows (hw : rowsRising s.detectors.rows = true) (i : Nat) :
    rowsGet (s.rampRows k) i = (s.detector i).bind (fun d => if d.config.ramp = k then some d else none) := by
  cases hd : s.detector i with
  | none =>
    cases hr : rowsGet (s.rampRows k) i with
    | none => rfl
    | some d =>
      have h : s.detector i = some d := rowsGet_filter hw hr
      rw [hd] at h
      cases h
  | some d =>
    rw [Option.bind_some]
    have hmem : (i, d) ∈ s.detectors.rows := (Table.mem_rows_iff hw).mpr hd
    by_cases hk : d.config.ramp = k
    · rw [if_pos hk]
      exact rowsGet_of_mem (rowsRising_filter _ hw) (List.mem_filter.mpr ⟨hmem, decide_eq_true hk⟩)
    · rw [if_neg hk]
      cases hr : rowsGet (s.rampRows k) i with
      | none => rfl
      | some e =>
        have h : s.detector i = some e := rowsGet_filter hw hr
        rw [hd] at h
        cases h
        exact absurd (of_decide_eq_true (List.mem_filter.mp (rowsGet_mem hr)).2) hk

/-- R26 step 4, entry by entry. -/
theorem State.rowsGet_closeStep4 (hw : rowsRising s.detectors.rows = true) (i : Nat) :
    rowsGet (s.closeStep4 k ms) i = (s.detector i).bind (fun d => if d.config.ramp = k then
      some (closeUsability s.limits.hold ms (s.closeStep3 k ms) (s.closingAt k ms i d)) else none) := by
  have h3 : rowsGet (s.closeStep3 k ms) i = (rowsGet (s.rampRows k) i).map (s.closingAt k ms i) := by
    rw [State.closeStep3_eq, rowsGet_map (s.closingAt k ms)]
  rw [State.closeStep4, rowsGet_map (fun _ c => closeUsability s.limits.hold ms (s.closeStep3 k ms) c), h3,
    State.rowsGet_rampRows hw]
  cases s.detector i with
  | none => rfl
  | some d =>
    simp only [Option.bind_some]
    by_cases hk : d.config.ramp = k
    · rw [if_pos hk, if_pos hk]
      rfl
    · rw [if_neg hk, if_neg hk]
      rfl

/-- R26: what a close makes of each entry of the table. -/
theorem State.detector_storeClosed (hw : rowsRising s.detectors.rows = true) (i : Nat) :
    (s.storeClosed (s.closeStep4 k ms)).detector i = (s.detector i).map (fun d => if d.config.ramp = k then
      (closeUsability s.limits.hold ms (s.closeStep3 k ms) (s.closingAt k ms i d)).1 else d) := by
  rw [State.detector, State.storeClosed]
  simp only [Table.get_map]
  change (s.detector i).map _ = _
  rw [State.rowsGet_closeStep4 hw]
  cases s.detector i with
  | none => rfl
  | some d =>
    simp only [Option.map_some, Option.bind_some]
    by_cases hk : d.config.ramp = k
    · simp only [if_pos hk]
    · simp only [if_neg hk]

/-! ## The notices -/

/-- R32: the notice of one entry at a close. -/
def State.closingNotice (s : State) (k : Fin 4) (ms : Nat) (p : Nat × Detector) : List (Nat × List Byte) :=
  let judged := p.2.judge s.limits (s.foundAt k ms p.1 p.2).any
  if judged.health ≠ p.2.health then
    [healthNotice p.1 k p.2.health judged.health .close (s.foundAt k ms p.1 p.2)] else []

theorem State.closeNotice_spec (s w : State) (k : Fin 4) (ms : Nat) {p : Nat × Detector} (hk : p.2.config.ramp = k) :
    let c := closeSymptoms s k ms (s.closeStep1 k) p.1 (p.2.close (s.closeWeight k))
    let t := w.closeNotice (p.1, c) (p.1, s.closingAt k ms p.1 p.2)
    w.tells t (s.closingNotice k ms p) [] ∧
    t = { w with normal := t.normal, normalDropped := t.normalDropped, sequence := t.sequence } := by
  intro c t
  have hh : (s.closingAt k ms p.1 p.2).entry.health = (p.2.judge s.limits (s.foundAt k ms p.1 p.2).any).health := by
    rw [State.closingAt_eq]
  have ht : t = if p.2.health = (s.closingAt k ms p.1 p.2).entry.health then w
      else w.offerHealth p.1 p.2.config.ramp p.2.health (s.closingAt k ms p.1 p.2).entry.health .close
        (s.foundAt k ms p.1 p.2) := rfl
  rw [hh, hk] at ht
  simp only [State.closingNotice]
  clear_value t
  subst ht
  by_cases h : p.2.health = (p.2.judge s.limits (s.foundAt k ms p.1 p.2).any).health
  · rw [if_pos h, if_neg (not_not.mpr h.symm)]
    exact ⟨w.tells_nil, rfl⟩
  · rw [if_neg h, if_pos fun hn => h hn.symm]
    exact ⟨w.offerHealth_tells _ _ _ _ _ _, w.offerSequenced_eq _ _⟩

/-- R32: the notices of a close, in ascending index; nothing else changes. -/
theorem State.closeNotices_spec (s w : State) (k : Fin 4) (ms : Nat) (rows : List (Nat × Detector))
    (hk : ∀ p ∈ rows, p.2.config.ramp = k) :
    let c (p : Nat × Detector) := closeSymptoms s k ms (s.closeStep1 k) p.1 (p.2.close (s.closeWeight k))
    let t := rows.foldl (fun w p => w.closeNotice (p.1, c p) (p.1, s.closingAt k ms p.1 p.2)) w
    w.tells t (rows.flatMap (s.closingNotice k ms)) [] ∧
    t = { w with normal := t.normal, normalDropped := t.normalDropped, sequence := t.sequence } := by
  induction rows generalizing w with
  | nil => exact ⟨w.tells_nil, rfl⟩
  | cons p rest ih =>
    obtain ⟨h1, h2⟩ := s.closeNotice_spec w k ms (hk p List.mem_cons_self)
    dsimp only at h1 h2 ih ⊢
    rw [List.foldl_cons, List.flatMap_cons]
    generalize w.closeNotice _ _ = x at h1 h2 ⊢
    obtain ⟨ih1, ih2⟩ := ih x fun q hq => hk q (List.mem_cons_of_mem p hq)
    refine ⟨State.tells_trans h1 ih1 (by rw [h2]) (by rw [h2]), ?_⟩
    generalize rest.foldl _ x = y at ih2 ⊢
    rw [ih2, h2]

/-! ## The event -/

/-- R26, R55, R64 to R66, R70: the interval close of ramp `k`, part by part. -/
theorem State.intervalClosed_spec (s : State) (k : Fin 4) (seconds : Nat) :
    let ms := seconds * 1000
    let t := s.intervalClosed k seconds
    t.detectors = (s.storeClosed (s.closeStep4 k ms)).detectors ∧ t.stations = (s.resetMarks k).stations ∧
    t.jobs = (if s.jobs.any (fun j => j.ramp == k) then s.jobs
      else s.jobs ++ [⟨k, .interval (closeRecord ((s.closeStep4 k ms).map (fun p => p.2)) (s.ramp k).spill)⟩]) ∧
    s.tells t ((s.rampRows k).flatMap (s.closingNotice k ms)) [] ∧
    t = { s with
      detectors := t.detectors, stations := t.stations, jobs := t.jobs
      normal := t.normal, normalDropped := t.normalDropped, sequence := t.sequence
      ramps := s.ramps.set k { s.ramp k with
        intervalTimer := some seconds
        overrun := (s.ramp k).overrun || s.jobs.any (fun j => j.ramp == k) } } := by
  intro ms t
  obtain ⟨h1, h2⟩ := s.closeNotices_spec ((s.storeClosed (s.closeStep4 k ms)).resetMarks k) k ms (s.rampRows k)
    (fun p hp => of_decide_eq_true (List.mem_filter.mp hp).2)
  dsimp only at h1 h2
  have ht : t = (((s.rampRows k).foldl (fun w p => w.closeNotice
      (p.1, closeSymptoms s k ms (s.closeStep1 k) p.1 (p.2.close (s.closeWeight k))) (p.1, s.closingAt k ms p.1 p.2))
        ((s.storeClosed (s.closeStep4 k ms)).resetMarks k)).offerIntervalJob k
      (closeRecord ((s.closeStep4 k ms).map (fun p => p.2)) (s.ramp k).spill)).updRamp k
        (fun r => { r with intervalTimer := some seconds }) := by
    simp only [t, State.intervalClosed]
    rw [State.closeStep2_eq, State.closeStep3_eq, List.zip_map', List.foldl_map]
  clear_value t
  generalize (s.rampRows k).foldl _ _ = w at h1 h2 ht
  obtain ⟨n, d, q, rfl⟩ : ∃ n d q, w = { (s.storeClosed (s.closeStep4 k ms)).resetMarks k with
      normal := n, normalDropped := d, sequence := q } := ⟨_, _, _, h2⟩
  have htells := State.tells_base (s' := s) h1 rfl rfl rfl rfl rfl
  have hramps : ∀ r, (s.ramps.set k r).set k { (s.ramps.set k r).get k with intervalTimer := some seconds } =
      s.ramps.set k { r with intervalTimer := some seconds } := fun r => by
    rw [Four.get_set, if_pos rfl, Four.set_set]
  have hjob : ({ (s.storeClosed (s.closeStep4 k ms)).resetMarks k with
      normal := n, normalDropped := d, sequence := q } : State).hasJob k = s.jobs.any (fun j => j.ramp == k) := rfl
  simp only [State.offerIntervalJob, hjob] at ht
  cases hj : s.jobs.any (fun j => j.ramp == k) with
  | true =>
    rw [hj, if_pos rfl] at ht
    subst ht
    refine ⟨rfl, rfl, rfl, htells, ?_⟩
    rw [Bool.or_true, ← hramps { s.ramp k with overrun := true }]
    rfl
  | false =>
    rw [hj, if_neg Bool.false_ne_true] at ht
    subst ht
    refine ⟨rfl, rfl, rfl, htells, ?_⟩
    rw [Bool.or_false]
    rfl

/-- A list's parts by a test, each with what it gives. -/
theorem flatMap_filter {α β : Type} (l : List α) (f : α → Bool) (g : α → List β) :
    (l.filter f).flatMap g = l.flatMap (fun x => if f x then g x else []) := by
  induction l with
  | nil => rfl
  | cons x rest ih =>
    rw [List.filter_cons, List.flatMap_cons]
    cases f x with
    | true =>
      rw [if_pos rfl, if_pos rfl, List.flatMap_cons, ih]
    | false =>
      rw [if_neg Bool.false_ne_true, if_neg Bool.false_ne_true, ih]
      rfl

/-- Settles O26. -/
theorem intervalCloseJudgesTheEntries : Obligations.IntervalCloseJudgesTheEntries := by
  intro k s held c hw hheld hc
  have hrise := ((Table.wf_iff _ _).mp hw).1
  refine ⟨s.intervalClosed k c.interval, ?_, ?_⟩
  · simp only [exec, execIntervalClose, hheld, Ramp.intervalLength, hc]
    rfl
  intro ms raw smoothed short peers silent mark found judged closing all supplied
  have hfound : ∀ i d, s.foundAt k ms i d = found i d := fun i d => by
    have hsilent : foundSilent s.limits.floor ms (s.closeStep1 k) i (d.close (s.closeWeight k)) = silent i d :=
      foundSilent_eq _ _ _ _ _ (s.peerFlows_eq k ms i d.config.role)
    have hmark : s.silentMark k (d.close (s.closeWeight k)).entry.config.station = mark d := s.silentMark_eq _ _
    simp only [State.foundAt, closeSymptoms, hsilent, hmark, Detector.close_short]
    rfl
  have hclosing : ∀ i d, s.closingAt k ms i d = closing i d := fun i d => by
    rw [State.closingAt_eq, hfound]
    rfl
  have hall : s.closeStep3 k ms = all := by
    rw [State.closeStep3_eq]
    simp only [hclosing]
    rfl
  have hsupplied : s.closeStep4 k ms = supplied := by
    rw [State.closeStep4]
    simp only [hall]
    rfl
  have hnotices : (s.rampRows k).flatMap (s.closingNotice k ms) = s.detectors.rows.flatMap (fun p =>
      if p.2.config.ramp = k ∧ (judged p.1 p.2).health ≠ p.2.health then
        [healthNotice p.1 k p.2.health (judged p.1 p.2).health .close (found p.1 p.2)] else []) := by
    rw [State.rampRows, flatMap_filter]
    simp only [State.closingNotice, hfound, decide_eq_true_eq, ← ite_and]
    rfl
  obtain ⟨h1, h2, h3, h4, h5⟩ := s.intervalClosed_spec k c.interval
  have hdet : ∀ i, (s.intervalClosed k c.interval).detector i = (s.detector i).map (fun d =>
      if d.config.ramp = k then (closeUsability s.limits.hold ms all (closing i d)).1 else d) := fun i => by
    have h := s.detector_storeClosed (k := k) (ms := ms) hrise i
    rw [hall] at h
    simp only [hclosing] at h
    rw [← h, State.detector, h1]
    rfl
  refine ⟨fun i d hd hk => ?_, fun i d hd hk => ?_, fun i hd => ?_, fun a => ?_, hsupplied ▸ h3, hnotices ▸ h4, h5⟩
  · rw [hdet, hd, Option.map_some, if_neg hk]
  · rw [hdet, hd, Option.map_some, if_pos hk]
  · rw [hdet, hd, Option.map_none]
  · rw [h2]
    exact Table.get_map _ _ _

end Sys2Proof.Machine
end

section
/-! The line, the transmitter and the taking of RING RESET: O6, O7, O9 (R147, R149, R158, R162, R163, R166, R175). -/

namespace Sys2Proof.Machine

variable {s t u : State} {k : Fin 4}

/-! ## Heads whose records are not valid -/

/-- R147, R149: with every head's record not valid, every used head is offered its target. -/
theorem State.headsDue_invalid (s0 s : State) (h : ∀ k l, ∀ x ∈ (s.ramp k).head l, x.sent = none) :
    s0.headsDue s allHeads = s.usedHeads allRamps := by
  refine List.filter_congr fun x _ => ?_
  have hfresh : allHeads.contains x = true := List.contains_iff_mem.mpr (mem_allHeads x)
  have hramp : allRamps.contains x.1 = true := List.contains_iff_mem.mpr (mem_allRamps x.1)
  rw [hfresh, hramp]
  cases hx : (s.ramp x.1).head x.2 with
  | none => simp
  | some y => simp [h x.1 x.2 y (by rw [hx]; rfl)]

theorem State.headCommand_congr {x : Fin 4 × Fin 3} (hc : (t.ramp x.1).laneConfig x.2 = (s.ramp x.1).laneConfig x.2)
    (ht : (t.ramp x.1).target x.2 = (s.ramp x.1).target x.2) (ho : t.ownAddress = s.ownAddress) (hs : t.site = s.site) :
    t.headCommand x = s.headCommand x := by
  simp only [State.headCommand, hc, ht, ho, hs]

/-! ## The link -/

/-- The state with every used head's record not valid. -/
def State.headsInvalid (s : State) : State := { s with ramps := s.ramps.map Ramp.invalidateHeads }

theorem State.head_headsInvalid (s : State) (k : Fin 4) (l : Fin 3) :
    (s.headsInvalid.ramp k).head l = ((s.ramp k).head l).map Head.invalid := by
  simp [State.headsInvalid, State.ramp, Ramp.invalidateHeads, Ramp.head]

theorem State.ramp_headsInvalid (s : State) (k : Fin 4) : s.headsInvalid.ramp k = (s.ramp k).invalidateHeads := by
  simp [State.headsInvalid, State.ramp]

theorem State.laneConfig_headsInvalid (s : State) (k : Fin 4) (l : Fin 3) :
    (s.headsInvalid.ramp k).laneConfig l = (s.ramp k).laneConfig l := by
  rw [State.ramp_headsInvalid]
  rfl

theorem State.target_headsInvalid (s : State) (k : Fin 4) (l : Fin 3) :
    (s.headsInvalid.ramp k).target l = (s.ramp k).target l := by
  refine Ramp.target_congr (by rw [State.ramp_headsInvalid]; rfl) (by rw [State.ramp_headsInvalid]; rfl)
    (by rw [State.ramp_headsInvalid]; rfl) ?_
  rw [Ramp.disabled_eq, Ramp.disabled_eq, State.head_headsInvalid, Option.map_map]
  rfl

theorem State.usedHeads_congr {ramps : List (Fin 4)} (hh : ∀ k l, ((t.ramp k).head l).isSome = ((s.ramp k).head l).isSome)
    (hc : ∀ k l, (t.ramp k).laneConfig l = (s.ramp k).laneConfig l) : t.usedHeads ramps = s.usedHeads ramps := by
  simp only [State.usedHeads, hh, hc]

/-- R149, R147: a link-up renews every used head. -/
theorem State.linkUpDelivered_spec (s : State) :
    s.headsRenewed s.linkUpDelivered allRamps ∧
    (∀ k, s.linkUpDelivered.ramp k = { s.ramp k with heads := (s.linkUpDelivered.ramp k).heads }) ∧
    s.linkUpDelivered = { s with
      urgent := s.linkUpDelivered.urgent, urgentDropped := s.linkUpDelivered.urgentDropped
      ramps := s.linkUpDelivered.ramps } := by
  have hused : s.headsInvalid.usedHeads allRamps = s.usedHeads allRamps :=
    State.usedHeads_congr (fun k l => by rw [State.head_headsInvalid, Option.isSome_map]) s.laneConfig_headsInvalid
  have hcommand : s.headsInvalid.headCommand = s.headCommand := funext fun x =>
    State.headCommand_congr (s.laneConfig_headsInvalid _ _) (s.target_headsInvalid _ _) rfl rfl
  have ht : s.linkUpDelivered = s.headsInvalid.toldHeads (s.usedHeads allRamps) := by
    rw [← hused, ← State.headsDue_invalid s s.headsInvalid (fun k l x hx => ?_), ← State.told_eq_toldHeads,
      ← State.settleHeads_eq_told]
    · rfl
    · rw [State.head_headsInvalid] at hx
      obtain ⟨y, -, rfl⟩ := Option.mem_map.mp hx
      rfl
  rw [ht]
  refine ⟨⟨?_, rfl, fun k _ l => ?_⟩, fun k => ?_, rfl⟩
  · rw [← hcommand]
    rfl
  · rw [State.head_toldHeads, State.head_headsInvalid, Option.map_map]
    refine Option.map_congr fun h _ => ?_
    simp only [Function.comp_apply, State.target_headsInvalid]
    split <;> rename_i hin
    · exact (if_pos hin).symm
    · exact (if_neg hin).symm
  · rw [State.ramp_toldHeads, State.ramp_headsInvalid]
    rfl

/-- Settles O6. -/
theorem linkFollowsTheLine : Obligations.LinkFollowsTheLine := by
  refine fun s => ⟨⟨_, rfl, rfl⟩, ⟨_, rfl, ?_⟩, ⟨_, rfl, fun hup => if_pos hup, fun hdown => ?_⟩⟩
  · by_cases hup : s.linkUp = true
    · have hgap : (s.awaitingGap && !s.linkUp) = false := by rw [hup, Bool.not_true, Bool.and_false]
      rw [if_pos hup, hgap]
    · have hgap : (s.awaitingGap && !s.linkUp) = s.awaitingGap := by
        rw [Bool.eq_false_iff.mpr hup, Bool.not_false, Bool.and_true]
      rw [if_neg hup, hgap]
  · obtain ⟨h1, h2, h3⟩ := State.linkUpDelivered_spec { s with linkUp := true, awaitingGap := true }
    rw [if_neg (by rw [hdown]; exact Bool.false_ne_true)]
    exact ⟨h1, h2, h3⟩

/-! ## The transmit arbiter -/

theorem State.mayStart_iff (s : State) : s.mayStart = true ↔
    s.line = none ∧ s.txHold = false ∧ ¬(s.forward = [] ∧ s.urgent = [] ∧ s.normal = []) := by
  simp only [State.mayStart, State.queued, Bool.and_eq_true, Bool.or_eq_true, Bool.not_eq_true', Option.isNone_iff_eq_none,
    ← Bool.not_eq_true, List.isEmpty_iff]
  tauto

theorem State.startFrame_idle (h : s.line ≠ none ∨ s.txHold = true ∨ (s.forward = [] ∧ s.urgent = [] ∧ s.normal = [])) :
    s.startFrame = s := by
  refine if_neg fun hm => ?_
  obtain ⟨h1, h2, h3⟩ := s.mayStart_iff.mp hm
  rcases h with h | h | h
  · exact h h1
  · rw [h2] at h
    cases h
  · exact h3 h

/-- R162: with the three conditions met the arbiter's choice is started. -/
theorem State.startFrame_chosen (hl : s.line = none) (hx : s.txHold = false)
    (hq : ¬(s.forward = [] ∧ s.urgent = [] ∧ s.normal = [])) : s.startFrame = s.startChosen :=
  if_pos (s.mayStart_iff.mpr ⟨hl, hx, hq⟩)

theorem State.startNormal_cons {o : Outgoing} {rest : List Outgoing} (h : s.normal = o :: rest) :
    s.startNormal = { s with line := some o, normal := rest, waitCount := 0 } := by
  simp only [State.startNormal, h]

theorem State.startUrgent_cons {f : Frame} {rest : List Frame} (h : s.urgent = f :: rest) :
    s.startUrgent = { s with line := some ⟨f, false⟩, urgent := rest } := by
  simp only [State.startUrgent, h]

theorem State.startUrgent_nil (h : s.urgent = []) : s.startUrgent = s.startForward := by
  simp only [State.startUrgent, h]

theorem State.startForward_cons {f : Frame} {rest : List Frame} (h : s.forward = f :: rest) :
    s.startForward = { s with
      line := some ⟨f, false⟩, forward := rest
      waitCount := if s.normal = [] then s.waitCount else s.waitCount + 1 } := by
  simp only [State.startForward, h, List.isEmpty_iff]

theorem State.startForward_nil (h : s.forward = []) : s.startForward = s.startNormal := by
  simp only [State.startForward, h]

/-- R162: the head of the normal insert queue goes first after four frames in its place. -/
theorem State.startChosen_waited (hw : s.waitCount = 4) (hn : s.normal ≠ []) : s.startChosen = s.startNormal :=
  if_pos ⟨hw, by cases h : s.normal with | nil => exact absurd h hn | cons => rfl⟩

theorem State.startChosen_urgent (h : s.waitCount ≠ 4 ∨ s.normal = []) : s.startChosen = s.startUrgent := by
  refine if_neg fun hc => ?_
  rcases h with h | h
  · exact h hc.1
  · rw [h] at hc
    cases hc.2

/-- R162: which frame the arbiter starts. -/
theorem State.startFrame_spec (hl : s.line = none) (hx : s.txHold = false) :
    (∀ o rest, s.normal = o :: rest → (s.waitCount = 4 ∨ (s.urgent = [] ∧ s.forward = [])) →
      s.startFrame = { s with line := some o, normal := rest, waitCount := 0 }) ∧
    (∀ f rest, s.urgent = f :: rest → (s.waitCount ≠ 4 ∨ s.normal = []) →
      s.startFrame = { s with line := some ⟨f, false⟩, urgent := rest }) ∧
    (∀ f rest, s.urgent = [] → s.forward = f :: rest → (s.waitCount ≠ 4 ∨ s.normal = []) →
      s.startFrame = { s with
        line := some ⟨f, false⟩, forward := rest
        waitCount := if s.normal = [] then s.waitCount else s.waitCount + 1 }) := by
  refine ⟨fun o rest hn h => ?_, fun f rest hu h => ?_, fun f rest hu hf h => ?_⟩
  · have hne : s.normal ≠ [] := by rw [hn]; exact List.cons_ne_nil o rest
    rw [State.startFrame_chosen hl hx fun he => hne he.2.2]
    by_cases hw : s.waitCount = 4
    · rw [State.startChosen_waited hw hne, State.startNormal_cons hn]
    · obtain ⟨hu, hf⟩ := h.resolve_left hw
      rw [State.startChosen_urgent (.inl hw), State.startUrgent_nil hu, State.startForward_nil hf,
        State.startNormal_cons hn]
  · have hne : s.urgent ≠ [] := by rw [hu]; exact List.cons_ne_nil f rest
    rw [State.startFrame_chosen hl hx fun he => hne he.2.1, State.startChosen_urgent h, State.startUrgent_cons hu]
  · have hne : s.forward ≠ [] := by rw [hf]; exact List.cons_ne_nil f rest
    rw [State.startFrame_chosen hl hx fun he => hne he.1, State.startChosen_urgent h, State.startUrgent_nil hu,
      State.startForward_cons hf]

/-! ## The ring reset in closed form -/

/-- R18: what ramp `k` becomes when the demand of all its lanes is derived depends on its record and the tables alone. -/
theorem State.foldl_deriveAllDemands (order : List (Fin 4)) (hn : order.Nodup) (R : Four Ramp)
    (hR : ∀ k ∈ order, R.get k = s.ramp k) :
    order.foldl (fun s k => s.deriveAllDemands k) { s with ramps := R } =
      { s with ramps := order.foldl (fun R k => R.set k ((s.ramp k).demanding (s.demandsNow k))) R } := by
  induction order generalizing R with
  | nil => rfl
  | cons k rest ih =>
    obtain ⟨hk, hn⟩ := List.nodup_cons.mp hn
    have hramp : ({ s with ramps := R } : State).ramp k = s.ramp k := hR k List.mem_cons_self
    have hd : ({ s with ramps := R } : State).demandsNow k = s.demandsNow k := by
      funext l
      simp only [State.demandsNow, hramp]
      rfl
    rw [List.foldl_cons, List.foldl_cons, State.deriveAllDemands_eq, hramp, hd]
    refine ih hn _ fun j hj => ?_
    have hjk : j ≠ k := fun h => hk (h ▸ hj)
    rw [Four.get_set, if_neg hjk]
    exact hR j (List.mem_cons_of_mem k hj)

/-- R166, R18: every block reset, the demand of every lane derived and every SPILL entry's source resolved. -/
def State.ringDerived (s : State) : State :=
  { s.ringCleared with
    lastSources := s.ringCleared.detectors.collect (s.ringCleared.lastSource (fun _ _ => true))
    ramps := Four.tabulate (fun k => (s.ringCleared.ramp k).demanding (s.ringCleared.demandsNow k)) }

theorem State.ringReset_eq (s : State) : s.ringReset = s.ringDerived.told s.ringDerived allHeads := by
  have h := State.foldl_deriveAllDemands (s := s.ringCleared) allRamps (by decide) s.ringCleared.ramps (fun _ _ => rfl)
  have hd : (allRamps.foldl (fun s k => s.deriveAllDemands k) s.ringCleared).resolveSources (fun _ _ => true) =
      s.ringDerived := by
    rw [show s.ringCleared = { s.ringCleared with ramps := s.ringCleared.ramps } from rfl, h]
    rfl
  rw [State.ringReset, hd, State.settleHeads_eq_told]

theorem State.ringReset_line (s : State) : s.ringReset.line = s.line := by
  rw [State.ringReset_eq]
  rfl

/-- The ring reset does not read the line. -/
theorem State.ringReset_withLine (s : State) (x : Option Outgoing) :
    ({ s with line := x } : State).ringReset = { s.ringReset with line := x } := by
  rw [State.ringReset_eq, State.ringReset_eq]
  rfl

theorem State.sendingReset_eq (s : State) : s.sendingReset = (s.line.map (fun o => o.resetReply)).getD false := by
  simp only [State.sendingReset]
  cases s.line <;> rfl

/-- Settles O7. -/
theorem transmitterFollowsItsRules : Obligations.TransmitterFollowsItsRules := by
  refine ⟨fun s => ⟨rfl, rfl, State.startFrame_idle (.inr (.inl rfl)), rfl, rfl⟩,
    fun s => ⟨State.startFrame_idle, State.startFrame_spec⟩, fun s => ⟨_, rfl, ?_, fun h => ?_⟩⟩
  · simp only [State.lineEnds]
    split
    · rw [State.ringReset_line]
    · rfl
  · have hno : ¬s.sendingReset = true := by
      rw [State.sendingReset_eq]
      cases ho : s.line with
      | none => exact Bool.false_ne_true
      | some o =>
        rw [Option.map_some, Option.getD_some, h o ho]
        exact Bool.false_ne_true
    refine ⟨if_neg hno, ?_⟩
    change State.ends (if s.sendingReset = true then _ else s) = _
    rw [if_neg hno]
    rfl

/-! ## RING RESET -/

/-- Settles O9. -/
theorem ringResetIsTaken : Obligations.RingResetIsTaken := by
  refine fun q s => ⟨_, rfl, ?_⟩
  dsimp only
  generalize s.took _ = u
  have hawaited : u.resetAwaited = true ↔
      u.normal.any (fun o => o.resetReply) = true ∨ (u.line.map (fun o => o.resetReply)) = some true := by
    rw [State.resetAwaited, Bool.or_eq_true]
    cases u.line <;> simp
  simp only [State.ringResetTaken]
  by_cases ha : u.resetAwaited = true
  · rw [if_pos ha, if_pos (hawaited.mp ha)]
    exact u.reply_repliesOnly _ _ _ _
  rw [if_neg ha, if_neg fun h => ha (hawaited.mpr h)]
  by_cases hroom : u.normal.length < 16
  · have hr : u.normalRoom = true := decide_eq_true hroom
    rw [if_pos hr, if_pos hroom, State.offerNormal, if_pos hr]
    rfl
  · have hr : ¬u.normalRoom = true := fun h => hroom (of_decide_eq_true h)
    rw [if_neg hr, if_neg hroom]
    refine ⟨u.ringReset_line, ?_⟩
    rw [← State.ringReset_withLine]
    rfl

end Sys2Proof.Machine
end

section
/-! What the ring reset leaves: O8 (R166, R167). -/

namespace Sys2Proof.Machine

variable {s t u : State} {k : Fin 4} {r : Ramp} {d : Fin 3 → Option Bool}

/-! ## Demand derived on a ramp whose lanes are OFF -/

theorem Ramp.lane_demanding (r : Ramp) (d : Fin 3 → Option Bool) (l : Fin 3) :
    (r.demanding d).lane l = { r.lane l with demand := (d l).getD (r.lane l).demand } := by
  simp [Ramp.demanding, Ramp.lane]

/-- R135: no lane joins the wait order but a READY one. -/
theorem Ramp.waitOrder_demanding_off (hw : r.waitOrder = []) (hoff : ∀ l, (r.lane l).cycle = .off) :
    (r.demanding d).waitOrder = [] := by
  have hready : ∀ l, decide ((r.lane l).cycle = .ready) = false := fun l => by rw [hoff]; rfl
  simp only [Ramp.demanding, hw, hready, Bool.and_false, Bool.false_and, List.filter_nil, List.nil_append,
    List.filter_false]

/-- R145: the head records of a ramp whose heads are set up afresh. -/
theorem Ramp.head_freshHeads (r : Ramp) (site : Site) (l : Fin 3) :
    (r.freshHeads site).head l = (r.laneConfig l).map (fun _ => Head.fresh site) := by
  simp only [Ramp.freshHeads, Ramp.head, Three.get_tabulate]
  cases hc : r.laneConfig l with
  | none => exact if_neg (by rw [Ramp.used, hc]; exact Bool.false_ne_true)
  | some c => exact if_pos (by rw [Ramp.used, hc]; rfl)

/-! ## The ramps and the heads after the ring reset -/

theorem State.ramp_ringDerived (s : State) (k : Fin 4) : s.ringDerived.ramp k =
    ((s.ramp k).ringReset s.site).demanding (s.ringCleared.demandsNow k) := by
  rw [State.ringDerived, State.ramp]
  simp only [Four.get_tabulate, State.ramp_ringCleared]

/-- R121, R51, R68, R73, R104, R144: a ramp after the ring reset but for its lanes and its heads. -/
theorem State.ramp_ringDerived_fields (s : State) (k : Fin 4) :
    { s.ringDerived.ramp k with lanes := .all .reset, heads := .all none } =
      { Ramp.reset (s.ramp k).holdInput with config := (s.ramp k).config, stack := [(s.ramp k).stack.headD 0] } := by
  have hwait : (((s.ramp k).ringReset s.site).demanding (s.ringCleared.demandsNow k)).waitOrder = [] :=
    Ramp.waitOrder_demanding_off rfl fun l => by rw [Ramp.lane_ringReset]; rfl
  rw [State.ramp_ringDerived]
  exact congrArg (fun w => { Ramp.reset (s.ramp k).holdInput with
    config := (s.ramp k).config, stack := [(s.ramp k).stack.headD 0], waitOrder := w }) hwait

theorem State.laneConfig_ringDerived (s : State) (k : Fin 4) (l : Fin 3) :
    (s.ringDerived.ramp k).laneConfig l = (s.ramp k).laneConfig l := by
  rw [State.ramp_ringDerived]
  rfl

theorem State.head_ringDerived (s : State) (k : Fin 4) (l : Fin 3) :
    (s.ringDerived.ramp k).head l = ((s.ramp k).laneConfig l).map (fun _ => Head.fresh s.site) := by
  rw [State.ramp_ringDerived]
  exact Ramp.head_freshHeads _ _ _

/-- R18: the demand of each lane, derived afresh from the entries as the reset leaves them. -/
theorem State.lane_ringDerived (s : State) (k : Fin 4) (l : Fin 3) : (s.ringDerived.ramp k).lane l =
    { Lane.reset with demand := ((s.ramp k).laneConfig l).elim false (fun c => s.ringDerived.demandNow k c) } := by
  have hc : (s.ringCleared.ramp k).laneConfig l = (s.ramp k).laneConfig l := by
    rw [State.ramp_ringCleared]
    rfl
  rw [State.ramp_ringDerived, Ramp.lane_demanding, Ramp.lane_ringReset, State.demandsNow, hc]
  cases (s.ramp k).laneConfig l <;> rfl

/-- R149: the ring reset offers every used head its target. -/
theorem State.ringReset_toldHeads (s : State) :
    s.ringReset = s.ringDerived.toldHeads (s.ringDerived.usedHeads allRamps) := by
  rw [State.ringReset_eq, State.told_eq_toldHeads, State.headsDue_invalid]
  intro k l x hx
  rw [State.head_ringDerived] at hx
  obtain ⟨c, -, rfl⟩ := Option.mem_map.mp hx
  rfl

/-- R17: each entry keeps its configuration and loses its dynamic state. -/
theorem State.detector_ringDerived (s : State) (i : Nat) :
    s.ringDerived.detector i = (s.detector i).map (fun d => Detector.fresh d.config) := Table.get_map _ _ _

theorem State.lastSources_ringDerived (s : State) (i : Nat) :
    s.ringDerived.lastSources.get i = (s.ringDerived.detector i).bind (fun d =>
      if d.config.role = .spill then s.ringDerived.source d.config.ramp .spill i else none) := by
  have h : s.ringDerived.lastSources.get i =
      (s.ringDerived.detector i).bind (fun _ => s.ringCleared.lastSource (fun _ _ => true) i) := Table.get_collect _ _ _
  have hl : s.ringCleared.lastSource (fun _ _ => true) i = s.ringDerived.lastSource (fun _ _ => true) i := rfl
  rw [h, hl, State.lastSource]
  cases s.ringDerived.detector i with
  | none => rfl
  | some d =>
    simp only [Option.bind_some, if_true]
    by_cases hr : d.config.role = .spill
    · rw [if_neg (not_not.mpr hr), if_pos hr]
    · rw [if_pos hr, if_neg hr]

/-- Settles O8. -/
theorem ringResetLeaves : Obligations.RingResetLeaves := by
  intro s o ho hr
  have hsend : s.sendingReset = true := by
    rw [State.sendingReset_eq, ho, Option.map_some, hr]
    rfl
  refine ⟨({ s with line := none } : State).ringReset, ?_, ?_, ?_⟩
  · exact congrArg State.ends (if_pos hsend)
  · exact congrArg State.ends (if_pos hsend)
  let v := ({ s with line := none } : State).ringDerived
  have ht : ({ s with line := none } : State).ringReset = v.toldHeads (v.usedHeads allRamps) := State.ringReset_toldHeads _
  have htarget : ∀ x : Fin 4 × Fin 3, ((v.toldHeads (v.usedHeads allRamps)).ramp x.1).target x.2 =
      (v.ramp x.1).target x.2 := fun x => State.target_toldHeads _ _ _ _
  have hlane : ∀ k l, ((v.toldHeads (v.usedHeads allRamps)).ramp k).laneConfig l = (v.ramp k).laneConfig l :=
    State.laneConfig_toldHeads _ _
  have hused : (v.toldHeads (v.usedHeads allRamps)).usedHeads allRamps = v.usedHeads allRamps :=
    State.usedHeads_congr (fun k l => by rw [State.head_toldHeads, Option.isSome_map]) hlane
  have hcommand : (v.toldHeads (v.usedHeads allRamps)).headCommand = v.headCommand := funext fun x =>
    State.headCommand_congr (hlane _ _) (htarget x) rfl rfl
  rw [ht]
  refine ⟨rfl, rfl, rfl, rfl, rfl, rfl, rfl, rfl, rfl, rfl, rfl, rfl, rfl, rfl, rfl, rfl, rfl, rfl, rfl,
    State.detector_ringDerived _, State.lastSources_ringDerived _, fun a => Table.get_map _ _ _, fun k => ?_,
    fun k l => ?_, ?_, ?_, fun k l => ?_⟩
  · rw [State.ramp_toldHeads]
    exact State.ramp_ringDerived_fields _ k
  · rw [State.ramp_toldHeads]
    exact State.lane_ringDerived _ k l
  · rw [hused, hcommand]
    rfl
  · rw [hused]
    rfl
  · rw [hused, State.head_toldHeads, State.head_ringDerived, Option.map_map]
    refine Option.map_congr fun c _ => ?_
    rw [htarget (k, l)]
    simp only [Function.comp_apply, decide_eq_true_eq]
    change (if (k, l) ∈ (v.usedHeads allRamps).take 8 then _ else _) = _
    split
    · rfl
    · rfl

end Sys2Proof.Machine
end

section
/-! The checks of a configuration record field by field, and what it reads back as (R105, R106, R181). -/

namespace Sys2Proof.Machine

variable {s t u : State} {k : Fin 4} {rec : ConfigRecord}

/-! ## The checks -/

theorem headPair_beq (x y : LaneRecord) :
    (headPair x == headPair y) = decide (y.driver = x.driver ∧ y.output = x.output) := by
  rw [Bool.eq_iff_iff, beq_iff_eq, decide_eq_true_eq]
  simp only [headPair, Prod.mk.injEq]
  tauto

/-- R106: the head of `x` is named by the record of a ramp other than `k`. -/
def State.namedElsewhere (s : State) (k : Fin 4) (x : LaneRecord) : Bool :=
  allRamps.any (fun j => decide (j ≠ k) && ((s.ramp j).config.map (fun c =>
    c.lanes.any (fun y => decide (y.driver = x.driver ∧ y.output = x.output)))).getD false)

theorem State.otherHeads_contains (s : State) (k : Fin 4) (x : LaneRecord) :
    (s.otherHeads k).contains (headPair x) = s.namedElsewhere k x := by
  have hnamed : ∀ j, headPair x ∈ (s.ramp j).namedHeads ↔ ((s.ramp j).config.map (fun c =>
      c.lanes.any (fun y => decide (y.driver = x.driver ∧ y.output = x.output)))).getD false = true := fun j => by
    simp only [Ramp.namedHeads]
    cases (s.ramp j).config with
    | none => simp
    | some c => simp [RampConfig.heads, headPair]
  rw [Bool.eq_iff_iff, List.contains_iff_mem, mem_otherHeads]
  simp only [State.namedElsewhere, List.any_eq_true, mem_allRamps, true_and, Bool.and_eq_true, decide_eq_true_eq, hnamed]

/-- R105, R106: the failing fields of the kept sub-record `p.1`, the `p.2`-th of `lanes`. -/
def laneFailures (own : Nat) (elsewhere : LaneRecord → Bool) (lanes : List LaneRecord) (p : LaneRecord × Nat) :
    List (Nat × Bool) :=
  let x := p.1
  let n := 8 + 6 * p.2
  let out (lo hi n : Nat) : Bool := decide (n < lo) || decide (hi < n)
  let reference (n : Nat) : Bool := decide (n ≠ 0xFF ∧ 63 < n)
  [(n, out 1 126 x.driver || decide (x.driver = own) || elsewhere x ||
      (lanes.take p.2).any (fun y => decide (y.driver = x.driver ∧ y.output = x.output))),
   (n + 1, out 0 3 x.output), (n + 2, reference x.demand), (n + 3, out 0 1 x.sense),
   (n + 4, reference x.passage), (n + 5, out 0 1 x.edge)]

theorem not_refOk (n : Nat) : (!refOk n) = decide (n ≠ 0xFF ∧ 63 < n) := by
  rw [refOk, Bool.not_or, not_within, ← decide_not, Bool.decide_and, decide_eq_false (Nat.not_lt_zero n), Bool.false_or]

/-- R106: the checks of the lanes from the one after `pre` on. -/
theorem laneChecks_eq {own : Nat} {elsewhere : LaneRecord → Bool} {taken : List (Nat × Nat)} (pre rest : List LaneRecord)
    (h : ∀ x, taken.contains (headPair x) =
      (elsewhere x || pre.any (fun y => decide (y.driver = x.driver ∧ y.output = x.output)))) :
    (laneChecks own taken (8 + 6 * pre.length) rest).map (fun x => (x.1, !x.2)) =
      (rest.zipIdx pre.length).flatMap (laneFailures own elsewhere (pre ++ rest)) := by
  induction rest generalizing pre taken with
  | nil => rfl
  | cons r rest ih =>
    have hnext : ∀ x, (headPair r :: taken).contains (headPair x) = (elsewhere x ||
        (pre ++ [r]).any (fun y => decide (y.driver = x.driver ∧ y.output = x.output))) := fun x => by
      rw [List.contains_cons, h, headPair_beq, List.any_append, List.any_cons, List.any_nil, Bool.or_false, Bool.or_comm,
        Bool.or_assoc]
    have hrest := ih (pre ++ [r]) hnext
    rw [List.length_append, List.length_singleton, List.append_assoc, List.singleton_append] at hrest
    rw [laneChecks, List.map_append, List.zipIdx_cons, List.flatMap_cons, ← hrest]
    congr 1
    simp only [laneFailures, List.map_cons, List.map_nil, Bool.not_and, Bool.not_not, not_within, not_refOk, h,
      List.take_left, ← decide_not, not_not, Bool.or_assoc]

/-- R106 check 3: the lowest failing field, of all the fields' conditions. -/
theorem State.configFault_eq (s : State) (k : Fin 4) (rec : ConfigRecord) :
    let out (lo hi n : Nat) : Bool := decide (n < lo) || decide (hi < n)
    let lanes := [rec.lane0, rec.lane1, rec.lane2].take rec.lanesUsed
    let checks := [(1, out 1 3 rec.lanesUsed), (2, out 10 120 rec.interval), (3, out 0 1 rec.offAspect),
        (4, out 0 2 rec.holdMode), (5, out 10 100 rec.headTimeout), (6, out 5 60 rec.warning), (7, out 0 60 rec.clear)] ++
      lanes.zipIdx.flatMap (laneFailures s.ownAddress (s.namedElsewhere k) lanes)
    s.configFault k rec = ((checks.filter (fun x => x.2)).map (fun x => x.1)).head? := by
  refine lowestFailing_eq_head? ?_
  have h := laneChecks_eq (own := s.ownAddress) (elsewhere := s.namedElsewhere k) (taken := s.otherHeads k) []
    (keptLanes rec) (fun x => by rw [s.otherHeads_contains, List.any_nil, Bool.or_false])
  rw [List.map_append, show (8 : Nat) = 8 + 6 * ([] : List LaneRecord).length from rfl, h]
  simp only [List.map_cons, List.map_nil, not_within]
  rfl

/-! ## What a record reads back as -/

theorem HoldMode.code_ofCode {n : Nat} (h : n ≤ 2) : (HoldMode.ofCode n).code = n := by
  interval_cases n <;> rfl

theorem refCode_refOf (n : Nat) : refCode (refOf n) = n := by
  simp only [refOf, refCode]
  split
  · simp [*]
  · rfl

theorem laneRecordOf_laneConfigOf {x : LaneRecord} (hs : x.sense ≤ 1) (he : x.edge ≤ 1) :
    laneRecordOf (some (laneConfigOf x)) = x := by
  simp only [laneRecordOf, laneConfigOf, refCode_refOf, bitValue_decide_one hs, bitValue_decide_one he]

/-- R106: the fields of a record that passes its checks. -/
theorem laneChecks_fields {own : Nat} {recs : List LaneRecord} {taken : List (Nat × Nat)} {n : Nat}
    (h : ∀ p ∈ laneChecks own taken n recs, p.2 = true) : ∀ x ∈ recs, x.sense ≤ 1 ∧ x.edge ≤ 1 := by
  induction recs generalizing taken n with
  | nil => exact fun x hx => absurd hx List.not_mem_nil
  | cons r rest ih =>
    simp only [laneChecks, List.forall_mem_append, List.forall_mem_cons] at h
    obtain ⟨⟨-, -, -, hs, -, he, -⟩, hrest⟩ := h
    refine List.forall_mem_cons.mpr ⟨⟨(within_iff.mp hs).2, (within_iff.mp he).2⟩, ih hrest⟩

theorem State.configFault_fields (h : s.configFault k rec = none) :
    1 ≤ rec.lanesUsed ∧ rec.lanesUsed ≤ 3 ∧ rec.offAspect ≤ 1 ∧ rec.holdMode ≤ 2 ∧
    ∀ x ∈ keptLanes rec, x.sense ≤ 1 ∧ x.edge ≤ 1 := by
  rw [State.configFault, lowestFailing_eq_none, List.forall_mem_append] at h
  obtain ⟨h, hlanes⟩ := h
  simp only [List.forall_mem_cons] at h
  obtain ⟨hused, -, hoff, hhold, -⟩ := h
  exact ⟨(within_iff.mp hused).1, (within_iff.mp hused).2, (within_iff.mp hoff).2, (within_iff.mp hhold).2,
    laneChecks_fields hlanes⟩

theorem length_keptLanes (h : rec.lanesUsed ≤ 3) : (keptLanes rec).length = rec.lanesUsed := by
  simp only [keptLanes, laneRecords, List.length_take, List.length_cons, List.length_nil]
  omega

/-- R105, R181: a lane reads back as it was written, and as zeros where it is not kept. -/
theorem laneRecordOf_getElem? {lanes : List LaneRecord} (h : ∀ x ∈ lanes, x.sense ≤ 1 ∧ x.edge ≤ 1) (i : Nat) :
    laneRecordOf ((lanes.map laneConfigOf)[i]?) = lanes[i]?.getD ⟨0, 0, 0, 0, 0, 0⟩ := by
  rw [List.getElem?_map]
  cases hx : lanes[i]? with
  | none => rfl
  | some x =>
    obtain ⟨hs, he⟩ := h x (List.mem_of_getElem? hx)
    exact laneRecordOf_laneConfigOf hs he

/-- R105, R181: a record that was written reads back but for the lanes that are not kept. -/
theorem State.configOf_record (h : s.configFault k rec = none) :
    let lanes := [rec.lane0, rec.lane1, rec.lane2].take rec.lanesUsed
    (configOf rec).record = { rec with
      lane0 := lanes[0]?.getD ⟨0, 0, 0, 0, 0, 0⟩, lane1 := lanes[1]?.getD ⟨0, 0, 0, 0, 0, 0⟩
      lane2 := lanes[2]?.getD ⟨0, 0, 0, 0, 0, 0⟩ } := by
  obtain ⟨-, h3, hoff, hhold, hlanes⟩ := State.configFault_fields h
  simp only [RampConfig.record, configOf, laneRecordOf_getElem? hlanes, List.length_map, length_keptLanes h3,
    bitValue_decide_one hoff, HoldMode.code_ofCode hhold]
  rfl

end Sys2Proof.Machine
end

section
/-! RAMP CONFIG WRITE and RAMP CONFIG READ: O40 (R105, R106, R145, R147, R17, R18). -/

namespace Sys2Proof.Machine

variable {s t u : State} {k : Fin 4} {rec : ConfigRecord}

/-! ## The ramp under its new record -/

theorem Ramp.laneConfig_configured (r : Ramp) (site : Site) (rec : ConfigRecord) (l : Fin 3) :
    (r.configured site (configOf rec)).laneConfig l = ((keptLanes rec)[l.val]?).map laneConfigOf :=
  List.getElem?_map

theorem Ramp.lane_configured (r : Ramp) (site : Site) (rec : ConfigRecord) (l : Fin 3) :
    (r.configured site (configOf rec)).lane l = (((keptLanes rec)[l.val]?).map (fun _ => (r.lane l).opened)).getD (r.lane l) := by
  have hused : ({ r with config := some (configOf rec) } : Ramp).used l = ((keptLanes rec)[l.val]?).isSome := by
    rw [Ramp.used, show ({ r with config := some (configOf rec) } : Ramp).laneConfig l =
      ((keptLanes rec)[l.val]?).map laneConfigOf from List.getElem?_map, Option.isSome_map]
  simp only [Ramp.configured, Ramp.freshHeads]
  rw [Ramp.lane, Three.get_tabulate, hused]
  cases (keptLanes rec)[l.val]? <;> rfl

/-- R18, R106: ramp `k` once its record is replaced and its demands are derived. -/
def State.configuredRamp (s : State) (k : Fin 4) (rec : ConfigRecord) : Ramp :=
  ((s.ramp k).configured s.site (configOf rec)).demanding (fun l =>
    ((keptLanes rec)[l.val]?).map (fun x => s.demandNow k (laneConfigOf x)))

/-- R106, R17: the state once ramp `k`'s record is replaced, its demands are derived and its sources resolved. -/
def State.configStored (s : State) (k : Fin 4) (rec : ConfigRecord) : State :=
  { s with
    ramps := s.ramps.set k (s.configuredRamp k rec)
    lastSources := s.detectors.collect (s.lastSource (fun j _ => decide (j = k))) }

theorem State.configTaken_eq (s : State) (k : Fin 4) (rec : ConfigRecord) :
    s.configTaken k (configOf rec) = s.told (s.configStored k rec) (rampHeads k) := by
  have hd : (s.updRamp k (Ramp.configured s.site (configOf rec))).demandsNow k =
      fun l => ((keptLanes rec)[l.val]?).map (fun x => s.demandNow k (laneConfigOf x)) := by
    funext l
    rw [State.demandsNow, State.ramp_updRamp, if_pos rfl, Ramp.laneConfig_configured, Option.map_map]
    rfl
  rw [State.configTaken, State.deriveAllDemands_eq, hd, State.settleHeads_eq_told, State.ramp_updRamp, if_pos rfl,
    State.updRamp, State.setRamp_setRamp]
  rfl

theorem State.ramp_configStored (s : State) (k : Fin 4) (rec : ConfigRecord) (j : Fin 4) :
    (s.configStored k rec).ramp j = if j = k then s.configuredRamp k rec else s.ramp j := by
  rw [State.configStored, State.ramp]
  simp only [Four.get_set]
  rfl

theorem State.lane_configuredRamp (s : State) (k : Fin 4) (rec : ConfigRecord) (l : Fin 3) :
    (s.configuredRamp k rec).lane l = (((keptLanes rec)[l.val]?).map (fun x => { (s.ramp k).lane l with
      isOpen := true, closePending := false, demand := s.demandNow k (laneConfigOf x) })).getD ((s.ramp k).lane l) := by
  rw [State.configuredRamp, Ramp.lane_demanding, Ramp.lane_configured]
  cases (keptLanes rec)[l.val]? <;> rfl

theorem State.laneConfig_configuredRamp (s : State) (k : Fin 4) (rec : ConfigRecord) (l : Fin 3) :
    (s.configuredRamp k rec).laneConfig l = ((keptLanes rec)[l.val]?).map laneConfigOf :=
  Ramp.laneConfig_configured (s.ramp k) s.site rec l

theorem State.head_configuredRamp (s : State) (k : Fin 4) (rec : ConfigRecord) (l : Fin 3) :
    (s.configuredRamp k rec).head l = ((keptLanes rec)[l.val]?).map (fun _ => Head.fresh s.site) := by
  have h : (s.configuredRamp k rec).head l = ((s.configuredRamp k rec).laneConfig l).map (fun _ => Head.fresh s.site) :=
    Ramp.head_freshHeads (r := { (s.ramp k) with
      config := some (configOf rec), lanes := ((s.ramp k).configured s.site (configOf rec)).lanes }) s.site l
  rw [h, State.laneConfig_configuredRamp, Option.map_map]
  rfl

/-! ## The heads that are offered a command -/

/-- R146: the heads of the first `n` lanes of a ramp, in order. -/
theorem allHeads_filter_ramp (k : Fin 4) {n : Nat} (hn : n ≤ 3) :
    allHeads.filter (fun x => decide (x.1 = k ∧ x.2.val < n)) = (allLanes.take n).map (fun l => (k, l)) := by
  interval_cases n <;> revert k <;> decide

theorem mem_take_allLanes {l : Fin 3} {n : Nat} (hn : n ≤ 3) : l ∈ allLanes.take n ↔ l.val < n := by
  interval_cases n <;> revert l <;> decide

theorem rampHeads_contains (k : Fin 4) (x : Fin 4 × Fin 3) : (rampHeads k).contains x = decide (x.1 = k) := by
  obtain ⟨j, l⟩ := x
  revert k j l
  decide

/-- R106, R147: the used heads of the ramp, whose records are fresh, are offered a command. -/
theorem State.headsDue_configStored (s : State) (k : Fin 4) (h : rec.lanesUsed ≤ 3) :
    s.headsDue (s.configStored k rec) (rampHeads k) = (allLanes.take (keptLanes rec).length).map (fun l => (k, l)) := by
  have hlen : (keptLanes rec).length ≤ 3 := (length_keptLanes h).trans_le h
  rw [← allHeads_filter_ramp k hlen]
  refine List.filter_congr fun x _ => ?_
  rw [rampHeads_contains, State.ramp_configStored]
  by_cases hk : x.1 = k
  · rw [if_pos hk, State.laneConfig_configuredRamp, State.head_configuredRamp, Option.isSome_map]
    by_cases hl : x.2.val < (keptLanes rec).length
    · rw [List.getElem?_eq_getElem hl]
      simp [hk, hl, Head.fresh]
    · rw [List.getElem?_eq_none (Nat.le_of_not_lt hl)]
      simp [hk, hl]
  · rw [if_neg hk]
    simp [hk]

/-- R145, R106: a used lane's head is sent the off aspect. -/
theorem State.target_configuredRamp (hd : (s.ramp k).state = .dark) {l : Fin 3} {x : LaneRecord}
    (hx : (keptLanes rec)[l.val]? = some x) :
    (s.configuredRamp k rec).target l = if rec.offAspect = 1 then .green else .dark := by
  have hopen : ((s.configuredRamp k rec).lane l).isOpen = true := by
    rw [State.lane_configuredRamp, hx]
    rfl
  have hdis : (s.configuredRamp k rec).disabled l = false := by
    rw [Ramp.disabled_eq, State.head_configuredRamp, hx]
    rfl
  have hstate : (s.configuredRamp k rec).state = .dark := hd
  have hconfig : (s.configuredRamp k rec).config = some (configOf rec) := rfl
  rw [Ramp.target_eq, hopen, hdis, hstate, hconfig]
  simp [configOf]

/-- What the lanes of a list give, lane by lane. -/
theorem map_take_allLanes {α β : Type} {lanes : List α} (h : lanes.length ≤ 3) {f : Fin 3 → β} {g : α → β}
    (hfg : ∀ l : Fin 3, ∀ x, lanes[l.val]? = some x → f l = g x) : (allLanes.take lanes.length).map f = lanes.map g := by
  match lanes, h with
  | [], _ => rfl
  | [x], _ => exact congrArg (fun a => [a]) (hfg 0 x rfl)
  | [x, y], _ =>
    exact congrArg₂ (fun a b => [a, b]) (hfg 0 x rfl) (hfg 1 y rfl)
  | [x, y, z], _ =>
    rw [List.map_cons, List.map_cons, List.map_cons, ← hfg 0 x rfl, ← hfg 1 y rfl, ← hfg 2 z rfl]
    rfl

/-- R147, R179: the commands offered, one for each kept lane. -/
theorem State.commands_configStored (s : State) (hd : (s.ramp k).state = .dark) (h : rec.lanesUsed ≤ 3) (room : Nat) :
    (((allLanes.take (keptLanes rec).length).map (fun l => (k, l))).take room).map (s.configStored k rec).headCommand =
      ((keptLanes rec).take room).map (fun x => mkFrame x.driver s.ownAddress 0x30 0
        [u8 x.output, u8 (if rec.offAspect = 1 then Aspect.green else .dark).code, u8 (2 * s.site.refresh)]) := by
  rw [List.map_take, List.map_map, List.map_take (l := keptLanes rec)]
  refine congrArg (List.take room) (map_take_allLanes ((length_keptLanes h).trans_le h) fun l x hx => ?_)
  have hramp : (s.configStored k rec).ramp k = s.configuredRamp k rec := by rw [State.ramp_configStored, if_pos rfl]
  simp only [Function.comp_apply, State.headCommand, hramp, State.laneConfig_configuredRamp, hx, Option.map_some,
    State.target_configuredRamp hd hx]
  rfl

theorem mem_take_ramp {l : Fin 3} {n room : Nat} (hn : n ≤ 3) (hl : l.val < n) :
    (k, l) ∈ ((allLanes.take n).map (fun l => (k, l))).take room ↔ l.val < room := by
  rw [← List.map_take, List.take_take, List.mem_map_of_injective fun a b hab => (Prod.mk.inj hab).2,
    mem_take_allLanes ((min_le_right _ _).trans hn)]
  omega

/-- R147: telling heads of ramp `k` alone leaves the other ramps. -/
theorem State.ramps_toldHeads_of_ramp {due : List (Fin 4 × Fin 3)} (h : ∀ x ∈ due, x.1 = k) :
    (s.toldHeads due).ramps = s.ramps.set k ((s.toldHeads due).ramp k) := by
  refine Four.ext_get fun j => ?_
  rw [Four.get_set]
  split
  · rename_i hj
    rw [hj]
    rfl
  · rename_i hj
    have hno : ∀ l, (j, l) ∉ due.take (8 - s.urgent.length) := fun l hm => hj (h _ (List.mem_of_mem_take hm))
    have hr : (s.toldHeads due).ramps.get j = _ := State.ramp_toldHeads s due j
    rw [hr]
    simp only [hno, if_false, Option.map_id']
    exact congrArg (fun x => { s.ramp j with heads := x }) (Three.ext_get fun l => Three.get_tabulate _ l)

/-! ## The event -/

/-- R106, R145, R147, R17, R18: a RAMP CONFIG WRITE that passes its checks. -/
theorem State.configTaken_spec (u : State) (q : Request) (k : Fin 4) (rec : ConfigRecord) (hd : (u.ramp k).state = .dark)
    (hf : u.configFault k rec = none) :
    let t := (u.configTaken k (configOf rec)).reply q 0x30 .done []
    let r := u.ramp k
    let aspect : Aspect := if rec.offAspect = 1 then .green else .dark
    let lanes := [rec.lane0, rec.lane1, rec.lane2].take rec.lanesUsed
    let room := 8 - u.urgent.length
    t.urgent = u.urgent ++ (lanes.take room).map (fun x =>
      mkFrame x.driver u.ownAddress 0x30 0 [u8 x.output, u8 aspect.code, u8 (2 * u.site.refresh)]) ∧
    t.urgentDropped = (u.urgentDropped || decide (room < lanes.length)) ∧
    (∀ l, (t.ramp k).head l = (lanes[l.val]?).map (fun _ =>
      { sent := if l.val < room then some aspect else none, refresh := u.site.refresh
        confirm := if l.val < room then some u.site.confirm else none, silence := none, lamps := .none
        disabled := none })) ∧
    (∀ l, (t.ramp k).lane l = ((lanes[l.val]?).map (fun x =>
      { r.lane l with isOpen := true, closePending := false, demand := t.demandNow k (laneConfigOf x) })).getD
        (r.lane l)) ∧
    { t.ramp k with lanes := r.lanes, heads := r.heads, waitOrder := r.waitOrder } =
      { r with config := some (configOf rec) } ∧
    (r.waitOrder = [] → (∀ l, (r.lane l).cycle = .off) → (t.ramp k).waitOrder = []) ∧
    (∀ i, t.lastSources.get i = (u.detector i).bind (fun d =>
      if d.config.role ≠ .spill then none
      else if d.config.ramp = k then u.source k .spill i else u.lastSources.get i)) ∧
    t = { u with
      ramps := u.ramps.set k (t.ramp k), urgent := t.urgent, urgentDropped := t.urgentDropped
      normal := t.normal, normalDropped := t.normalDropped, lastSources := t.lastSources } ∧
    u.tells t [] [replyOf u q 0x30 .done []] := by
  intro t r aspect lanes room
  obtain ⟨-, hused, -⟩ := State.configFault_fields hf
  have hlen : lanes.length ≤ 3 := (length_keptLanes hused).trans_le hused
  let due := (allLanes.take lanes.length).map (fun l => (k, l))
  have hT : u.configTaken k (configOf rec) = (u.configStored k rec).toldHeads due := by
    rw [State.configTaken_eq, State.told_eq_toldHeads, u.headsDue_configStored k hused]
    rfl
  have hk : (u.configStored k rec).ramp k = u.configuredRamp k rec := by rw [State.ramp_configStored, if_pos rfl]
  obtain ⟨h1, h2⟩ : ((u.configStored k rec).toldHeads due).repliesOnly t q 0x30 .done [] := by
    rw [← hT]
    exact State.reply_repliesOnly _ _ _ _ _
  have htold : t.ramp k = ((u.configStored k rec).toldHeads due).ramp k := by rw [h2]; rfl
  have hramps : ((u.configStored k rec).toldHeads due).ramps = u.ramps.set k (t.ramp k) := by
    rw [htold, State.ramps_toldHeads_of_ramp (k := k) fun x hx => ?_]
    · exact Four.set_set _ _ _ _
    · obtain ⟨l, -, rfl⟩ := List.mem_map.mp hx
      rfl
  have hramp := htold
  rw [State.ramp_toldHeads, hk] at hramp
  clear_value t
  have hdemand : ∀ c, t.demandNow k c = u.demandNow k c := fun c => by rw [h2]; rfl
  refine ⟨?_, ?_, fun l => ?_, fun l => ?_, ?_, fun hw hoff => ?_, fun i => ?_, ?_, State.tells_base h1 rfl rfl rfl rfl rfl⟩
  · rw [h2]
    exact congrArg (fun x => u.urgent ++ x) (u.commands_configStored hd hused room)
  · have hdue : due.length = lanes.length := by
      simp only [due, List.length_map, List.length_take, show allLanes.length = 3 from rfl]
      omega
    rw [h2, ← hdue]
    rfl
  · rw [htold, State.head_toldHeads, hk, State.head_configuredRamp, Option.map_map]
    refine Option.map_congr fun x hx => ?_
    have hl : l.val < lanes.length := (List.getElem?_eq_some_iff.mp hx).1
    have hmem : (k, l) ∈ due.take (8 - (u.configStored k rec).urgent.length) ↔ l.val < room := mem_take_ramp hlen hl
    simp only [Function.comp_apply, hmem, State.target_configuredRamp hd hx]
    split
    · rfl
    · rfl
  · simp only [hdemand]
    rw [hramp]
    exact u.lane_configuredRamp k rec l
  · rw [hramp]
    rfl
  · rw [hramp]
    refine Ramp.waitOrder_demanding_off hw fun l => ?_
    rw [Ramp.lane_configured]
    cases (keptLanes rec)[l.val]? <;> exact hoff l
  · have hlast : t.lastSources = u.detectors.collect (u.lastSource (fun j _ => decide (j = k))) := by rw [h2]; rfl
    rw [hlast, Table.get_collect]
    change (u.detector i).bind _ = _
    cases hdet : u.detector i with
    | none => rfl
    | some d =>
      simp only [Option.bind_some, State.lastSource, hdet, decide_eq_true_eq]
      split
      · rfl
      · split
        · rename_i hk'
          rw [hk']
        · rfl
  · rw [← hramps]
    conv_lhs => rw [h2]
    rw [h2]
    rfl

/-- Settles O40. -/
theorem configurationIsWrittenInDark : Obligations.ConfigurationIsWrittenInDark := by
  intro q rec k s hq
  refine ⟨⟨_, rfl, ?_⟩, ⟨_, rfl, ?_⟩⟩
  · rw [State.onRamp_of_subject hq]
    dsimp only
    generalize s.took _ = u
    refine ⟨u.configFault_eq k rec, fun hd => ?_, fun hd n hn => ?_, fun hd hn => ?_⟩
    · rw [State.configWritten, if_pos hd]
      exact u.reply_repliesOnly _ _ _ _
    · simp only [State.configWritten]
      rw [if_neg (not_not.mpr hd), hn]
      exact u.reply_repliesOnly _ _ _ _
    · simp only [State.configWritten]
      rw [if_neg (not_not.mpr hd), hn]
      obtain ⟨h1, h2, h3, h4, h5, h6, h7, h8, h9⟩ := u.configTaken_spec q k rec hd hn
      exact ⟨h1, h2, h3, h4, h5, h6, State.configOf_record hn, h7, h8, h9⟩
  · rw [State.onRamp_of_subject hq]
    dsimp only
    generalize s.took _ = u
    simp only [State.configRead]
    refine ⟨fun hc => ?_, fun c hc => ?_⟩
    · rw [hc]
      exact u.reply_repliesOnly _ _ _ _
    · rw [hc]
      exact u.reply_repliesOnly _ _ _ _

end Sys2Proof.Machine
end

section
/-! Frames built and received: O13, O11 (R158 to R161, R164, R178). -/

namespace Sys2Proof.Machine

variable {s t u : State} {dst src kind tag : Nat} {payload : List Byte}

/-! ## Frames that the part builds -/

/-- R178: the bytes of a frame before its check word. -/
def frameHead (dst src kind tag : Nat) (payload : List Byte) : List Byte :=
  u8 dst :: u8 src :: u8 kind :: u8 tag :: u8 payload.length :: payload

theorem mkFrame_eq (dst src kind tag : Nat) (payload : List Byte) :
    mkFrame dst src kind tag payload = frameHead dst src kind tag payload ++ crcBytes (frameHead dst src kind tag payload) := rfl

theorem length_frameHead : (frameHead dst src kind tag payload).length = 5 + payload.length := by
  simp only [frameHead, List.length_cons]
  omega

theorem length_mkFrame : (mkFrame dst src kind tag payload).length = payload.length + 7 := by
  rw [mkFrame_eq, List.length_append, length_frameHead]
  simp only [crcBytes, u16, List.length_cons, List.length_nil]
  omega

theorem frameDst_mkFrame (h : dst < 256) : frameDst (mkFrame dst src kind tag payload) = dst := toNat_u8 h

theorem frameSrc_mkFrame (h : src < 256) : frameSrc (mkFrame dst src kind tag payload) = src := toNat_u8 h

theorem frameKind_mkFrame (h : kind < 256) : frameKind (mkFrame dst src kind tag payload) = kind := toNat_u8 h

theorem frameTag_mkFrame (h : tag < 256) : frameTag (mkFrame dst src kind tag payload) = tag := toNat_u8 h

theorem frameLength_mkFrame (h : payload.length ≤ 56) :
    frameLength (mkFrame dst src kind tag payload) = payload.length := toNat_u8 (by omega)

theorem framePayload_mkFrame (h : payload.length ≤ 56) : framePayload (mkFrame dst src kind tag payload) = payload := by
  rw [framePayload, frameLength_mkFrame h]
  exact List.take_left

theorem frameCheckOk_mkFrame (h : payload.length ≤ 56) : frameCheckOk (mkFrame dst src kind tag payload) = true := by
  rw [frameCheckOk, frameLength_mkFrame h, ← length_frameHead (dst := dst) (src := src) (kind := kind) (tag := tag),
    mkFrame_eq, List.drop_left, List.take_left]
  exact decide_eq_true rfl

theorem nodeOk_iff {a : Nat} : nodeOk a = true ↔ 1 ≤ a ∧ a ≤ 126 := by
  rw [nodeOk, Bool.and_eq_true, decide_eq_true_eq, decide_eq_true_eq]

/-- R159: the tests of a frame, one by one. -/
theorem frameAccepted_iff (f : Frame) : frameAccepted f = true ↔
    7 ≤ f.length ∧ frameLength f ≤ 56 ∧ f.length = frameLength f + 7 ∧ frameCheckOk f = true ∧ frameDst f ≠ 0 ∧
    1 ≤ frameSrc f ∧ frameSrc f ≤ 126 := by
  simp only [frameAccepted, Bool.and_eq_true, decide_eq_true_eq, nodeOk_iff]
  tauto

/-- R164, R178: a built frame reads back as built and passes the tests. -/
theorem mkFrame_spec (hd : 1 ≤ dst) (hd' : dst < 256) (hs : nodeOk src = true) (hk : kind < 256) (ht : tag < 256)
    (hp : payload.length ≤ 56) :
    let f := mkFrame dst src kind tag payload
    frameAccepted f = true ∧ f.length = payload.length + 7 ∧ frameDst f = dst ∧ frameSrc f = src ∧
    frameKind f = kind ∧ frameTag f = tag ∧ framePayload f = payload := by
  obtain ⟨hs1, hs2⟩ := nodeOk_iff.mp hs
  refine ⟨(frameAccepted_iff _).mpr ?_, length_mkFrame, frameDst_mkFrame hd', frameSrc_mkFrame (by omega),
    frameKind_mkFrame hk, frameTag_mkFrame ht, framePayload_mkFrame hp⟩
  rw [length_mkFrame, frameLength_mkFrame hp, frameDst_mkFrame hd', frameSrc_mkFrame (by omega)]
  exact ⟨by omega, hp, rfl, frameCheckOk_mkFrame hp, by omega, hs1, hs2⟩

/-- Settles O13. -/
theorem builtFramesPassTheTests : Obligations.BuiltFramesPassTheTests :=
  fun _ _ _ _ _ hd hd' hs hk ht hp => mkFrame_spec hd hd' hs hk ht hp

/-! ## Frames received -/

/-- R160: what is handed on to a block. -/
theorem handOn_isSome (own : Nat) (f : Frame) : (handOn own f).isSome = true ↔
    frameKind f = 0x21 ∨ (frameDst f = own ∧ (frameKind f = 0x40 ∨ frameKind f = 0x31)) := by
  change _ ↔ frameKind f = Config.kindScan ∨
    (frameDst f = own ∧ (frameKind f = Config.kindRequest ∨ frameKind f = Config.kindHeadStatus))
  simp only [handOn]
  by_cases hscan : frameKind f = Config.kindScan
  · simp [hscan]
  rw [if_neg hscan]
  by_cases hd : frameDst f = own
  · rw [if_neg (not_not.mpr hd)]
    by_cases hr : frameKind f = Config.kindRequest
    · simp [hr, hd]
    rw [if_neg hr]
    by_cases hh : frameKind f = Config.kindHeadStatus
    · simp [hh, hd]
    · rw [if_neg hh]
      simp [hscan, hr, hh]
  · rw [if_pos hd]
    simp [hscan, hd]

/-- R159, R160, R161: a frame that passes every test. -/
theorem State.received_eq (s : State) (f : Frame) : s.received f = { s with
    handed := s.handed ++ (handOn s.ownAddress f).toList
    forward := if frameDst f ≠ s.ownAddress ∧ s.forward.length < 8 then s.forward ++ [f] else s.forward
    forwardDropped := s.forwardDropped || decide (frameDst f ≠ s.ownAddress ∧ 8 ≤ s.forward.length) } := by
  have hforward : ∀ v : State, v.offerForward f = { v with
      forward := if v.forward.length < 8 then v.forward ++ [f] else v.forward
      forwardDropped := v.forwardDropped || decide (8 ≤ v.forward.length) } := fun v => by
    by_cases hr : v.forward.length < 8
    · rw [if_pos hr, decide_eq_false (by omega), Bool.or_false]
      exact if_pos hr
    · rw [if_neg hr, decide_eq_true (by omega), Bool.or_true]
      exact if_neg hr
  have hs : s.received f = if frameDst f = s.ownAddress then { s with handed := s.handed ++ (handOn s.ownAddress f).toList }
      else ({ s with handed := s.handed ++ (handOn s.ownAddress f).toList } : State).offerForward f := by
    simp only [State.received]
    cases handOn s.ownAddress f with
    | none => simp only [Option.toList_none, List.append_nil]
    | some c => rfl
  rw [hs, hforward]
  by_cases hd : frameDst f = s.ownAddress
  · have hn : ¬frameDst f ≠ s.ownAddress := not_not.mpr hd
    simp only [if_pos hd, hn, false_and, if_false, decide_false, Bool.or_false]
  · rw [if_neg hd]
    simp only [hd, ne_eq, not_false_eq_true, true_and]

/-- Settles O11. -/
theorem receivedFramesAreDisposedOf : Obligations.ReceivedFramesAreDisposedOf := by
  intro f s hup hgap
  refine ⟨_, rfl, ?_⟩
  intro n passes onward acted
  have hpasses : (s.receiving && !s.frameDropped f) = true ↔ passes := by
    have hr : s.receiving = true := by rw [State.receiving, hup, hgap]; rfl
    have hcheck : frameCheckOk f = true ↔ f.drop (5 + n) = u16 (crc (f.take (5 + n))).toNat := decide_eq_true_iff
    rw [hr, Bool.true_and, State.frameDropped, Bool.not_or, Bool.not_not, Bool.and_eq_true, frameAccepted_iff, hcheck,
      Bool.not_eq_true', decide_eq_false_iff_not]
    simp only [passes, and_assoc]
    rfl
  have hacted : (handOn s.ownAddress f).isSome = true ↔ acted := handOn_isSome _ _
  refine ⟨fun hn => if_neg fun h => hn (hpasses.mp h), fun hp => ?_⟩
  have ht : (if (s.receiving && !s.frameDropped f) = true then s.received f else s) = s.received f :=
    if_pos (hpasses.mpr hp)
  rw [ht, s.received_eq f]
  refine ⟨fun ha => ?_, fun ha => ?_, rfl⟩
  · rw [Option.not_isSome_iff_eq_none.mp fun h => ha (hacted.mp h)]
    exact List.append_nil _
  · obtain ⟨c, hc⟩ := Option.isSome_iff_exists.mp (hacted.mpr ha)
    exact ⟨c, by rw [hc]; rfl, hc⟩

end Sys2Proof.Machine
end

section
/-! Requests that are refused for their format or their subject: O14 (R42, R168, R169, R172). -/

namespace Sys2Proof.Machine

variable {s t u : State} {q : Request} {c : Instr} {code : Nat}

/-! ## Format faults -/

/-- R168: a format fault: fewer than two bytes, or a body that is not what the code requires. -/
theorem formatFault_iff (payload : List Byte) : formatFault payload = true ↔ payload.length < 2 ∨
    bodyLength (field8 (byteValues payload) 0) ((byteValues payload).drop 2) ≠ some (payload.length - 2) := by
  match payload with
  | [] => simp [formatFault, byteValues]
  | [a] => simp [formatFault, byteValues]
  | a :: b :: rest => simp [formatFault, byteValues, field8]

/-- R169: the code echoed. -/
theorem echoedCode_eq (payload : List Byte) :
    echoedCode payload = if payload.length < 1 then 0 else field8 (byteValues payload) 0 := by
  cases payload with
  | nil => rfl
  | cons a rest => simp [echoedCode, byteValues, field8]

/-- R42, R169: the body of a BAD_FORMAT reply. -/
theorem State.formatBody_eq (s : State) (payload : List Byte) : s.formatBody payload =
    let code := field8 (byteValues payload) 0
    let subject := field8 (byteValues payload) 1
    if 2 ≤ payload.length ∧ 0x22 ≤ code ∧ code ≤ 0x24 ∧ subject ≤ 3 then
      stackBytes (s.ramp (Fin.ofNat 4 subject)).stack
    else [] := by
  match payload with
  | [] => rfl
  | [a] => rfl
  | a :: b :: rest =>
    have hfields : field8 (byteValues (a :: b :: rest)) 0 = a.toNat ∧ field8 (byteValues (a :: b :: rest)) 1 = b.toNat :=
      ⟨rfl, rfl⟩
    have hlen : 2 ≤ (a :: b :: rest).length := Nat.le_add_left 2 _
    dsimp only
    rw [hfields.1, hfields.2]
    by_cases h : within 0x22 0x24 a.toNat = true ∧ b.toNat < 4
    · obtain ⟨hw, hb⟩ := h
      obtain ⟨h1, h2⟩ := within_iff.mp hw
      have hsubject : stackSubject (a :: b :: rest) = some ⟨b.toNat, hb⟩ := dif_pos ⟨hw, hb⟩
      have hk : (⟨b.toNat, hb⟩ : Fin 4) = Fin.ofNat 4 b.toNat := Fin.ext (Nat.mod_eq_of_lt hb).symm
      rw [if_pos ⟨hlen, h1, h2, by omega⟩, State.formatBody, hsubject, hk]
    · have hsubject : stackSubject (a :: b :: rest) = none := dif_neg h
      have hno : ¬(2 ≤ (a :: b :: rest).length ∧ 0x22 ≤ a.toNat ∧ a.toNat ≤ 0x24 ∧ b.toNat ≤ 3) := fun hc =>
        h ⟨within_iff.mpr ⟨hc.2.1, hc.2.2.1⟩, by omega⟩
      rw [if_neg hno, State.formatBody, hsubject]

/-! ## Subjects out of range -/

/-- R169: the effect of `c` on `s` is the refusal of its subject. -/
theorem exec_refused {f : State → State} {item : Nat} (he : exec c s = s.acting c f)
    (hf : ∀ u : State, f u = u.badValue q code item) :
    ∃ t : State, exec c s = .next t.withStarts ∧ (s.took c).repliesOnly t q code .badValue [u8 item] :=
  ⟨f (s.took c), he, by rw [hf]; exact State.reply_repliesOnly _ _ _ _ _⟩

/-- R169: a request whose subject is no ramp. -/
theorem exec_refused_ramp {f : Fin 4 → State → State} (hq : 4 ≤ q.subject) (he : exec c s = s.acting c (State.onRamp q code f)) :
    ∃ t : State, exec c s = .next t.withStarts ∧ (s.took c).repliesOnly t q code .badValue [u8 0] :=
  exec_refused he fun u => dif_neg (by omega)

/-- Settles O14. -/
theorem badRequestsAreRefused : Obligations.BadRequestsAreRefused := by
  refine ⟨fun src tag payload s h => ?_, fun q plan lane reduction lifetime count view config context record entries s =>
    ⟨fun hq => ?_, fun hq => ?_, fun hq h1 h4 => ?_⟩⟩
  · have hf := (formatFault_iff payload).mpr h
    refine ⟨if_pos hf, _, rfl, ?_⟩
    have hbody : (s.took (.requestFormatReject src tag payload)).formatBody payload = s.formatBody payload := by
      simp only [State.formatBody, State.ramp_took]
    dsimp only
    rw [if_pos hf, hbody, State.formatBody_eq, ← echoedCode_eq]
    exact State.reply_repliesOnly _ _ _ _ _
  · simp only [List.forall_mem_cons]
    exact ⟨exec_refused_ramp hq rfl, exec_refused_ramp hq rfl, exec_refused_ramp hq rfl, exec_refused_ramp hq rfl,
      exec_refused_ramp hq rfl, exec_refused_ramp hq rfl, exec_refused_ramp hq rfl, exec_refused_ramp hq rfl,
      exec_refused_ramp hq rfl, exec_refused_ramp hq rfl, exec_refused_ramp hq rfl, exec_refused_ramp hq rfl,
      exec_refused_ramp hq rfl, exec_refused_ramp hq rfl, exec_refused_ramp hq rfl, exec_refused_ramp hq rfl,
      exec_refused_ramp hq rfl, fun _ h => absurd h List.not_mem_nil⟩
  · have hout : within 0 15 q.subject = false := by
      rw [within_eq_false]
      omega
    simp only [List.forall_mem_cons]
    exact ⟨exec_refused rfl fun u => if_pos hout, exec_refused rfl fun u => if_pos hout,
      fun _ h => absurd h List.not_mem_nil⟩
  · have hout : within 0 63 q.subject = false := by
      rw [within_eq_false]
      omega
    have hcount : ¬within 1 4 entries.length = false := by
      rw [within_eq_false]
      omega
    simp only [List.forall_mem_cons]
    exact ⟨exec_refused rfl fun u => (if_neg hcount).trans (if_pos hout), exec_refused rfl fun u => if_pos hout,
      exec_refused rfl fun u => if_pos hout, exec_refused rfl fun u => if_pos hout, fun _ h => absurd h List.not_mem_nil⟩

end Sys2Proof.Machine
end

section
/-! Commands spelled as frames and read back: O12 (R160, R168, R177 to R181). -/

namespace Sys2Proof.Machine

variable {dst src kind tag own n : Nat} {payload : List Byte}

/-! ## Bytes and fields -/

theorem toNat_u8_mod (n : Nat) : (u8 n).toNat = n % 256 := BitVec.toNat_ofNat n 8

theorem byteOk_iff : byteOk n = true ↔ n < 256 := decide_eq_true_iff

theorem wordOk_iff : wordOk n = true ↔ n < 65536 := decide_eq_true_iff

/-- A one-byte field as it is read. -/
theorem byte_read (h : byteOk n = true) : n % 256 = n := Nat.mod_eq_of_lt (byteOk_iff.mp h)

/-- A two-byte field as it is read. -/
theorem word_read (h : wordOk n = true) : n / 256 % 256 * 256 + n % 256 = n := by
  have := wordOk_iff.mp h
  omega

theorem byteValues_append (a b : List Byte) : byteValues (a ++ b) = byteValues a ++ byteValues b := List.map_append

theorem byteValues_length (a : List Byte) : (byteValues a).length = a.length := List.length_map _

theorem field8_byteValues (a : List Byte) (i : Nat) : field8 (byteValues a) i = (a.getD i 0).toNat := by
  simp only [field8, byteValues, List.getD_eq_getElem?_getD, List.getElem?_map]
  cases a[i]? <;> rfl

theorem field16_byteValues (a : List Byte) (i : Nat) :
    field16 (byteValues a) i = (a.getD i 0).toNat * 256 + (a.getD (i + 1) 0).toNat := by
  rw [← field8_byteValues, ← field8_byteValues]
  rfl

/-! ## Records -/

theorem limitsOfBody_bytes {r : LimitsRecord} (h : r.wf = true) : limitsOfBody (byteValues r.bytes) = r := by
  simp only [LimitsRecord.wf, Bool.and_eq_true, and_assoc] at h
  obtain ⟨h1, h2, h3, h4, h5, h6, h7⟩ := h
  calc limitsOfBody (byteValues r.bytes)
    _ = ⟨r.stuckOn / 256 % 256 * 256 + r.stuckOn % 256, r.chatter % 256, r.timeout % 256,
        r.floor / 256 % 256 * 256 + r.floor % 256, r.fail % 256, r.recovery % 256, r.hold % 256⟩ := rfl
    _ = r := by
      rw [word_read h1, byte_read h2, byte_read h3, word_read h4, byte_read h5, byte_read h6, byte_read h7]

/-- R181: the numbers that the 38 bytes of a plan record carry. -/
theorem byteValues_planRecord (r : PlanRecord) : byteValues r.bytes = [
      r.rMin / 256 % 256, r.rMin % 256, r.rMax / 256 % 256, r.rMax % 256, r.rInit / 256 % 256, r.rInit % 256,
      r.target / 256 % 256, r.target % 256, r.gain % 256, r.capacity / 256 % 256, r.capacity % 256,
      r.stepLimit / 256 % 256, r.stepLimit % 256, r.queueThreshold / 256 % 256, r.queueThreshold % 256,
      r.queueBoost / 256 % 256, r.queueBoost % 256, r.occCeiling / 256 % 256, r.occCeiling % 256,
      r.flowCeiling / 256 % 256, r.flowCeiling % 256, r.weight % 256, r.green % 256, r.amber % 256, r.minRed % 256,
      r.grace % 256, r.size % 256, r.rounding % 256, r.gating % 256, r.leveling % 256, r.starvationLimit % 256,
      r.spillTime % 256, r.flushPeriod / 256 % 256, r.flushPeriod % 256, r.fallbackPeriod / 256 % 256,
      r.fallbackPeriod % 256, r.recoveryIntervals % 256, r.mask % 256] := by
  simp only [PlanRecord.bytes, byteValues, u16, List.map_cons, List.map_nil, List.cons_append,
    List.nil_append, toNat_u8_mod]

theorem planOfBody_bytes {r : PlanRecord} (h : r.wf = true) : planOfBody (byteValues r.bytes) = r := by
  simp only [PlanRecord.wf, Bool.and_eq_true, and_assoc] at h
  obtain ⟨h1, h2, h3, h4, h5, h6, h7, h8, h9, h10, h11, h12, h13, h14, h15, h16, h17, h18, h19, h20, h21, h22, h23, h24,
    h25, h26⟩ := h
  rw [byteValues_planRecord]
  simp only [planOfBody, field16, field8, List.getD_cons_zero, List.getD_cons_succ, word_read h1, word_read h2,
    word_read h3, word_read h4, byte_read h5, word_read h6, word_read h7, word_read h8, word_read h9, word_read h10,
    word_read h11, byte_read h12, byte_read h13, byte_read h14, byte_read h15, byte_read h16, byte_read h17,
    byte_read h18, byte_read h19, byte_read h20, byte_read h21, byte_read h22, word_read h23, word_read h24,
    byte_read h25, byte_read h26]

/-- A lane sub-record as it is read. -/
theorem laneRecord_read {r : LaneRecord} (h : r.wf = true) :
    (⟨r.driver % 256, r.output % 256, r.demand % 256, r.sense % 256, r.passage % 256, r.edge % 256⟩ : LaneRecord) = r := by
  simp only [LaneRecord.wf, Bool.and_eq_true, and_assoc] at h
  obtain ⟨h1, h2, h3, h4, h5, h6⟩ := h
  rw [byte_read h1, byte_read h2, byte_read h3, byte_read h4, byte_read h5, byte_read h6]

theorem configOfBody_bytes {r : ConfigRecord} (h : r.wf = true) : configOfBody (byteValues r.bytes) = r := by
  simp only [ConfigRecord.wf, Bool.and_eq_true, and_assoc] at h
  obtain ⟨h1, h2, h3, h4, h5, h6, h7, h8, h9, h10⟩ := h
  calc configOfBody (byteValues r.bytes)
    _ = ⟨r.lanesUsed % 256, r.interval % 256, r.offAspect % 256, r.holdMode % 256, r.headTimeout % 256, r.warning % 256,
        r.clear % 256,
        ⟨r.lane0.driver % 256, r.lane0.output % 256, r.lane0.demand % 256, r.lane0.sense % 256, r.lane0.passage % 256,
          r.lane0.edge % 256⟩,
        ⟨r.lane1.driver % 256, r.lane1.output % 256, r.lane1.demand % 256, r.lane1.sense % 256, r.lane1.passage % 256,
          r.lane1.edge % 256⟩,
        ⟨r.lane2.driver % 256, r.lane2.output % 256, r.lane2.demand % 256, r.lane2.sense % 256, r.lane2.passage % 256,
          r.lane2.edge % 256⟩⟩ := rfl
    _ = r := by
      rw [byte_read h1, byte_read h2, byte_read h3, byte_read h4, byte_read h5, byte_read h6, byte_read h7,
        laneRecord_read h8, laneRecord_read h9, laneRecord_read h10]

theorem contextOfBody_bytes {r : ContextRecord} (h : r.wf = true) : contextOfBody (byteValues r.bytes) = r := by
  simp only [ContextRecord.wf, Bool.and_eq_true, and_assoc] at h
  obtain ⟨h1, h2, h3, h4, h5, h6, h7, h8, h9, h10, h11, h12, h13, h14, h15, h16, h17, h18, h19, h20, h21, h22⟩ := h
  calc contextOfBody (byteValues r.bytes)
    _ = ⟨r.rPrev / 256 % 256 * 256 + r.rPrev % 256, r.stagedPeriod / 256 % 256 * 256 + r.stagedPeriod % 256,
        r.stagedMark % 256, r.activePeriod / 256 % 256 * 256 + r.activePeriod % 256, r.bits % 256, r.sticky % 256,
        r.last % 256, r.recovery % 256, r.stackCount % 256, r.stack0 % 256, r.stack1 % 256, r.stack2 % 256,
        r.stack3 % 256, r.reduction / 256 % 256 * 256 + r.reduction % 256, r.lifetime % 256, r.wait0 % 256,
        r.wait1 % 256, r.wait2 % 256, r.starvation0 % 256, r.starvation1 % 256, r.starvation2 % 256,
        r.pointer % 256⟩ := rfl
    _ = r := by
      rw [word_read h1, word_read h2, byte_read h3, word_read h4, byte_read h5, byte_read h6, byte_read h7, byte_read h8,
        byte_read h9, byte_read h10, byte_read h11, byte_read h12, byte_read h13, word_read h14, byte_read h15,
        byte_read h16, byte_read h17, byte_read h18, byte_read h19, byte_read h20, byte_read h21, byte_read h22]

/-! ## Lists of records -/

theorem entryRecords_bytes {entries : List EntryRecord} (h : ∀ r ∈ entries, r.wf = true) :
    entryRecords (byteValues (entries.flatMap EntryRecord.bytes)) = entries := by
  induction entries with
  | nil => rfl
  | cons r rest ih =>
    obtain ⟨hr, hrest⟩ := List.forall_mem_cons.mp h
    simp only [EntryRecord.wf, Bool.and_eq_true, and_assoc] at hr
    obtain ⟨h1, h2, h3, h4, h5, h6, h7⟩ := hr
    rw [List.flatMap_cons, byteValues_append]
    have hr : entryRecords (byteValues r.bytes ++ byteValues (rest.flatMap EntryRecord.bytes)) =
        ⟨r.flags % 256, r.station % 256, r.channel % 256, r.role % 256, r.ramp % 256, r.substitute % 256,
          r.scale % 256⟩ :: entryRecords (byteValues (rest.flatMap EntryRecord.bytes)) := rfl
    rw [hr, ih hrest, byte_read h1, byte_read h2, byte_read h3, byte_read h4, byte_read h5, byte_read h6, byte_read h7]

/-- R179: the bytes of a channel record. -/
def scanBytes (r : ScanRecord) : List Byte := [u8 r.channel, u8 r.presence, u8 r.arrivals, u8 (r.onTime / 256), u8 r.onTime]

theorem scanRecords_bytes {records : List ScanRecord} (h : ∀ r ∈ records, r.wf = true) :
    scanRecords (byteValues (records.flatMap scanBytes)) = records := by
  induction records with
  | nil => rfl
  | cons r rest ih =>
    obtain ⟨hr, hrest⟩ := List.forall_mem_cons.mp h
    simp only [ScanRecord.wf, Bool.and_eq_true, and_assoc] at hr
    obtain ⟨h1, h2, h3, h4⟩ := hr
    rw [List.flatMap_cons, byteValues_append]
    have hr : scanRecords (byteValues (scanBytes r) ++ byteValues (rest.flatMap scanBytes)) =
        ⟨r.channel % 256, r.presence % 256, r.arrivals % 256, r.onTime / 256 % 256 * 256 + r.onTime % 256⟩ ::
          scanRecords (byteValues (rest.flatMap scanBytes)) := rfl
    rw [hr, ih hrest, byte_read h1, byte_read h2, byte_read h3, word_read h4]

/-- R179: the bytes of an output record. -/
def statusBytes (r : StatusRecord) : List Byte := [u8 r.output, u8 r.aspect, u8 r.lamps]

theorem statusRecords_bytes {records : List StatusRecord} (h : ∀ r ∈ records, r.wf = true) :
    statusRecords (byteValues (records.flatMap statusBytes)) = records := by
  induction records with
  | nil => rfl
  | cons r rest ih =>
    obtain ⟨hr, hrest⟩ := List.forall_mem_cons.mp h
    simp only [StatusRecord.wf, Bool.and_eq_true, and_assoc] at hr
    obtain ⟨h1, h2, h3⟩ := hr
    rw [List.flatMap_cons, byteValues_append]
    have hr : statusRecords (byteValues (statusBytes r) ++ byteValues (rest.flatMap statusBytes)) =
        ⟨r.output % 256, r.aspect % 256, r.lamps % 256⟩ :: statusRecords (byteValues (rest.flatMap statusBytes)) := rfl
    rw [hr, ih hrest, byte_read h1, byte_read h2, byte_read h3]

/-! ## Frames handed on -/

/-- R160: a SCAN frame. -/
theorem handOn_scan (hs : src < 256) (hp : payload.length ≤ 56) :
    handOn own (mkFrame dst src Config.kindScan tag payload) = some (scanCommand src payload) := by
  have hk : frameKind (mkFrame dst src Config.kindScan tag payload) = Config.kindScan := frameKind_mkFrame (by decide)
  rw [handOn, if_pos hk, frameSrc_mkFrame hs, framePayload_mkFrame hp]

/-- R160: a REQUEST frame addressed to the part. -/
theorem handOn_request (ho : own < 256) (hs : src < 256) (ht : tag < 256) (hp : payload.length ≤ 56) :
    handOn own (mkFrame own src Config.kindRequest tag payload) = some (requestCommand src tag payload) := by
  have hk : frameKind (mkFrame own src Config.kindRequest tag payload) = Config.kindRequest := frameKind_mkFrame (by decide)
  have hscan : frameKind (mkFrame own src Config.kindRequest tag payload) ≠ Config.kindScan := by
    rw [hk]
    decide
  rw [handOn, if_neg hscan, if_neg (not_not.mpr (frameDst_mkFrame ho)), if_pos hk, frameSrc_mkFrame hs,
    frameTag_mkFrame ht, framePayload_mkFrame hp]

/-- R160: a HEAD STATUS frame addressed to the part. -/
theorem handOn_status (ho : own < 256) (hs : src < 256) (hp : payload.length ≤ 56) :
    handOn own (mkFrame own src Config.kindHeadStatus tag payload) = some (statusCommand own src payload) := by
  have hk : frameKind (mkFrame own src Config.kindHeadStatus tag payload) = Config.kindHeadStatus :=
    frameKind_mkFrame (by decide)
  have hscan : frameKind (mkFrame own src Config.kindHeadStatus tag payload) ≠ Config.kindScan := by
    rw [hk]
    decide
  have hrequest : frameKind (mkFrame own src Config.kindHeadStatus tag payload) ≠ Config.kindRequest := by
    rw [hk]
    decide
  rw [handOn, if_neg hscan, if_neg (not_not.mpr (frameDst_mkFrame ho)), if_neg hrequest, if_pos hk, frameSrc_mkFrame hs,
    frameDst_mkFrame ho, framePayload_mkFrame hp]

end Sys2Proof.Machine
end

section
/-! Request commands, scan frames and head status frames spelled and read back: O12 (R160, R168, R177 to R181). -/

namespace Sys2Proof.Machine

variable {dst src kind tag own code : Nat} {payload body : List Byte} {q : Request} {i : Instr}

/-! ## Requests -/

/-- R168, R180: a request whose body has its code's length is the command that the code names. -/
theorem requestCommand_eq (hc : code < 256) (hq : q.subject < 256)
    (hb : bodyLength code (byteValues body) = some body.length)
    (hi : requestOfCode code q (byteValues body) = some i) :
    requestCommand q.src q.tag (u8 code :: u8 q.subject :: body) = i := by
  have hbytes : byteValues (u8 code :: u8 q.subject :: body) = code :: q.subject :: byteValues body := by
    simp only [byteValues, List.map_cons, toNat_u8 hc, toNat_u8 hq]
  have hformat : ¬formatFault (u8 code :: u8 q.subject :: body) = true := by
    simp only [formatFault, hbytes, byteValues_length, hb]
    simp
  rw [requestCommand, if_neg hformat]
  simp only [hbytes]
  exact congrArg (fun o => o.getD (.requestFormatReject q.src q.tag (u8 code :: u8 q.subject :: body))) hi

theorem length_entryBytes (entries : List EntryRecord) : (entries.flatMap EntryRecord.bytes).length = 7 * entries.length := by
  rw [length_flatMap_of_const (m := 7) entries fun _ _ => rfl, Nat.mul_comm]

theorem length_scanBytes (records : List ScanRecord) : (records.flatMap scanBytes).length = 5 * records.length := by
  rw [length_flatMap_of_const (m := 5) records fun _ _ => rfl, Nat.mul_comm]

theorem length_statusBytes (records : List StatusRecord) : (records.flatMap statusBytes).length = 3 * records.length := by
  rw [length_flatMap_of_const (m := 3) records fun _ _ => rfl, Nat.mul_comm]

/-- R172, R181: a DETECTOR WRITE of 1-4 entries reads back. -/
theorem detectorWrite_spells {entries : List EntryRecord} (h1 : 1 ≤ entries.length) (h4 : entries.length ≤ 4)
    (hw : ∀ r ∈ entries, r.wf = true) :
    let body := u8 entries.length :: entries.flatMap EntryRecord.bytes
    body.length ≤ 54 ∧ bodyLength 0x10 (byteValues body) = some body.length ∧
    requestOfCode 0x10 q (byteValues body) = some (.detectorWrite q entries) := by
  have hcount : (u8 entries.length).toNat = entries.length := toNat_u8 (by omega)
  have hlen : (u8 entries.length :: entries.flatMap EntryRecord.bytes).length = 1 + 7 * entries.length := by
    rw [List.length_cons, length_entryBytes, Nat.add_comm]
  have hfield : field8 (byteValues (u8 entries.length :: entries.flatMap EntryRecord.bytes)) 0 = entries.length := hcount
  refine ⟨by omega, ?_, ?_⟩
  · have h : bodyLength 0x10 (byteValues (u8 entries.length :: entries.flatMap EntryRecord.bytes)) =
        if 1 ≤ field8 (byteValues (u8 entries.length :: entries.flatMap EntryRecord.bytes)) 0 ∧
            field8 (byteValues (u8 entries.length :: entries.flatMap EntryRecord.bytes)) 0 ≤ 4 then
          some (1 + 7 * field8 (byteValues (u8 entries.length :: entries.flatMap EntryRecord.bytes)) 0) else none := rfl
    rw [h, hfield, if_pos ⟨h1, h4⟩, hlen]
  · exact congrArg (fun l => some (Instr.detectorWrite q l)) (entryRecords_bytes hw)

theorem length_planBytes (r : PlanRecord) : r.bytes.length = 38 := by
  rw [← byteValues_length, byteValues_planRecord]
  rfl

/-- R39, R181: a PLAN WRITE reads back. -/
theorem planWrite_spells {r : PlanRecord} (h : r.wf = true) :
    r.bytes.length ≤ 54 ∧ bodyLength 0x20 (byteValues r.bytes) = some r.bytes.length ∧
    requestOfCode 0x20 q (byteValues r.bytes) = some (.planWrite q r) := by
  rw [length_planBytes]
  exact ⟨by decide, rfl, congrArg (fun r => some (Instr.planWrite q r)) (planOfBody_bytes h)⟩

/-- R180: the code and body of a request command spell it. -/
theorem Instr.request_spells (hw : i.wf = true) (h : i.request = some (q, code, body)) :
    q.wf = true ∧ code < 256 ∧ body.length ≤ 54 ∧ bodyLength code (byteValues body) = some body.length ∧
    requestOfCode code q (byteValues body) = some i := by
  cases i with
  | identify | siteRead | healthLimitsRead | forceOut | restore | planRead | pop | rampConfigRead | start | stop | hold
  | release | resume | statusRead | statusClear | contextDump | ringStatus | ringReset =>
    cases h
    exact ⟨hw, by decide, by decide, rfl, rfl⟩
  | siteWrite q' rec =>
    cases h
    simp only [Instr.wf, SiteRecord.wf, Bool.and_eq_true, and_assoc] at hw
    obtain ⟨hq, h1, h2, h3⟩ := hw
    refine ⟨hq, by decide, show 3 ≤ 54 by decide, rfl, ?_⟩
    calc requestOfCode 0x02 q (byteValues rec.bytes)
      _ = some (.siteWrite q ⟨rec.report % 256, rec.refresh % 256, rec.confirm % 256⟩) := rfl
      _ = _ := by rw [byte_read h1, byte_read h2, byte_read h3]
  | healthLimitsWrite q' rec =>
    cases h
    obtain ⟨hq, hr⟩ := (Bool.and_eq_true _ _).mp hw
    exact ⟨hq, by decide, show 9 ≤ 54 by decide, rfl, congrArg (fun r => some (Instr.healthLimitsWrite q r)) (limitsOfBody_bytes hr)⟩
  | detectorWrite q' entries =>
    cases h
    simp only [Instr.wf, Bool.and_eq_true, and_assoc, decide_eq_true_eq, List.all_eq_true] at hw
    obtain ⟨hq, h1, h4, hr⟩ := hw
    exact ⟨hq, by decide, detectorWrite_spells h1 h4 hr⟩
  | detectorRead q' count view =>
    cases h
    simp only [Instr.wf, Bool.and_eq_true, and_assoc] at hw
    obtain ⟨hq, h1, h2⟩ := hw
    refine ⟨hq, by decide, Nat.le_add_left 2 _, rfl, ?_⟩
    calc requestOfCode 0x11 q (byteValues [u8 count, u8 view])
      _ = some (.detectorRead q (count % 256) (view % 256)) := rfl
      _ = _ := by rw [byte_read h1, byte_read h2]
  | planWrite q' rec =>
    cases h
    obtain ⟨hq, hr⟩ := (Bool.and_eq_true _ _).mp hw
    exact ⟨hq, by decide, planWrite_spells hr⟩
  | push q' plan =>
    cases h
    obtain ⟨hq, hp⟩ := (Bool.and_eq_true _ _).mp hw
    exact ⟨hq, by decide, Nat.le_add_left 1 _, rfl, congrArg (fun n => some (Instr.push q n)) (byte_read hp)⟩
  | setBase q' plan =>
    cases h
    obtain ⟨hq, hp⟩ := (Bool.and_eq_true _ _).mp hw
    exact ⟨hq, by decide, Nat.le_add_left 1 _, rfl, congrArg (fun n => some (Instr.setBase q n)) (byte_read hp)⟩
  | rampConfigWrite q' rec =>
    cases h
    obtain ⟨hq, hr⟩ := (Bool.and_eq_true _ _).mp hw
    exact ⟨hq, by decide, show 25 ≤ 54 by decide, rfl, congrArg (fun r => some (Instr.rampConfigWrite q r)) (configOfBody_bytes hr)⟩
  | laneClose q' lane =>
    cases h
    obtain ⟨hq, hl⟩ := (Bool.and_eq_true _ _).mp hw
    exact ⟨hq, by decide, Nat.le_add_left 1 _, rfl, congrArg (fun n => some (Instr.laneClose q n)) (byte_read hl)⟩
  | laneOpen q' lane =>
    cases h
    obtain ⟨hq, hl⟩ := (Bool.and_eq_true _ _).mp hw
    exact ⟨hq, by decide, Nat.le_add_left 1 _, rfl, congrArg (fun n => some (Instr.laneOpen q n)) (byte_read hl)⟩
  | share q' reduction lifetime =>
    cases h
    simp only [Instr.wf, Bool.and_eq_true, and_assoc] at hw
    obtain ⟨hq, h1, h2⟩ := hw
    refine ⟨hq, by decide, Nat.le_add_left 3 _, rfl, ?_⟩
    calc requestOfCode 0x39 q (byteValues (u16 reduction ++ [u8 lifetime]))
      _ = some (.share q (reduction / 256 % 256 * 256 + reduction % 256) (lifetime % 256)) := rfl
      _ = _ := by rw [word_read h1, byte_read h2]
  | contextLoad q' rec =>
    cases h
    obtain ⟨hq, hr⟩ := (Bool.and_eq_true _ _).mp hw
    exact ⟨hq, by decide, show 26 ≤ 54 by decide, rfl, congrArg (fun r => some (Instr.contextLoad q r)) (contextOfBody_bytes hr)⟩
  | _ => cases h

/-- R160, R168: the REQUEST frame of a request command hands on exactly that command. -/
theorem requestFrame_spells {f : Frame} (ho : nodeOk own = true) (hw : i.wf = true) (hf : i.requestFrame own = some f) :
    frameAccepted f = true ∧ handOn own f = some i := by
  obtain ⟨⟨q, code, body⟩, hr, rfl⟩ := Option.map_eq_some_iff.mp hf
  obtain ⟨hq, hc, hlen, hb, hi⟩ := Instr.request_spells hw hr
  simp only [Request.wf, Bool.and_eq_true, byteOk_iff] at hq
  obtain ⟨⟨hsrc, htag⟩, hsub⟩ := hq
  obtain ⟨ho1, ho2⟩ := nodeOk_iff.mp ho
  obtain ⟨hs1, hs2⟩ := nodeOk_iff.mp hsrc
  have hp : (u8 code :: u8 q.subject :: body).length ≤ 56 := by
    simp only [List.length_cons]
    omega
  refine ⟨(mkFrame_spec ho1 (by omega) hsrc (by decide) htag hp).1, ?_⟩
  dsimp only
  rw [handOn_request (by omega) (by omega) htag hp, requestCommand_eq hc hsub hb hi]

/-! ## Scan frames and head status frames -/

/-- R179: the payload of a scan frame reads back. -/
theorem scanCommand_spells {span count : Nat} {records : List ScanRecord} (hspan : wordOk span = true)
    (hcount : byteOk count = true) (hr : ∀ r ∈ records, r.wf = true) (hlen : records.length = count) :
    scanCommand src ([u8 (span / 256), u8 span, u8 count] ++ records.flatMap scanBytes) =
      .scanFrame src span count records := by
  have hn : (records.flatMap scanBytes).length = 5 * count := by
    rw [length_scanBytes, hlen]
  have hbytes : byteValues ([u8 (span / 256), u8 span, u8 count] ++ records.flatMap scanBytes) =
      [span / 256 % 256, span % 256, count % 256] ++ byteValues (records.flatMap scanBytes) := by
    rw [byteValues_append]
    rfl
  have hspan' : field16 ([span / 256 % 256, span % 256, count % 256] ++ byteValues (records.flatMap scanBytes)) 0 = span :=
    word_read hspan
  have hcount' : field8 ([span / 256 % 256, span % 256, count % 256] ++ byteValues (records.flatMap scanBytes)) 2 = count :=
    byte_read hcount
  have htotal : ([span / 256 % 256, span % 256, count % 256] ++ byteValues (records.flatMap scanBytes)).length =
      3 + 5 * count := by
    rw [List.length_append, byteValues_length, hn]
    rfl
  simp only [scanCommand, hbytes, hspan', hcount']
  rw [if_pos htotal]
  exact congrArg (Instr.scanFrame src span count) (scanRecords_bytes hr)

/-- R179: the payload of a head status frame reads back. -/
theorem statusCommand_spells {count : Nat} {records : List StatusRecord} (hcount : byteOk count = true)
    (hr : ∀ r ∈ records, r.wf = true) (hlen : records.length = count) :
    statusCommand dst src (u8 count :: records.flatMap statusBytes) = .headStatus dst src count records := by
  have hn : (records.flatMap statusBytes).length = 3 * count := by
    rw [length_statusBytes, hlen]
  have hcount' : field8 (byteValues (u8 count :: records.flatMap statusBytes)) 0 = count := byte_read hcount
  have htotal : (byteValues (u8 count :: records.flatMap statusBytes)).length = 1 + 3 * count := by
    rw [byteValues_length, List.length_cons, hn, Nat.add_comm]
  simp only [statusCommand, hcount']
  rw [if_pos htotal]
  exact congrArg (Instr.headStatus dst src count) (statusRecords_bytes hr)

/-- R177: a payload whose length disagrees with its record count hands on no record. -/
theorem scanCommand_disagrees (h : payload.length ≠ 3 + 5 * (payload.getD 2 0).toNat) :
    scanCommand src payload =
      .scanFrame src ((payload.getD 0 0).toNat * 256 + (payload.getD 1 0).toNat) (payload.getD 2 0).toNat [] := by
  simp only [scanCommand, field16_byteValues, field8_byteValues, byteValues_length]
  rw [if_neg h]

theorem statusCommand_disagrees (h : payload.length ≠ 1 + 3 * (payload.getD 0 0).toNat) :
    statusCommand dst src payload = .headStatus dst src (payload.getD 0 0).toNat [] := by
  simp only [statusCommand, field8_byteValues, byteValues_length]
  rw [if_neg h]

/-- Settles O12. -/
theorem requestFramesSpellTheirCommands : Obligations.RequestFramesSpellTheirCommands := by
  refine ⟨fun own i f ho hw hf => requestFrame_spells ho hw hf, fun own dst tag src span count records hd hd' ht hw hlen => ?_,
    fun own tag src count records ho ht hw hlen => ?_, fun own dst src tag payload ho hd hd' hs ht hp => ⟨fun h => ?_, fun h => ?_⟩⟩
  · simp only [Instr.wf, Bool.and_eq_true, and_assoc, decide_eq_true_eq, List.all_eq_true] at hw
    obtain ⟨hs, hspan, hcount, hten, hr⟩ := hw
    obtain ⟨hs1, hs2⟩ := nodeOk_iff.mp hs
    have hp : ([u8 (span / 256), u8 span, u8 count] ++ records.flatMap scanBytes).length ≤ 56 := by
      rw [List.length_append, length_scanBytes]
      change 3 + 5 * records.length ≤ 56
      omega
    exact ⟨(mkFrame_spec hd hd' hs (by decide) ht hp).1,
      (handOn_scan (by omega) hp).trans (congrArg some (scanCommand_spells hspan hcount hr hlen))⟩
  · simp only [Instr.wf, Bool.and_eq_true, and_assoc, decide_eq_true_eq, List.all_eq_true] at hw
    obtain ⟨-, hs, hcount, hmany, hr⟩ := hw
    obtain ⟨hs1, hs2⟩ := nodeOk_iff.mp hs
    obtain ⟨ho1, ho2⟩ := nodeOk_iff.mp ho
    have hp : (u8 count :: records.flatMap statusBytes).length ≤ 56 := by
      rw [List.length_cons, length_statusBytes]
      omega
    exact ⟨(mkFrame_spec ho1 (by omega) hs (by decide) ht hp).1,
      (handOn_status (by omega) (by omega) hp).trans (congrArg some (statusCommand_spells hcount hr hlen))⟩
  · obtain ⟨hs1, hs2⟩ := nodeOk_iff.mp hs
    exact (handOn_scan (by omega) hp).trans (congrArg some (scanCommand_disagrees h))
  · obtain ⟨hs1, hs2⟩ := nodeOk_iff.mp hs
    obtain ⟨ho1, ho2⟩ := nodeOk_iff.mp ho
    exact (handOn_status (by omega) (by omega) hp).trans (congrArg some (statusCommand_disagrees h))

end Sys2Proof.Machine
end

section
/-! Lanes disabled and heads judged, ramp by ramp (R113, R143, R152, R154): the state in which some ramps have become others,
the entries of those that went DARK with their accumulators cleared. -/

namespace Sys2Proof.Machine

variable {s t u : State} {k : Fin 4} {r r' r'' : Ramp} {R : Fin 4 → Ramp}

/-! ## A disabled lane -/

/-- R154, R143: a lane disabled, in closed form. -/
theorem Ramp.disabling_one (r : Ramp) (l : Fin 3) (cause : DisableCause) :
    (r.updHead l (fun h => { h with disabled := some cause })).laneDisabled l = r.disabling [l] cause := by
  have hheads : (r.updHead l (fun h => { h with disabled := some cause })).heads = Three.tabulate (fun j =>
      if j ∈ [l] then (r.head j).map (fun h => { h with disabled := some cause }) else r.head j) := by
    refine Three.ext_get fun j => ?_
    rw [Three.get_tabulate]
    by_cases hj : j = l
    · subst hj
      simp [Ramp.updHead, Ramp.head]
    · simp [Ramp.updHead, Ramp.head, hj]
  by_cases hoff : (r.lane l).cycle = .off
  · have hnone : [l].filter (fun j => decide ((r.lane j).cycle ≠ .off)) = [] := by simp [hoff]
    rw [Ramp.disabling, hnone, Ramp.onLanes_nil, Ramp.laneDisabled, Ramp.lane_updHead, if_pos hoff, ← hheads]
    rfl
  · have hsome : [l].filter (fun j => decide ((r.lane j).cycle ≠ .off)) = [l] := by simp [hoff]
    have hlane : (r.laneOff l).updLane l (fun x => { x with starvation := 0 }) =
        r.onLanes [l] (fun x => { x.wentOff with starvation := 0 }) := by
      rw [Ramp.laneOff_eq, Ramp.onLanes_of_off rfl, Ramp.onLanes_of_off rfl]
      have hcomm : ∀ x : Ramp, (x.leaveWait l).updLane l (fun x => { x with starvation := 0 }) =
          (x.updLane l (fun x => { x with starvation := 0 })).leaveWait l := fun _ => rfl
      rw [hcomm, Ramp.updLane_updLane]
    rw [Ramp.disabling, hsome, ← hlane, Ramp.laneDisabled, Ramp.lane_updHead, if_neg hoff, ← hheads]
    rfl

/-! ## What the passes of a status frame keep of a ramp -/

/-- R113, R152: `r'` is `r` with its record, its stack and its heads, in the same state with the same hold sources, or gone
DARK without them. -/
structure Ramp.Judged (r r' : Ramp) : Prop where
  stack : r'.stack = r.stack
  config : r'.config = r.config
  heads : ∀ l, (r'.head l).isSome = (r.head l).isSome
  change : (r'.state = r.state ∧ r'.requestHold = r.requestHold ∧ r'.inputHold = r.inputHold) ∨
    (r'.state = .dark ∧ r'.requestHold = false ∧ r'.inputHold = false)

theorem Ramp.Judged.refl (r : Ramp) : r.Judged r := ⟨rfl, rfl, fun _ => rfl, .inl ⟨rfl, rfl, rfl⟩⟩

theorem Ramp.Judged.trans (h : r.Judged r') (h' : r'.Judged r'') : r.Judged r'' := by
  refine ⟨h'.stack.trans h.stack, h'.config.trans h.config, fun l => (h'.heads l).trans (h.heads l), ?_⟩
  rcases h'.change with ⟨h1, h2, h3⟩ | hdark
  · rw [h1, h2, h3]
    exact h.change
  · exact .inr hdark

theorem Ramp.Judged.state (h : r.Judged r') : r'.state = r.state ∨ r'.state = .dark :=
  h.change.imp (fun h => h.1) fun h => h.1

/-- A change of lanes, clock, pointer, wait order and head records. -/
theorem Ramp.Judged.of_heads {c : Clock} {p : Fin 3} {w : List (Fin 3)} {lanes : Three Lane} {heads : Three (Option Head)}
    (h : ∀ l, (heads.get l).isSome = (r.head l).isSome) :
    r.Judged { r with clock := c, pointer := p, waitOrder := w, lanes := lanes, heads := heads } :=
  ⟨rfl, rfl, h, .inl ⟨rfl, rfl, rfl⟩⟩

theorem Ramp.judged_updHead (r : Ramp) (l : Fin 3) (f : Head → Head) : r.Judged (r.updHead l f) :=
  .of_heads fun j => by
    rw [Three.get_set]
    split
    · rename_i hj
      subst hj
      rw [Option.isSome_map]
      rfl
    · rfl

theorem Ramp.judged_disabling (r : Ramp) (which : List (Fin 3)) (cause : DisableCause) : r.Judged (r.disabling which cause) :=
  .of_heads fun j => by
    rw [Three.get_tabulate]
    split
    · rw [Option.isSome_map]
    · rfl

theorem Ramp.judged_darkening (r : Ramp) : r.Judged r.darkening :=
  ⟨rfl, rfl, fun l => by simp only [Ramp.darkening, Ramp.head, Three.get_tabulate, Option.isSome_map],
    .inr ⟨rfl, rfl, rfl⟩⟩

theorem Ramp.judged_disablingOne (r : Ramp) (l : Fin 3) (cause : DisableCause) : r.Judged (r.disablingOne l cause) := by
  simp only [Ramp.disablingOne]
  split
  · exact .refl r
  · split
    · exact (r.judged_disabling _ _).trans (Ramp.judged_darkening _)
    · exact r.judged_disabling _ _

theorem Ramp.judged_pick (r : Ramp) (p : Plan) : r.Judged (r.pick p) := by
  simp only [Ramp.pick]
  split
  · split
    · exact .of_heads fun _ => rfl
    · exact .of_heads fun _ => rfl
  · exact .refl r

/-! ## Some ramps become others -/

/-- R15, R113: `u` with its ramps become those of `R`; the entries of the ramps that went DARK lose their accumulators. -/
def State.staged (u : State) (R : Fin 4 → Ramp) : State :=
  { u with
    ramps := Four.tabulate R
    detectors := u.detectors.map (fun _ d =>
      if (R d.config.ramp).state = (u.ramp d.config.ramp).state then d
      else { d with arrivals := 0, onTime := 0, span := 0 }) }

theorem State.ramp_staged (u : State) (R : Fin 4 → Ramp) (k : Fin 4) : (u.staged R).ramp k = R k := Four.get_tabulate R k

theorem Table.map_id_of {α : Type} {f : Nat → α → α} (h : ∀ i x, f i x = x) (t : Table α) : t.map f = t := by
  have hf : (fun p : Nat × α => (p.1, f p.1 p.2)) = id := funext fun p => by rw [h]; rfl
  rw [Table.map, hf, List.map_id]

theorem Table.map_map {α : Type} (f g : Nat → α → α) (t : Table α) :
    (t.map f).map g = t.map (fun i x => g i (f i x)) := by
  simp only [Table.map, List.map_map]
  rfl

theorem State.staged_self (u : State) : u.staged u.ramp = u := by
  have hr : Four.tabulate u.ramp = u.ramps := Four.ext_get fun k => Four.get_tabulate _ k
  have hd : ∀ (_ : Nat) (d : Detector), (if (u.ramp d.config.ramp).state = (u.ramp d.config.ramp).state then d
      else { d with arrivals := 0, onTime := 0, span := 0 }) = d := fun _ d => if_pos rfl
  rw [State.staged, hr, Table.map_id_of hd]

/-- A ramp that stays in its state. -/
theorem State.staged_updRamp {f : Ramp → Ramp} (hf : (f (R k)).state = (R k).state) :
    (u.staged R).updRamp k f = u.staged (Function.update R k (f (R k))) := by
  have hstate : ∀ j, (Function.update R k (f (R k)) j).state = (R j).state := fun j => by
    by_cases hj : j = k
    · subst hj
      rw [Function.update_self, hf]
    · rw [Function.update_of_ne hj]
  have hramps : (Four.tabulate R).set k (f (R k)) = Four.tabulate (Function.update R k (f (R k))) := by
    refine Four.ext_get fun j => ?_
    rw [Four.get_set, Four.get_tabulate, Four.get_tabulate]
    by_cases hj : j = k
    · subst hj
      rw [if_pos rfl, Function.update_self]
    · rw [if_neg hj, Function.update_of_ne hj]
  rw [State.updRamp, State.ramp_staged, State.setRamp]
  simp only [State.staged, hstate, ← hramps]

/-- R112, R15: a ramp that is not DARK goes DARK. -/
theorem State.staged_enterDark (hR : (R k).state = (u.ramp k).state ∨ (R k).state = .dark) (hd : (R k).state ≠ .dark) :
    (u.staged R).enterDark k = u.staged (Function.update R k (R k).darkening) := by
  have hu : (u.ramp k).state ≠ .dark := (hR.resolve_right hd) ▸ hd
  have hramps : (Four.tabulate R).set k (R k).darkening = Four.tabulate (Function.update R k (R k).darkening) := by
    refine Four.ext_get fun j => ?_
    rw [Four.get_set, Four.get_tabulate, Four.get_tabulate]
    by_cases hj : j = k
    · subst hj
      rw [if_pos rfl, Function.update_self]
    · rw [if_neg hj, Function.update_of_ne hj]
  have hdet : ∀ d : Detector,
      (if (if (R d.config.ramp).state = (u.ramp d.config.ramp).state then d
          else { d with arrivals := 0, onTime := 0, span := 0 }).config.ramp = k then
        { (if (R d.config.ramp).state = (u.ramp d.config.ramp).state then d
          else { d with arrivals := 0, onTime := 0, span := 0 }) with arrivals := 0, onTime := 0, span := 0 }
      else (if (R d.config.ramp).state = (u.ramp d.config.ramp).state then d
          else { d with arrivals := 0, onTime := 0, span := 0 })) =
      if (Function.update R k (R k).darkening d.config.ramp).state = (u.ramp d.config.ramp).state then d
      else { d with arrivals := 0, onTime := 0, span := 0 } := fun d => by
    by_cases hk : d.config.ramp = k
    · have hne : ¬(Function.update R k (R k).darkening d.config.ramp).state = (u.ramp d.config.ramp).state := by
        rw [hk, Function.update_self]
        exact Ne.symm hu
      rw [if_neg hne, if_pos (by split <;> exact hk)]
      split <;> rfl
    · rw [Function.update_of_ne hk, if_neg (by split <;> exact hk)]
  rw [State.enterDark, State.updRamp, State.ramp_staged, Ramp.toDark_eq, State.setRamp, State.clearAccumulators]
  simp only [State.staged, hramps, Table.map_map, hdet]

/-- R154, R143, R113: a lane with a head is disabled, unless it is. -/
theorem State.staged_disableLane {l : Fin 3} (hR : (u.ramp k).Judged (R k)) (hh : ((R k).head l).isSome = true)
    (cause : DisableCause) :
    (u.staged R).disableLane k l cause = u.staged (Function.update R k ((R k).disablingOne l cause)) := by
  have hsome : ((R k).head l).isNone = false := by rw [Option.isNone_eq_false_iff]; exact hh
  simp only [State.disableLane, State.ramp_staged, hsome, Bool.or_false, Ramp.disablingOne, Ramp.disabling_one]
  by_cases hd : (R k).disabled l = true
  · rw [if_pos hd, if_pos hd, Function.update_eq_self]
  rw [if_neg hd, if_neg hd, State.staged_updRamp rfl]
  have hself : Function.update R k ((R k).disabling [l] cause) k = (R k).disabling [l] cause := Function.update_self ..
  simp only [State.noLaneTest, State.ramp_staged, hself]
  by_cases hdark : ((R k).disabling [l] cause).state ≠ .dark ∧ ((R k).disabling [l] cause).inService = false
  · have hj : (Function.update R k ((R k).disabling [l] cause) k).state = (u.ramp k).state ∨
        (Function.update R k ((R k).disabling [l] cause) k).state = .dark := by
      rw [hself]
      exact hR.state
    have hdark' : (R k).state ≠ .dark ∧ ((R k).disabling [l] cause).inService = false := hdark
    rw [if_pos hdark, if_pos hdark', State.staged_enterDark hj (by rw [hself]; exact hdark.1), hself,
      Function.update_idem]
  · have hdark' : ¬((R k).state ≠ .dark ∧ ((R k).disabling [l] cause).inService = false) := hdark
    rw [if_neg hdark, if_neg hdark']

/-! ## One ramp after the other -/

/-- Steps that each make one ramp of a state another: each ramp becomes what its own steps make of it. -/
theorem State.foldl_staged {ι : Type} {op : State → ι → State} {key : ι → Fin 4} {g : ι → Ramp → Ramp}
    (xs : List ι) (hop : ∀ x ∈ xs, ∀ R : Fin 4 → Ramp, (u.ramp (key x)).Judged (R (key x)) →
      op (u.staged R) x = u.staged (Function.update R (key x) (g x (R (key x)))))
    (hg : ∀ x r, (u.ramp (key x)).Judged r → r.Judged (g x r)) (R : Fin 4 → Ramp)
    (hR : ∀ k, (u.ramp k).Judged (R k)) :
    xs.foldl op (u.staged R) =
      u.staged (fun k => (xs.filter (fun x => decide (key x = k))).foldl (fun r x => g x r) (R k)) := by
  induction xs generalizing R with
  | nil => rfl
  | cons x rest ih =>
    have hnext : ∀ k, (u.ramp k).Judged (Function.update R (key x) (g x (R (key x))) k) := fun k => by
      by_cases hk : k = key x
      · subst hk
        rw [Function.update_self]
        exact (hR _).trans (hg x _ (hR _))
      · rw [Function.update_of_ne hk]
        exact hR k
    rw [List.foldl_cons, hop x List.mem_cons_self R (hR _), ih (fun y hy => hop y (List.mem_cons_of_mem x hy)) _ hnext]
    congr 1
    funext k
    by_cases hk : key x = k
    · subst hk
      rw [List.filter_cons_of_pos (by simp), List.foldl_cons, Function.update_self]
    · rw [List.filter_cons_of_neg (by simpa using hk), Function.update_of_ne (Ne.symm hk)]

theorem Ramp.judged_foldl {ι : Type} {g : ι → Ramp → Ramp} (xs : List ι) (hg : ∀ x ∈ xs, ∀ r', r.Judged r' → r'.Judged (g x r'))
    (h : r.Judged r') : r.Judged (xs.foldl (fun r x => g x r) r') := by
  induction xs generalizing r' with
  | nil => exact h
  | cons x rest ih =>
    rw [List.foldl_cons]
    exact ih (fun y hy => hg y (List.mem_cons_of_mem x hy)) (h.trans (hg x List.mem_cons_self _ h))

end Sys2Proof.Machine
end

section
/-! The end of an event that disabled lanes (R125, R147, R154, R155, R113): the waiting picks, the heads told, and the notices
of heads and ramps. -/

namespace Sys2Proof.Machine

variable {s t u w : State} {k : Fin 4} {r r' : Ramp} {R : Fin 4 → Ramp} {a b : List (Nat × List Byte)}

/-! ## Notices alone -/

/-- R176: from `s` to `t` these notices were offered, and nothing else changed. -/
def State.noticed (s t : State) (a : List (Nat × List Byte)) : Prop :=
  s.tells t a [] ∧ t = { s with normal := t.normal, normalDropped := t.normalDropped, sequence := t.sequence }

theorem State.noticed_refl (s : State) : s.noticed s [] := ⟨s.tells_nil, rfl⟩

theorem State.noticed.trans (h1 : s.noticed t a) (h2 : t.noticed w b) : s.noticed w (a ++ b) := by
  obtain ⟨n1, e1⟩ := h1
  obtain ⟨n2, e2⟩ := h2
  refine ⟨State.tells_trans n1 n2 (by rw [e1]) (by rw [e1]), ?_⟩
  rw [e1] at e2
  exact e2

theorem State.noticed.ramp (h : s.noticed t a) (j : Fin 4) : t.ramp j = s.ramp j := by
  rw [State.ramp, h.2]
  rfl

theorem State.offerSequenced_noticed (s : State) (kind : Nat) (payload : List Byte) :
    s.noticed (s.offerSequenced kind payload) [(kind, payload)] :=
  ⟨s.offerSequenced_tells kind payload, s.offerSequenced_eq kind payload⟩

theorem State.rampChanged_noticed (s : State) (k : Fin 4) (before : RampState) (c : RampCause) :
    s.noticed (s.rampChanged k before c) (if (s.ramp k).state = before then []
      else [rampNotice k before (s.ramp k).state (s.ramp k).requestHold (s.ramp k).inputHold c]) := by
  rw [State.rampChanged]
  split
  · exact s.noticed_refl
  · exact s.offerSequenced_noticed _ _

/-- R155: the HEAD notice of a head as its record stands in `r`. -/
def Ramp.headNotices (r : Ramp) (k : Fin 4) (l : Fin 3) (cause : Nat) (reported : Option Aspect) : List (Nat × List Byte) :=
  match r.head l, r.laneConfig l with
  | some h, some c => [headNotice k l c cause h.lamps h.sent reported]
  | _, _ => []

theorem State.offerHeadNotice_noticed (s : State) (k : Fin 4) (l : Fin 3) (cause : Nat) (reported : Option Aspect) :
    s.noticed (s.offerHeadNotice k l cause reported) ((s.ramp k).headNotices k l cause reported) := by
  simp only [State.offerHeadNotice, Ramp.headNotices]
  cases (s.ramp k).head l with
  | none => exact s.noticed_refl
  | some h =>
    cases (s.ramp k).laneConfig l with
    | none => exact s.noticed_refl
    | some c => exact s.offerSequenced_noticed _ _

/-- Notices offered one after the other, each read from the ramps as they stand. -/
theorem State.noticed_foldl {ι : Type} {op : State → ι → State} {n : ι → List (Nat × List Byte)} (xs : List ι)
    (hop : ∀ x ∈ xs, ∀ t : State, (∀ j, t.ramp j = s.ramp j) → t.noticed (op t x) (n x)) :
    s.noticed (xs.foldl op s) (xs.flatMap n) := by
  induction xs using List.reverseRecOn with
  | nil => exact s.noticed_refl
  | append_singleton xs x ih =>
    rw [List.foldl_append, List.flatMap_append]
    have h := ih fun y hy => hop y (List.mem_append_left _ hy)
    have hx := hop x (List.mem_append_right _ (List.mem_singleton.mpr rfl)) _ h.ramp
    simpa using h.trans hx

/-- R113: the RAMP notices of the ramps that went DARK. -/
theorem State.darkNotices_noticed {s0 : State} (hj : ∀ k, (s0.ramp k).Judged (s.ramp k)) (red : List (Fin 4)) :
    s.noticed (State.darkNotices s0 red s) (allRamps.flatMap (fun k =>
      if (s.ramp k).state = (s0.ramp k).state then []
      else [rampNotice k (s0.ramp k).state .dark false false (if red.contains k then .headRed else .noLane)])) := by
  refine State.noticed_foldl allRamps fun k _ t ht => ?_
  have h := t.rampChanged_noticed k (s0.ramp k).state (if red.contains k then .headRed else .noLane)
  rw [ht k] at h
  rcases (hj k).change with ⟨h1, -, -⟩ | ⟨h1, h2, h3⟩
  · rwa [if_pos h1] at h ⊢
  · rw [h1, h2, h3] at h
    rwa [h1]

/-! ## The waiting picks -/

/-- R125: ramp `r` with the waiting pick made again under its plan where a lane left GREEN or AMBER since `r0`. -/
def Ramp.repicked (r0 r : Ramp) (plan : Option Plan) : Ramp :=
  if r0.freed r then (plan.map (fun p => r.pick p)).getD r else r

theorem Ramp.judged_repicked (r0 r : Ramp) (plan : Option Plan) : r.Judged (r0.repicked r plan) := by
  rw [Ramp.repicked]
  split
  · cases plan with
    | none => exact .refl r
    | some p => exact r.judged_pick p
  · exact .refl r

theorem State.topPlan_staged (hR : (u.ramp k).Judged (R k)) : (u.staged R).topPlan k = u.topPlan k := by
  have ht : (R k).top = (u.ramp k).top := by rw [Ramp.top, Ramp.top, hR.stack]
  rw [State.topPlan, State.ramp_staged, ht]
  rfl

/-- R125: the waiting picks made again, ramp by ramp. -/
theorem State.rerunFreed_staged (hR : ∀ k, (u.ramp k).Judged (R k)) :
    State.rerunFreed u (u.staged R) = u.staged (fun k => (u.ramp k).repicked (R k) (u.topPlan k)) := by
  have hop : ∀ (R : Fin 4 → Ramp) (k : Fin 4), (u.ramp k).Judged (R k) →
      (if (u.ramp k).freed ((u.staged R).ramp k) then (u.staged R).rerunPick k else u.staged R) =
        u.staged (Function.update R k ((u.ramp k).repicked (R k) (u.topPlan k))) := fun R k hk => by
    rw [State.ramp_staged, Ramp.repicked]
    split
    · rw [State.rerunPick, State.withPlan, State.topPlan_staged hk]
      cases u.topPlan k with
      | none => exact (congrArg u.staged (Function.update_eq_self k R)).symm
      | some p => exact State.staged_updRamp (by simp)
    · rw [Function.update_eq_self]
  rw [State.rerunFreed_eq, State.foldl_staged (key := id) (g := fun k r => (u.ramp k).repicked r (u.topPlan k)) allRamps
    (fun k _ R => hop R k) (fun k r _ => (u.ramp k).judged_repicked r _) R hR]
  congr 1
  funext k
  have hone : allRamps.filter (fun x => decide (id x = k)) = [k] := by revert k; decide
  rw [hone]
  rfl

end Sys2Proof.Machine
end

section
/-! What disabling lanes one after the other makes of a ramp (R143, R154, R113), and of the state (R125, R155). -/

namespace Sys2Proof.Machine

variable {s t u w : State} {k : Fin 4} {r r' : Ramp} {a : List (Nat × List Byte)}

/-! ## Head records but for their silence timers -/

/-- A head record but for its silence timer. -/
def Head.unheard (h : Head) : Head := { h with silence := none }

/-- The record of lane `l`'s head but for its silence timer. -/
def Ramp.record (r : Ramp) (l : Fin 3) : Option Head := (r.head l).map Head.unheard

/-- R154: a record that is not disabled becomes so with a cause. -/
def Head.disable (cause : DisableCause) (h : Head) : Head := if h.disabled = none then { h with disabled := some cause } else h

theorem Ramp.disabled_record (r : Ramp) (l : Fin 3) :
    r.disabled l = (((r.record l).map (fun h => h.disabled)).getD none).isSome := by
  rw [Ramp.disabled_eq, Ramp.record, Option.map_map]
  rfl

theorem Ramp.record_darkening (r : Ramp) (l : Fin 3) : r.darkening.record l = r.record l := by
  simp only [Ramp.record, Ramp.darkening, Ramp.head, Three.get_tabulate, Option.map_map]
  rfl

theorem Ramp.record_of_heads (h : r'.heads = r.heads) (l : Fin 3) : r'.record l = r.record l := by
  rw [Ramp.record, Ramp.record, Ramp.head, Ramp.head, h]

theorem Ramp.head_disabling (r : Ramp) (which : List (Fin 3)) (cause : DisableCause) (j : Fin 3) :
    (r.disabling which cause).head j =
      if j ∈ which then (r.head j).map (fun h => { h with disabled := some cause }) else r.head j := by
  simp only [Ramp.disabling, Ramp.head, Three.get_tabulate]

theorem Ramp.record_disablingOne (r : Ramp) (l : Fin 3) (cause : DisableCause) (j : Fin 3) :
    (r.disablingOne l cause).record j = if j = l then (r.record j).map (Head.disable cause) else r.record j := by
  by_cases hd : r.disabled l = true
  · rw [Ramp.disablingOne, if_pos hd]
    by_cases hj : j = l
    · subst hj
      rw [if_pos rfl]
      rw [Ramp.disabled_record] at hd
      cases hr : r.record j with
      | none => rfl
      | some h =>
        have hne : h.disabled ≠ none := by
          rw [hr] at hd
          exact Option.isSome_iff_ne_none.mp hd
        rw [Option.map_some, Head.disable, if_neg hne]
    · rw [if_neg hj]
  · have hafter : (r.disablingOne l cause).record j = (r.disabling [l] cause).record j := by
      rw [Ramp.disablingOne, if_neg hd]
      split
      · exact Ramp.record_darkening _ _
      · rfl
    rw [hafter, Ramp.record, Ramp.head_disabling]
    simp only [List.mem_singleton]
    by_cases hj : j = l
    · subst hj
      rw [if_pos rfl, if_pos rfl, Ramp.record]
      rw [Ramp.disabled_eq] at hd
      cases hh : r.head j with
      | none => rfl
      | some h =>
        have hn : h.disabled = none := by
          rw [hh] at hd
          exact Option.not_isSome_iff_eq_none.mp hd
        simp [Head.disable, Head.unheard, hn]
    · rw [if_neg hj, if_neg hj, Ramp.record]

theorem Head.disable_disable (c c' : DisableCause) (h : Head) : (h.disable c).disable c' = h.disable c := by
  by_cases hd : h.disabled = none
  · simp [Head.disable, hd]
  · simp [Head.disable, hd]

/-- R154: the lanes of `which` disabled one after the other, one that is disabled left as it is. -/
def Ramp.disablingAll (r : Ramp) (which : List (Fin 3)) (cause : DisableCause) : Ramp :=
  which.foldl (fun x j => x.disablingOne j cause) r

theorem Ramp.record_disablingAll (r : Ramp) (which : List (Fin 3)) (cause : DisableCause) (j : Fin 3) :
    (r.disablingAll which cause).record j = if j ∈ which then (r.record j).map (Head.disable cause) else r.record j := by
  induction which generalizing r with
  | nil => rfl
  | cons l rest ih =>
    have hstep : r.disablingAll (l :: rest) cause = (r.disablingOne l cause).disablingAll rest cause := rfl
    rw [hstep, ih, Ramp.record_disablingOne]
    by_cases hj : j = l
    · subst hj
      have hidem : Head.disable cause ∘ Head.disable cause = Head.disable cause :=
        funext fun h => Head.disable_disable cause cause h
      simp [Option.map_map, hidem]
    · simp [hj]

theorem Ramp.judged_disablingAll (r : Ramp) (which : List (Fin 3)) (cause : DisableCause) :
    r.Judged (r.disablingAll which cause) :=
  Ramp.judged_foldl (g := fun j x => x.disablingOne j cause) which (fun j _ x _ => x.judged_disablingOne j cause) (.refl r)

theorem Ramp.disabled_disablingOne_of_ne (r : Ramp) {l j : Fin 3} (h : j ≠ l) (cause : DisableCause) :
    (r.disablingOne l cause).disabled j = r.disabled j := by
  rw [Ramp.disabled_record, Ramp.record_disablingOne, if_neg h, ← Ramp.disabled_record]

/-- R153: only the lanes not disabled yet are. -/
theorem Ramp.disablingAll_filter (r : Ramp) {which : List (Fin 3)} (hn : which.Nodup) (cause : DisableCause) :
    r.disablingAll (which.filter (fun j => !r.disabled j)) cause = r.disablingAll which cause := by
  induction which generalizing r with
  | nil => rfl
  | cons l rest ih =>
    obtain ⟨hl, hrest⟩ := List.nodup_cons.mp hn
    have hsame : rest.filter (fun j => !(r.disablingOne l cause).disabled j) = rest.filter (fun j => !r.disabled j) :=
      List.filter_congr fun j hj => by rw [Ramp.disabled_disablingOne_of_ne r (ne_of_mem_of_not_mem hj hl)]
    have hcons : r.disablingAll (l :: rest) cause = (r.disablingOne l cause).disablingAll rest cause := rfl
    by_cases hd : r.disabled l = true
    · have hskip : r.disablingOne l cause = r := by rw [Ramp.disablingOne, if_pos hd]
      rw [List.filter_cons_of_neg (by simp [hd]), ih r hrest, hcons, hskip]
    · rw [List.filter_cons_of_pos (by simp [hd])]
      have hcons' : r.disablingAll (l :: rest.filter (fun j => !r.disabled j)) cause =
          (r.disablingOne l cause).disablingAll (rest.filter (fun j => !r.disabled j)) cause := rfl
      rw [hcons', hcons, ← hsame, ih _ hrest]

/-! ## The lanes -/

theorem Ramp.cycle_disabling_one (r : Ramp) (l : Fin 3) (cause : DisableCause) (j : Fin 3) :
    ((r.disabling [l] cause).lane j).cycle = if j = l then .off else (r.lane j).cycle := by
  have hlane : (r.disabling [l] cause).lane j =
      (r.onLanes ([l].filter (fun l => decide ((r.lane l).cycle ≠ .off))) (fun x => { x.wentOff with starvation := 0 })).lane j := rfl
  rw [hlane, Ramp.lane_onLanes]
  by_cases hj : j = l
  · subst hj
    rw [if_pos rfl]
    by_cases hoff : (r.lane j).cycle = .off
    · simp [hoff]
    · simp [hoff, Lane.wentOff]
  · simp [hj]

/-- R143: while the ramp does not go DARK, the disabled lanes go OFF and the others stay. -/
theorem Ramp.cycle_disablingAll {which : List (Fin 3)} {cause : DisableCause} (hn : which.Nodup)
    (hd : ∀ j ∈ which, r.disabled j = false) (hs : (r.disablingAll which cause).state ≠ .dark) (j : Fin 3) :
    ((r.disablingAll which cause).lane j).cycle = if j ∈ which then .off else (r.lane j).cycle := by
  induction which generalizing r with
  | nil => rfl
  | cons l rest ih =>
    obtain ⟨hl, hrest⟩ := List.nodup_cons.mp hn
    have hcons : r.disablingAll (l :: rest) cause = (r.disablingOne l cause).disablingAll rest cause := rfl
    rw [hcons] at hs ⊢
    have hone : (r.disablingOne l cause).state ≠ .dark := fun h => by
      have hj := ((r.disablingOne l cause).judged_disablingAll rest cause).state
      rw [h, or_self] at hj
      exact hs hj
    have hnext : r.disablingOne l cause = r.disabling [l] cause := by
      have hfree : ¬r.disabled l = true := by simp [hd l List.mem_cons_self]
      rw [Ramp.disablingOne, if_neg hfree] at hone ⊢
      split
      · rename_i hdark
        rw [if_pos hdark] at hone
        exact absurd rfl hone
      · rfl
    rw [ih hrest (fun m hm => by
      rw [Ramp.disabled_disablingOne_of_ne r (ne_of_mem_of_not_mem hm hl), hd m (List.mem_cons_of_mem l hm)]) hs,
      hnext, Ramp.cycle_disabling_one]
    by_cases hj : j = l
    · simp [hj]
    · simp [hj]

/-- R125: lanes of a ramp that does not go DARK are freed exactly where a disabled one was GREEN or AMBER. -/
theorem Ramp.freed_disablingAll {r0 : Ramp} {which : List (Fin 3)} {cause : DisableCause} (hl : r0.lanes = r.lanes)
    (hn : which.Nodup) (hd : ∀ j ∈ which, r.disabled j = false) (hs : (r.disablingAll which cause).state ≠ .dark) :
    r0.freed (r.disablingAll which cause) = which.any (fun j => (r.lane j).cycle.busy) := by
  rw [Bool.eq_iff_iff, Ramp.freed, List.any_eq_true, List.any_eq_true]
  simp only [Ramp.cycle_disablingAll hn hd hs, Ramp.lane_of_lanes hl, Bool.and_eq_true, Bool.not_eq_true']
  constructor
  · rintro ⟨j, -, hb, hf⟩
    by_cases hj : j ∈ which
    · exact ⟨j, hj, hb⟩
    · rw [if_neg hj, hb] at hf
      cases hf
  · rintro ⟨j, hj, hb⟩
    exact ⟨j, mem_allLanes j, hb, by rw [if_pos hj]; rfl⟩

end Sys2Proof.Machine
end

section
/-! The refresh, confirm and silence timers of a head (O53: R148, R150, R153). -/

namespace Sys2Proof.Machine

variable {s t u w : State} {k : Fin 4} {r r0 r' : Ramp} {a : List (Nat × List Byte)}

/-! ## One ramp of the state -/

/-- R15, R113: one ramp becomes another, and its entries lose their accumulators where it went DARK. -/
theorem State.staged_one (h : (s.ramp k).Judged r) : s.staged (Function.update s.ramp k r) =
    { s.darkened k (decide ((s.ramp k).state ≠ .dark ∧ r.state = .dark)) with ramps := s.ramps.set k r } := by
  have hramps : Four.tabulate (Function.update s.ramp k r) = s.ramps.set k r := by
    refine Four.ext_get fun j => ?_
    rw [Four.get_set, Four.get_tabulate]
    by_cases hj : j = k
    · subst hj
      rw [if_pos rfl, Function.update_self]
    · rw [if_neg hj, Function.update_of_ne hj]
      rfl
  have hother : ∀ d : Detector, d.config.ramp ≠ k →
      (Function.update s.ramp k r d.config.ramp).state = (s.ramp d.config.ramp).state := fun d hd => by
    rw [Function.update_of_ne hd]
  by_cases hdark : (s.ramp k).state ≠ .dark ∧ r.state = .dark
  · have hdet : ∀ d : Detector, (if (Function.update s.ramp k r d.config.ramp).state = (s.ramp d.config.ramp).state then d
        else { d with arrivals := 0, onTime := 0, span := 0 }) =
        if d.config.ramp = k then { d with arrivals := 0, onTime := 0, span := 0 } else d := fun d => by
      by_cases hk : d.config.ramp = k
      · have hne : ¬(Function.update s.ramp k r d.config.ramp).state = (s.ramp d.config.ramp).state := by
          rw [hk, Function.update_self, hdark.2]
          exact Ne.symm hdark.1
        rw [if_neg hne, if_pos hk]
      · rw [if_pos (hother d hk), if_neg hk]
    rw [decide_eq_true hdark]
    simp only [State.staged, hramps, hdet]
    rfl
  · have hsame : r.state = (s.ramp k).state := by
      rcases h.state with h | h
      · exact h
      · by_contra hne
        exact hdark ⟨fun hs => hne (h.trans hs.symm), h⟩
    have hdet : ∀ (_ : Nat) (d : Detector),
        (if (Function.update s.ramp k r d.config.ramp).state = (s.ramp d.config.ramp).state then d
        else { d with arrivals := 0, onTime := 0, span := 0 }) = d := fun _ d => by
      by_cases hk : d.config.ramp = k
      · rw [if_pos (by rw [hk, Function.update_self, hsame])]
      · rw [if_pos (hother d hk)]
    rw [decide_eq_false hdark]
    rw [State.staged, hramps, Table.map_id_of hdet]
    rfl

theorem State.judged_update (h : (s.ramp k).Judged r) (j : Fin 4) : (s.ramp j).Judged (Function.update s.ramp k r j) := by
  by_cases hj : j = k
  · subst hj
    rwa [Function.update_self]
  · rw [Function.update_of_ne hj]
    exact .refl _

/-- R154: lanes with heads of one ramp disabled one after the other. -/
theorem State.staged_disablingAll (cause : DisableCause) (lanes : List (Fin 3)) (h : (s.ramp k).Judged r)
    (hh : ∀ j ∈ lanes, ((s.ramp k).head j).isSome = true) :
    lanes.foldl (fun s l => s.disableLane k l cause) (s.staged (Function.update s.ramp k r)) =
      s.staged (Function.update s.ramp k (r.disablingAll lanes cause)) := by
  induction lanes generalizing r with
  | nil => rfl
  | cons l rest ih =>
    have hself : Function.update s.ramp k r k = r := Function.update_self ..
    have hone := s.staged_disableLane (R := Function.update s.ramp k r) (l := l) (hself.symm ▸ h)
      (by rw [hself, h.heads, hh l List.mem_cons_self]) cause
    rw [hself, Function.update_idem] at hone
    rw [List.foldl_cons, hone]
    exact ih (h.trans (r.judged_disablingOne l cause)) fun j hj => hh j (List.mem_cons_of_mem l hj)

/-! ## The notices of disables -/

theorem disabledSince_eq (s0 s : State) (x : Fin 4 × Fin 3) : disabledSince s0 s x =
    if (s0.ramp x.1).disabled x.2 then none else ((s.ramp x.1).record x.2).bind (fun h => h.disabled) := by
  simp only [disabledSince, Ramp.record]
  cases (s.ramp x.1).head x.2 <;> rfl

theorem State.disableNotices_noticed (s0 s : State) : s.noticed (State.disableNotices s0 s) (allHeads.flatMap (fun x =>
    ((disabledSince s0 s x).map (fun cause => (s.ramp x.1).headNotices x.1 x.2 cause.code none)).getD [])) := by
  refine State.noticed_foldl allHeads fun x _ t ht => ?_
  have hsame : disabledSince s0 t x = disabledSince s0 s x := by rw [disabledSince_eq, disabledSince_eq, ht]
  rw [hsame, ← ht x.1]
  cases disabledSince s0 s x with
  | none => exact t.noticed_refl
  | some cause => exact t.offerHeadNotice_noticed _ _ _ _

theorem flatMap_allRamps_one {β : Type} {f : Fin 4 → List β} {k : Fin 4} (h : ∀ j, j ≠ k → f j = []) :
    allRamps.flatMap f = f k := by
  have hall : allRamps.flatMap f = f 0 ++ (f 1 ++ (f 2 ++ (f 3 ++ []))) := rfl
  rw [hall]
  clear hall
  fin_cases k
  · simp [h 1, h 2, h 3]
  · simp [h 0, h 2, h 3]
  · simp [h 0, h 1, h 3]
  · simp [h 0, h 1, h 2]

theorem flatMap_allHeads_one {β : Type} {f : Fin 4 × Fin 3 → List β} {k : Fin 4} (h : ∀ x, x.1 ≠ k → f x = []) :
    allHeads.flatMap f = allLanes.flatMap (fun l => f (k, l)) := by
  have hnone : ∀ j, j ≠ k → allLanes.flatMap (fun l => f (j, l)) = [] := fun j hj =>
    List.flatMap_eq_nil_iff.mpr fun l _ => h (j, l) hj
  rw [allHeads, List.flatMap_assoc, ← flatMap_allRamps_one hnone]
  simp only [List.flatMap_map]

/-! ## The event -/

/-- A command leaves the lamps and the disable of a head record. -/
theorem State.record_toldHeads (s : State) (due : List (Fin 4 × Fin 3)) (k : Fin 4) (l : Fin 3) :
    (((s.toldHeads due).ramp k).record l).map (fun h => (h.lamps, h.disabled)) =
      ((s.ramp k).record l).map (fun h => (h.lamps, h.disabled)) := by
  rw [Ramp.record, Ramp.record, State.head_toldHeads, Option.map_map, Option.map_map, Option.map_map]
  refine Option.map_congr fun h _ => ?_
  simp only [Function.comp_apply]
  split <;> rfl

theorem State.lamps_told (s0 s : State) (fresh : List (Fin 4 × Fin 3)) (k : Fin 4) (l : Fin 3) :
    (((s0.told s fresh).ramp k).record l).map (fun h => h.lamps) = ((s.ramp k).record l).map (fun h => h.lamps) := by
  have h := congrArg (Option.map Prod.fst) (s.record_toldHeads (s0.headsDue s fresh) k l)
  rw [Option.map_map, Option.map_map] at h
  exact h

theorem State.disabled_told (s0 s : State) (fresh : List (Fin 4 × Fin 3)) (k : Fin 4) (l : Fin 3) :
    (((s0.told s fresh).ramp k).record l).bind (fun h => h.disabled) = ((s.ramp k).record l).bind (fun h => h.disabled) := by
  have h := congrArg (fun x => Option.bind x Prod.snd) (s.record_toldHeads (s0.headsDue s fresh) k l)
  simp only [Option.bind_map] at h
  exact h

theorem Ramp.record_repicked (r0 r : Ramp) (plan : Option Plan) (l : Fin 3) : (r0.repicked r plan).record l = r.record l := by
  rw [Ramp.repicked]
  split
  · cases plan with
    | none => rfl
    | some p => exact Ramp.record_of_heads (by simp) l
  · rfl

theorem Ramp.state_repicked (r0 r : Ramp) (plan : Option Plan) : (r0.repicked r plan).state = r.state := by
  rw [Ramp.repicked]
  split
  · cases plan with
    | none => rfl
    | some p => simp
  · rfl

/-- R125: of one changed ramp, the waiting pick alone is made again. -/
theorem State.rerunFreed_update (h : (s.ramp k).Judged r) :
    State.rerunFreed s (s.staged (Function.update s.ramp k r)) =
      s.staged (Function.update s.ramp k ((s.ramp k).repicked r (s.topPlan k))) := by
  rw [State.rerunFreed_staged (State.judged_update h)]
  congr 1
  funext j
  by_cases hj : j = k
  · subst hj
    rw [Function.update_self, Function.update_self]
  · have hself : (s.ramp j).freed (s.ramp j) = false := Ramp.freed_self _
    rw [Function.update_of_ne hj, Function.update_of_ne hj, Ramp.repicked, hself, if_neg Bool.false_ne_true]

/-- R155: the HEAD notices of the lanes `which` of ramp `k`, disabled with a cause, from the lamp fault sets `before` and the
aspects last sent as `t` has them. -/
def State.disabledNotices (s t : State) (k : Fin 4) (which : List (Fin 3)) (cause : DisableCause) (before : Fin 3 → Option Lamps) :
    List (Nat × List Byte) :=
  which.flatMap (fun l => match (s.ramp k).laneConfig l, before l with
    | some c, some lamps => [headNotice k l c cause.code lamps (((t.ramp k).head l).bind (fun h => h.sent)) none]
    | _, _ => [])

theorem Ramp.headNotices_eq (r : Ramp) (k : Fin 4) (l : Fin 3) (cause : Nat) (reported : Option Aspect) :
    r.headNotices k l cause reported = (match r.laneConfig l, (r.record l).map (fun h => h.lamps) with
      | some c, some lamps => [headNotice k l c cause lamps ((r.head l).bind (fun h => h.sent)) reported]
      | _, _ => []) := by
  simp only [Ramp.headNotices, Ramp.record]
  cases r.head l with
  | none => cases r.laneConfig l <;> rfl
  | some h => cases r.laneConfig l <;> rfl

section Ends
variable (fresh : List (Fin 4 × Fin 3)) {which : Fin 3 → Bool} {cause : DisableCause} {before : Fin 3 → Option Lamps}

/-- R155: the HEAD notices of an event that disabled lanes `which` of ramp `k` alone. -/
theorem State.disableNotices_one (h : (s.ramp k).Judged r) {v : State} (hv : v = s.staged (Function.update s.ramp k r))
    (hd : ∀ l, (if (s.ramp k).disabled l then none else (r.record l).bind (fun h => h.disabled)) =
      if which l then some cause else none)
    (hl : ∀ l, (r.record l).map (fun h => h.lamps) = before l) :
    (s.told v fresh).noticed (State.disableNotices s (s.told v fresh))
      (s.disabledNotices (s.told v fresh) k (allLanes.filter which) cause before) := by
  have hn := State.disableNotices_noticed s (s.told v fresh)
  have hcause : ∀ x : Fin 4 × Fin 3, disabledSince s (s.told v fresh) x =
      if (s.ramp x.1).disabled x.2 then none
      else ((Function.update s.ramp k r x.1).record x.2).bind (fun h => h.disabled) := fun x => by
    rw [disabledSince_eq, State.disabled_told, hv, State.ramp_staged]
  have hother : ∀ x : Fin 4 × Fin 3, x.1 ≠ k → disabledSince s (s.told v fresh) x = none := fun x hx => by
    rw [hcause, Function.update_of_ne hx]
    by_cases hdx : (s.ramp x.1).disabled x.2 = true
    · rw [if_pos hdx]
    · rw [if_neg hdx]
      rw [Ramp.disabled_record] at hdx
      cases hr : (s.ramp x.1).record x.2 with
      | none => rfl
      | some h =>
        rw [hr] at hdx
        exact Option.not_isSome_iff_eq_none.mp hdx
  have hconfig : ∀ l, ((s.told v fresh).ramp k).laneConfig l = (s.ramp k).laneConfig l := fun l => by
    rw [State.told_eq_toldHeads, State.laneConfig_toldHeads, hv, State.ramp_staged, Function.update_self, Ramp.laneConfig,
      Ramp.laneConfig, h.config]
  rw [flatMap_allHeads_one (k := k) fun x hx => by rw [hother x hx]; rfl] at hn
  rw [State.disabledNotices, flatMap_filter]
  convert hn using 2
  funext l
  rw [hcause, Function.update_self, hd]
  cases which l with
  | false => rfl
  | true =>
    rw [if_pos rfl, if_pos rfl, Option.map_some, Option.getD_some, Ramp.headNotices_eq, hconfig, State.lamps_told, hv,
      State.ramp_staged, Function.update_self, hl]

/-- R113: the RAMP notice of an event that took no ramp but `k` to DARK. -/
theorem State.darkNotices_one {v : State} (h : (s.ramp k).Judged r) (hv : ∀ j, (s.ramp j).Judged (v.ramp j))
    (hs : ∀ j, (v.ramp j).state = (Function.update s.ramp k r j).state) :
    v.noticed (State.darkNotices s [] v)
      (noLaneNotices k (s.ramp k).state (decide ((s.ramp k).state ≠ .dark ∧ r.state = .dark))) := by
  have hn := State.darkNotices_noticed hv []
  rw [flatMap_allRamps_one (k := k) fun j hj => if_pos (by rw [hs, Function.update_of_ne hj]), hs,
    Function.update_self] at hn
  by_cases hsame : r.state = (s.ramp k).state
  · have hstay : ¬((s.ramp k).state ≠ .dark ∧ r.state = .dark) := fun hd => hd.1 (hsame ▸ hd.2)
    rw [if_pos hsame] at hn
    rwa [decide_eq_false hstay]
  · have hgone : (s.ramp k).state ≠ .dark ∧ r.state = .dark :=
      have hdark := h.state.resolve_left hsame
      ⟨fun hd => hsame (hdark.trans hd.symm), hdark⟩
    rw [if_neg hsame] at hn
    rwa [decide_eq_true hgone]

/-- What the end of an event says where it told the heads and then offered notices. -/
theorem State.rampEventFresh_of_noticed {v base : State} (hv : v = { base with ramps := base.ramps.set k r })
    (h : (base.told v fresh).noticed t a) : base.rampEventFresh t fresh k r a [] := by
  obtain ⟨htells, heq⟩ := h
  refine ⟨State.tells_base htells ?_ ?_ ?_ ?_ ?_, ?_⟩
  · rw [hv]; rfl
  · rw [hv]; rfl
  · rw [hv]; rfl
  · rw [hv]; rfl
  · rw [hv]; rfl
  · rw [hv, State.told_queue] at heq
    exact heq

/-- R125, R154, R155, R113: the end of an event that changed ramp `k` alone and disabled its lanes `which`. -/
theorem State.disableEnds_one (h : (s.ramp k).Judged r)
    (hd : ∀ l, (if (s.ramp k).disabled l then none else (r.record l).bind (fun h => h.disabled)) =
      if which l then some cause else none)
    (hl : ∀ l, (r.record l).map (fun h => h.lamps) = before l) :
    let v := s.staged (Function.update s.ramp k ((s.ramp k).repicked r (s.topPlan k)))
    let t := State.disableEnds s fresh (s.staged (Function.update s.ramp k r))
    let dark := decide ((s.ramp k).state ≠ .dark ∧ r.state = .dark)
    (s.darkened k dark).rampEventFresh t fresh k ((s.ramp k).repicked r (s.topPlan k))
      (s.disabledNotices t k (allLanes.filter which) cause before ++ noLaneNotices k (s.ramp k).state dark) [] ∧
    t = { s.told v fresh with normal := t.normal, normalDropped := t.normalDropped, sequence := t.sequence } := by
  intro v t dark
  have hj : (s.ramp k).Judged ((s.ramp k).repicked r (s.topPlan k)) := h.trans (Ramp.judged_repicked _ _ _)
  have hv := State.staged_one hj
  rw [Ramp.state_repicked] at hv
  have hheads := State.disableNotices_one fresh hj (v := v) (before := before) rfl
    (fun l => by rw [Ramp.record_repicked, hd]) (fun l => by rw [Ramp.record_repicked, hl])
  have hramp : ∀ j, (s.told v fresh).ramp j = _ := fun j => v.ramp_toldHeads (s.headsDue v fresh) j
  have hdark := State.darkNotices_one (v := State.disableNotices s (s.told v fresh)) hj
    (fun j => by
      rw [hheads.ramp, hramp, State.ramp_staged]
      refine (State.judged_update hj j).trans (.of_heads fun l => ?_)
      rw [Three.get_tabulate, Option.isSome_map])
    (fun j => by rw [hheads.ramp, hramp, State.ramp_staged])
  have ht : t = State.darkNotices s [] (State.disableNotices s (s.told v fresh)) := by
    change State.darkNotices s [] (State.disableNotices s (State.settleHeads s fresh (State.rerunFreed s _))) = _
    rw [State.rerunFreed_update h, State.settleHeads_eq_told]
  have hall := hheads.trans hdark
  rw [← ht, Ramp.state_repicked] at hall
  have hsent : s.disabledNotices (s.told v fresh) k (allLanes.filter which) cause before =
      s.disabledNotices t k (allLanes.filter which) cause before := by
    simp only [State.disabledNotices, hall.ramp]
  rw [hsent] at hall
  refine ⟨?_, hall.2⟩
  rw [← State.told_congr (s.ramps_darkened k dark)] at hall
  refine State.rampEventFresh_of_noticed fresh ?_ hall
  rw [State.ramps_darkened]
  exact hv

end Ends

end Sys2Proof.Machine
end

section
/-! The refresh, confirm and silence timers of a head (O53). -/

namespace Sys2Proof.Machine

variable {s t : State} {k : Fin 4} {l : Fin 3} {r : Ramp} {which : Fin 3 → Bool} {cause : DisableCause}

/-- R154: the causes of the disables that `disablingAll` makes of lanes that are not disabled. -/
theorem Ramp.cause_disablingAll (hw : ∀ l, which l = true → r.disabled l = false ∧ (r.head l).isSome = true) (l : Fin 3) :
    (if r.disabled l then none
      else ((r.disablingAll (allLanes.filter which) cause).record l).bind (fun h => h.disabled)) =
      if which l then some cause else none := by
  have hmem : l ∈ allLanes.filter which ↔ which l = true := by simp [mem_allLanes]
  rw [Ramp.record_disablingAll]
  by_cases hl : which l = true
  · obtain ⟨hd, hh⟩ := hw l hl
    obtain ⟨h, hh⟩ := Option.isSome_iff_exists.mp hh
    have hn : h.disabled = none := by
      rw [Ramp.disabled_eq, hh] at hd
      exact Option.not_isSome_iff_eq_none.mp (by simpa using hd)
    rw [if_neg (by simp [hd]), if_pos (hmem.mpr hl), if_pos hl, Ramp.record, hh]
    simp [Head.disable, Head.unheard, hn]
  · rw [if_neg (fun hm => hl (hmem.mp hm)), if_neg hl]
    by_cases hd : r.disabled l = true
    · rw [if_pos hd]
    · rw [if_neg hd]
      rw [Ramp.disabled_record] at hd
      cases hr : r.record l with
      | none => rfl
      | some h =>
        rw [hr] at hd
        exact Option.not_isSome_iff_eq_none.mp hd

theorem Ramp.lamps_disablingAll (lanes : List (Fin 3)) (l : Fin 3) :
    ((r.disablingAll lanes cause).record l).map (fun h => h.lamps) = (r.head l).map (fun h => h.lamps) := by
  have hlamps : (fun h : Head => h.lamps) ∘ Head.disable cause = fun h => h.lamps := funext fun h => by
    simp only [Function.comp_apply, Head.disable]
    split <;> rfl
  rw [Ramp.record_disablingAll]
  split
  · rw [Option.map_map, hlamps, Ramp.record, Option.map_map]
    rfl
  · rw [Ramp.record, Option.map_map]
    rfl

/-- R125: the waiting pick once lanes of `r` were disabled; a ramp that went DARK has none. -/
theorem Ramp.repicked_disablingAll {r0 : Ramp} {lanes : List (Fin 3)} {plan : Option Plan} {p : Plan} (hl : r0.lanes = r.lanes)
    (hn : lanes.Nodup) (hd : ∀ j ∈ lanes, r.disabled j = false) (hp : plan = some p ∨ r.state = .dark) :
    r0.repicked (r.disablingAll lanes cause) plan =
      if lanes.any (fun j => (r.lane j).cycle.busy) then (r.disablingAll lanes cause).pick p
      else r.disablingAll lanes cause := by
  by_cases hs : (r.disablingAll lanes cause).state = .dark
  · have hnone : ∀ q, (r.disablingAll lanes cause).pick q = r.disablingAll lanes cause := Ramp.pick_of_dark hs
    rw [hnone, ite_self, Ramp.repicked]
    split
    · cases plan with
      | none => rfl
      | some q => exact hnone q
    · rfl
  · have hplan : plan = some p := hp.resolve_right fun hr => by
      have hj := (r.judged_disablingAll lanes cause).state
      rw [hr, or_self] at hj
      exact hs hj
    rw [Ramp.repicked, Ramp.freed_disablingAll hl hn hd hs, hplan]
    rfl

/-- R155: the HEAD notices of disabled lanes, from the records in `r` and the aspects last sent as `t` has them. -/
theorem State.disabledNotices_eq (hc : r.config = (s.ramp k).config) (lanes : List (Fin 3)) :
    lanes.flatMap (fun j => match r.laneConfig j, r.head j with
      | some c, some h => [headNotice k j c cause.code h.lamps (((t.ramp k).head j).bind (fun h => h.sent)) none]
      | _, _ => []) = s.disabledNotices t k lanes cause (fun l => (r.head l).map (fun h => h.lamps)) := by
  refine List.flatMap_congr fun j _ => ?_
  have hj : r.laneConfig j = (s.ramp k).laneConfig j := by rw [Ramp.laneConfig, Ramp.laneConfig, hc]
  rw [hj]
  beta_reduce
  cases (s.ramp k).laneConfig j with
  | none => rfl
  | some c => cases r.head j <;> rfl

/-- R125, R143, R154, R155, R113: the end of an event that disabled lanes of ramp `k`, `r` but for them. -/
theorem State.lanesDisabled (fresh : List (Fin 4 × Fin 3)) (hj : (s.ramp k).Judged r) (hs : r.state = (s.ramp k).state)
    (hl : r.lanes = (s.ramp k).lanes) (hd : ∀ l, r.disabled l = (s.ramp k).disabled l)
    (hw : ∀ l, which l = true → r.disabled l = false ∧ (r.head l).isSome = true) {p : Plan}
    (hp : s.topPlan k = some p ∨ (s.ramp k).state = .dark) :
    let lanes := allLanes.filter which
    let after := r.disablingAll lanes cause
    let v := s.staged (Function.update s.ramp k ((s.ramp k).repicked after (s.topPlan k)))
    let t := State.disableEnds s fresh (s.staged (Function.update s.ramp k after))
    let dark := decide (r.state ≠ .dark ∧ after.state = .dark)
    (s.darkened k dark).rampEventFresh t fresh k
      (if lanes.any (fun j => (r.lane j).cycle.busy) then after.pick p else after)
      (lanes.flatMap (fun j => match r.laneConfig j, r.head j with
        | some c, some h => [headNotice k j c cause.code h.lamps (((t.ramp k).head j).bind (fun h => h.sent)) none]
        | _, _ => []) ++
       (if dark then [rampNotice k r.state .dark false false .noLane] else [])) [] ∧
    t = { s.told v fresh with normal := t.normal, normalDropped := t.normalDropped, sequence := t.sequence } := by
  intro lanes after v t dark
  have hfree : ∀ j ∈ lanes, r.disabled j = false := fun j hm => (hw j (List.mem_filter.mp hm).2).1
  have hjudged := hj.trans (r.judged_disablingAll lanes cause)
  obtain ⟨hevent, htold⟩ := State.disableEnds_one fresh (which := which) (cause := cause)
    (before := fun l => (r.head l).map (fun h => h.lamps)) hjudged
    (fun l => by rw [← hd]; exact Ramp.cause_disablingAll hw l) fun l => Ramp.lamps_disablingAll lanes l
  rw [Ramp.repicked_disablingAll hl.symm (List.Nodup.filter _ (by decide)) hfree (hs ▸ hp), ← hs] at hevent
  refine ⟨?_, htold⟩
  rw [State.disabledNotices_eq hj.config]
  exact hevent

/-- R147, R150: a head whose record became not valid is told its target, or the queue turned the command away. -/
theorem State.told_fresh (s0 : State) {fresh : List (Fin 4 × Fin 3)} (hx : (k, l) ∈ fresh) {h : Head}
    (hc : ((s.ramp k).laneConfig l).isSome = true) (hh : (s.ramp k).head l = some h) (hn : h.sent = none) :
    (((s0.told s fresh).ramp k).head l).bind (fun h => h.sent) = some ((s.ramp k).target l) ∨
      ((((s0.told s fresh).ramp k).head l).bind (fun h => h.sent) = none ∧ (s0.told s fresh).urgentDropped = true) := by
  have hdue : (k, l) ∈ s0.headsDue s fresh := by
    refine List.mem_filter.mpr ⟨mem_allHeads _, ?_⟩
    simp [hc, hh, hn, hx]
  rw [State.told_eq_toldHeads, State.head_toldHeads, hh, Option.map_some, Option.bind_some]
  by_cases htake : (k, l) ∈ (s0.headsDue s fresh).take (8 - s.urgent.length)
  · rw [if_pos htake]
    exact .inl rfl
  · rw [if_neg htake]
    refine .inr ⟨hn, ?_⟩
    have hroom : 8 - s.urgent.length < (s0.headsDue s fresh).length := by
      by_contra hle
      rw [List.take_of_length_le (not_lt.mp hle)] at htake
      exact htake hdue
    simp [State.toldHeads, hroom]

/-- R154: a disabled head whose record is not valid, after the waiting pick. -/
theorem Ramp.head_disabledAll (r0 : Ramp) (plan : Option Plan) {lanes : List (Fin 3)} {x : Head} (hx : r.record l = some x)
    (hn : x.sent = none) (hd : x.disabled ≠ none ∨ l ∈ lanes) :
    ∃ h, (r0.repicked (r.disablingAll lanes cause) plan).head l = some h ∧ h.sent = none ∧ h.disabled ≠ none := by
  have hafter := r.record_disablingAll lanes cause l
  rw [← Ramp.record_repicked r0 _ plan, hx] at hafter
  obtain ⟨y, hy, hsent, hdisabled⟩ : ∃ y, (if l ∈ lanes then (some x).map (Head.disable cause) else some x) = some y ∧
      y.sent = none ∧ y.disabled ≠ none := by
    by_cases hl : l ∈ lanes
    · refine ⟨x.disable cause, by rw [if_pos hl]; rfl, ?_⟩
      by_cases hx : x.disabled = none
      · simp [Head.disable, hx, hn]
      · simp [Head.disable, hx, hn]
    · exact ⟨x, if_neg hl, hn, hd.resolve_right hl⟩
  obtain ⟨h, hh, he⟩ := Option.map_eq_some_iff.mp (hafter.trans hy)
  rw [← he] at hsent hdisabled
  exact ⟨h, hh, hsent, hdisabled⟩

/-- R147, R150: a lane that is disabled shows DARK once told so, or the queue turned the command away. -/
theorem State.sent_dark {v : State} {h : Head}
    (ht : t = { s.told v [(k, l)] with normal := t.normal, normalDropped := t.normalDropped, sequence := t.sequence })
    (hr : v.ramp k = r) (hh : r.head l = some h) (hu : r.used l = true) (hn : h.sent = none) (hd : h.disabled ≠ none) :
    ((t.ramp k).head l).bind (fun h => h.sent) = some .dark ∨
      (((t.ramp k).head l).bind (fun h => h.sent) = none ∧ t.urgentDropped = true) := by
  have htarget : r.target l = .dark := by
    have hdis : r.disabled l = true := by
      rw [Ramp.disabled_eq, hh]
      exact Option.isSome_iff_ne_none.mpr hd
    rw [Ramp.target_eq, if_pos (.inr hdis)]
  have h1 := State.told_fresh (s := v) s (fresh := [(k, l)]) (List.mem_singleton.mpr rfl) (by rw [hr]; exact hu)
    (by rw [hr]; exact hh) hn
  rw [hr, htarget] at h1
  have hramp : t.ramp k = (s.told v [(k, l)]).ramp k := by rw [ht]; rfl
  have hdropped : t.urgentDropped = (s.told v [(k, l)]).urgentDropped := by rw [ht]
  rw [hramp, hdropped]
  exact h1

/-! ## The three timers -/

theorem Ramp.updHead_of_head {h : Head} (hh : r.head l = some h) (f : Head → Head) :
    r.updHead l f = { r with heads := r.heads.set l (some (f h)) } := by
  have hget : r.heads.get l = some h := hh
  rw [Ramp.updHead, hget]
  rfl

/-- R148: a command with the target as it stands is offered, and the timer restarts. -/
theorem State.refreshed (s : State) {h : Head} {c : LaneConfig} (hh : (s.ramp k).head l = some h)
    (hc : (s.ramp k).laneConfig l = some c) :
    (s.offerHead k l).updRamp k (fun r => r.updHead l (fun h => { h with refresh := s.site.refresh })) = { s with
      urgent := if s.urgent.length < 8 then s.urgent ++ [s.headCommand (k, l)] else s.urgent
      urgentDropped := s.urgentDropped || decide (¬s.urgent.length < 8)
      ramps := s.ramps.set k { s.ramp k with heads := (s.ramp k).heads.set l (some
        (if s.urgent.length < 8 then { h with
          sent := some ((s.ramp k).target l), refresh := s.site.refresh,
          confirm := if h.sent = some ((s.ramp k).target l) then h.confirm else some s.site.confirm }
        else { h with refresh := s.site.refresh })) } } := by
  have hcmd : s.headCommand (k, l) = s.headFrame c ((s.ramp k).target l) := by
    simp only [State.headCommand, hc]
    rfl
  have hupd : ∀ (v : State) (f : Ramp → Ramp), v.updRamp k f = { v with ramps := v.ramps.set k (f (v.ramp k)) } :=
    fun _ _ => rfl
  rw [State.offerHead_spec s k l h c hh hc, hcmd, hupd]
  by_cases hroom : s.urgent.length < 8
  · have hr : s.urgentRoom = true := decide_eq_true hroom
    have hset : ∀ r : Ramp, ({ s with
        urgent := s.urgent ++ [s.headFrame c ((s.ramp k).target l)], ramps := s.ramps.set k r } : State).ramp k = r :=
      fun r => by rw [State.ramp, Four.get_set, if_pos rfl]
    have hhead : ((s.ramp k).updHead l (Head.queued s.site ((s.ramp k).target l))).head l =
        some (h.queued s.site ((s.ramp k).target l)) := by
      rw [Ramp.head_updHead, if_pos rfl, hh]
      rfl
    rw [if_pos hr, hset, Ramp.updHead_of_head hhead, Ramp.updHead_of_head hh, Three.set_set, Four.set_set, if_pos hroom,
      if_pos hroom, decide_eq_false (not_not.mpr hroom), Bool.or_false]
    rfl
  · have hr : ¬s.urgentRoom = true := fun h => hroom (of_decide_eq_true h)
    have hset : ({ s with urgentDropped := true } : State).ramp k = s.ramp k := rfl
    rw [if_neg hr, hset, Ramp.updHead_of_head hh, if_neg hroom, if_neg hroom, decide_eq_true hroom, Bool.or_true]

/-- R150, R153: the timers of some heads of ramp `k` expire, which makes it `f` of it; the heads of `expired` that are not
disabled yet are. -/
theorem State.timersExpired (fresh : List (Fin 4 × Fin 3)) {f : Ramp → Ramp} {expired : Fin 3 → Bool}
    (hj : (s.ramp k).Judged (f (s.ramp k))) (hs : (f (s.ramp k)).state = (s.ramp k).state)
    (hl : (f (s.ramp k)).lanes = (s.ramp k).lanes) (hd : ∀ l, (f (s.ramp k)).disabled l = (s.ramp k).disabled l)
    (he : ∀ l, expired l = true → ((s.ramp k).head l).isSome = true) {p : Plan}
    (hp : s.topPlan k = some p ∨ (s.ramp k).state = .dark) :
    let r := f (s.ramp k)
    let lanes := (allLanes.filter expired).filter (fun j => !(s.ramp k).disabled j)
    let after := r.disablingAll lanes cause
    let t := State.disableEnds s fresh ((allLanes.filter expired).foldl (fun s j => s.disableLane k j cause) (s.updRamp k f))
    let dark := decide (r.state ≠ .dark ∧ after.state = .dark)
    (s.darkened k dark).rampEventFresh t fresh k
      (if lanes.any (fun j => (r.lane j).cycle.busy) then after.pick p else after)
      (lanes.flatMap (fun j => match r.laneConfig j, r.head j with
        | some c, some h => [headNotice k j c cause.code h.lamps (((t.ramp k).head j).bind (fun h => h.sent)) none]
        | _, _ => []) ++
       (if dark then [rampNotice k r.state .dark false false .noLane] else [])) [] ∧
    t = { s.told (s.staged (Function.update s.ramp k ((s.ramp k).repicked after (s.topPlan k)))) fresh with
      normal := t.normal, normalDropped := t.normalDropped, sequence := t.sequence } := by
  intro r lanes after t dark
  have hlanes : lanes = allLanes.filter (fun j => !(s.ramp k).disabled j && expired j) := List.filter_filter ..
  have hupd : s.updRamp k f = s.staged (Function.update s.ramp k r) := by
    have h := State.staged_updRamp (u := s) (R := s.ramp) (k := k) hs
    rwa [State.staged_self] at h
  have hafter : r.disablingAll (allLanes.filter expired) cause = after := by
    rw [← r.disablingAll_filter (List.Nodup.filter _ (by decide))]
    simp only [hd, r]
    rfl
  have ht : t = State.disableEnds s fresh (s.staged (Function.update s.ramp k after)) := by
    change State.disableEnds s fresh (_ : State) = _
    rw [hupd, State.staged_disablingAll cause _ hj fun j hm => he j (List.mem_filter.mp hm).2, hafter]
  have h := State.lanesDisabled (which := fun j => !(s.ramp k).disabled j && expired j) (cause := cause) fresh hj hs hl hd
    (fun j hm => by
      rw [Bool.and_eq_true, Bool.not_eq_true'] at hm
      exact ⟨(hd j).trans hm.1, (hj.heads j).trans (he j hm.2)⟩) hp
  rw [← hlanes] at h
  rw [ht]
  exact h

/-- The head records of some lanes change, each once. -/
theorem Ramp.foldl_updHead (F : Fin 3 → Head → Head) {lanes : List (Fin 3)} (hn : lanes.Nodup) (r : Ramp) :
    lanes.foldl (fun r l => r.updHead l (F l)) r = { r with
      heads := Three.tabulate (fun j => if j ∈ lanes then (r.head j).map (F j) else r.head j) } := by
  induction lanes generalizing r with
  | nil =>
    have h : r.heads = Three.tabulate (fun j => r.head j) := Three.ext_get fun j => (Three.get_tabulate _ j).symm
    exact congrArg (fun x => { r with heads := x }) h
  | cons l rest ih =>
    obtain ⟨hl, hrest⟩ := List.nodup_cons.mp hn
    rw [List.foldl_cons, ih hrest]
    refine congrArg (fun x => { r with heads := x }) (Three.ext_get fun j => ?_)
    rw [Three.get_tabulate, Three.get_tabulate, Ramp.head_updHead]
    by_cases hj : j = l
    · subst hj
      simp [hl]
    · simp [hj]

/-- R150: the record of lane `l`'s head not valid, its lane disabled. -/
theorem State.confirmFailed_spec (s : State) {h : Head} (hh : (s.ramp k).head l = some h) (hu : (s.ramp k).used l = true)
    {p : Plan} (hp : s.topPlan k = some p ∨ (s.ramp k).state = .dark) :
    let r := { s.ramp k with heads := (s.ramp k).heads.set l (some { h with sent := none, confirm := none }) }
    let lanes := if h.disabled = none then [l] else []
    let after := r.disablingAll lanes .confirm
    let t := s.confirmFailed k l
    let dark := decide (r.state ≠ .dark ∧ after.state = .dark)
    (s.darkened k dark).rampEventFresh t [(k, l)] k
      (if lanes.any (fun j => (r.lane j).cycle.busy) then after.pick p else after)
      (lanes.flatMap (fun j => match r.laneConfig j, r.head j with
        | some c, some h => [headNotice k j c DisableCause.confirm.code h.lamps
            (((t.ramp k).head j).bind (fun h => h.sent)) none]
        | _, _ => []) ++
       (if dark then [rampNotice k r.state .dark false false .noLane] else [])) [] ∧
    (((t.ramp k).head l).bind (fun h => h.sent) = some .dark ∨
      (((t.ramp k).head l).bind (fun h => h.sent) = none ∧ t.urgentDropped = true)) := by
  intro r lanes after t dark
  have hr : (s.ramp k).updHead l Head.invalid = r := Ramp.updHead_of_head hh _
  have hone : allLanes.filter (fun j => decide (j = l)) = [l] := by
    clear * -
    revert l
    decide
  have hlanes : [l].filter (fun j => !(s.ramp k).disabled j) = lanes := by
    have hd : (s.ramp k).disabled l = h.disabled.isSome := by rw [Ramp.disabled_eq, hh]; rfl
    by_cases hn : h.disabled = none
    · simp [lanes, hd, hn]
    · simp [lanes, hd, hn]
  have hdis : ∀ j, ((s.ramp k).updHead l Head.invalid).disabled j = (s.ramp k).disabled j := fun j => by
    rw [Ramp.disabled_eq, Ramp.disabled_eq, Ramp.head_updHead]
    split
    · rename_i hj
      rw [Option.map_map, hj]
      rfl
    · rfl
  obtain ⟨hevent, htold⟩ := State.timersExpired (s := s) (k := k) (cause := .confirm) [(k, l)]
    (f := fun r => r.updHead l Head.invalid) (expired := fun j => decide (j = l)) ((s.ramp k).judged_updHead l _) rfl rfl hdis
    (fun j hj => by rw [of_decide_eq_true hj, hh]; rfl) hp
  simp only [hone, hlanes, hr] at hevent htold
  refine ⟨hevent, ?_⟩
  have hrec : r.record l = some { h with sent := none, confirm := none, silence := none } := by
    rw [← hr, Ramp.record, Ramp.head_updHead, if_pos rfl, hh]
    rfl
  have hleft : h.disabled ≠ none ∨ l ∈ lanes := by
    by_cases hn : h.disabled = none
    · exact .inr (by simp [lanes, hn])
    · exact .inl hn
  obtain ⟨h', hh', hsent, hdisabled⟩ :=
    Ramp.head_disabledAll (s.ramp k) (s.topPlan k) (lanes := lanes) (cause := .confirm) hrec rfl hleft
  refine State.sent_dark (s := s) htold (State.ramp_staged s _ k) ?_ ?_ hsent hdisabled
  · rw [Function.update_self]
    exact hh'
  · have hconfig : ((s.ramp k).repicked after (s.topPlan k)).config = (s.ramp k).config :=
      (Ramp.judged_repicked _ _ _).config.trans (Ramp.judged_disablingAll _ _ _).config
    rw [Function.update_self]
    unfold Ramp.used Ramp.laneConfig
    rw [hconfig]
    exact hu

/-- R153: the silence timers of lane `l`'s driver expire. -/
theorem State.silenceExpired_spec (s : State) (l : Fin 3) {p : Plan} (hp : s.topPlan k = some p ∨ (s.ramp k).state = .dark) :
    let expired := allLanes.filter (fun j => (s.ramp k).driverOf j = (s.ramp k).driverOf l ∧
      (((s.ramp k).head j).bind (fun h => h.silence)) ≠ none)
    let r : Ramp := { s.ramp k with heads := Three.tabulate (fun j =>
      if j ∈ expired then ((s.ramp k).head j).map (fun h => { h with silence := none }) else (s.ramp k).head j) }
    let lanes := expired.filter (fun j => !(s.ramp k).disabled j)
    let after := r.disablingAll lanes .silent
    let t := s.silenceExpired k ((s.ramp k).silentWith l)
    let dark := decide (r.state ≠ .dark ∧ after.state = .dark)
    (s.darkened k dark).rampEventFresh t [] k
      (if lanes.any (fun j => (r.lane j).cycle.busy) then after.pick p else after)
      (lanes.flatMap (fun j => match r.laneConfig j, r.head j with
        | some c, some h => [headNotice k j c DisableCause.silent.code h.lamps
            (((t.ramp k).head j).bind (fun h => h.sent)) none]
        | _, _ => []) ++
       (if dark then [rampNotice k r.state .dark false false .noLane] else [])) [] := by
  intro expired r lanes after t dark
  have hlisten : ∀ j, (s.ramp k).listening j = (((s.ramp k).head j).bind (fun h => h.silence)).isSome := fun j => by
    simp only [Ramp.listening]
    cases (s.ramp k).head j <;> rfl
  have hexpired : expired = (s.ramp k).silentWith l := List.filter_congr fun j _ => by
    rw [hlisten, Bool.eq_iff_iff]
    simp [Option.isSome_iff_ne_none, and_comm]
  have hnodup : expired.Nodup := List.Nodup.filter _ (by decide)
  have hr : ((s.ramp k).silentWith l).foldl (fun r l => r.updHead l (fun h => { h with silence := none })) (s.ramp k) = r := by
    rw [← hexpired, Ramp.foldl_updHead (fun _ h => { h with silence := none }) hnodup]
  have hhead : ∀ j, r.head j = if j ∈ expired then ((s.ramp k).head j).map (fun h => { h with silence := none })
      else (s.ramp k).head j := fun j => Three.get_tabulate _ j
  have hdis : ∀ j, r.disabled j = (s.ramp k).disabled j := fun j => by
    rw [Ramp.disabled_eq, Ramp.disabled_eq, hhead]
    split
    · rw [Option.map_map]
      rfl
    · rfl
  have hjudged : (s.ramp k).Judged r := .of_heads fun j => by
    rw [Three.get_tabulate]
    split
    · rw [Option.isSome_map]
    · rfl
  have h := (State.timersExpired (s := s) (k := k) (cause := .silent) []
    (f := fun r => ((s.ramp k).silentWith l).foldl (fun r l => r.updHead l (fun h => { h with silence := none })) r)
    (expired := fun j => decide ((s.ramp k).driverOf j = (s.ramp k).driverOf l ∧
      (((s.ramp k).head j).bind (fun h => h.silence)) ≠ none)) (hr.symm ▸ hjudged) (by rw [hr]) (by rw [hr])
    (fun j => by rw [hr, hdis]) (fun j hj => by
      obtain ⟨-, hne⟩ := of_decide_eq_true hj
      cases hh : (s.ramp k).head j with
      | none => rw [hh] at hne; exact absurd rfl hne
      | some h => rfl) hp).1
  simp only [hr] at h
  have ht : t = State.disableEnds s [] (expired.foldl (fun s j => s.disableLane k j .silent) (s.updRamp k (fun r =>
      ((s.ramp k).silentWith l).foldl (fun r l => r.updHead l (fun h => { h with silence := none })) r))) := by
    rw [hexpired]
    rfl
  rw [ht]
  exact h

/-- Settles O53. -/
theorem headTimersExpire : Obligations.HeadTimersExpire := by
  intro k l s h hh hu
  obtain ⟨c, hc⟩ : ∃ c, (s.ramp k).laneConfig l = some c := Option.isSome_iff_exists.mp hu
  refine ⟨⟨_, rfl, s.refreshed hh hc⟩, ⟨_, rfl, fun hn => ?_, fun hn p hp => ?_⟩, ?_⟩
  · have hquiet : ¬(s.ramp k).confirming l = true := by simp [Ramp.confirming, hh, hn]
    exact if_neg hquiet
  · have hruns : (s.ramp k).confirming l = true := by simp [Ramp.confirming, hh, Option.isSome_iff_ne_none, hn]
    rw [if_pos hruns]
    exact s.confirmFailed_spec hh hu hp
  refine ⟨_, rfl, fun hn => ?_, fun hn p hp => ?_⟩
  · have hquiet : ¬(s.ramp k).listening l = true := by simp [Ramp.listening, hh, hn]
    exact if_neg hquiet
  · have hruns : (s.ramp k).listening l = true := by simp [Ramp.listening, hh, Option.isSome_iff_ne_none, hn]
    rw [if_pos hruns]
    exact s.silenceExpired_spec l hp

end Sys2Proof.Machine
end

section
/-! A head status frame as it is read (R151, R177): the heads at its driver, the records used, the report on a head. -/

namespace Sys2Proof.Machine

variable {u : State} {src count dst : Nat} {records : List StatusRecord} {k : Fin 4} {l : Fin 3}

/-- R151: lane `l` of ramp `k` is used and its head is at the driver. -/
def State.atDriver (u : State) (src : Nat) (k : Fin 4) (l : Fin 3) : Bool :=
  (((u.ramp k).laneConfig l).map (fun c => decide (c.driver = src))).getD false

/-- R151 step 2: a record with values that let it be used. -/
def State.statusUsable (u : State) (src : Nat) (r : StatusRecord) : Bool :=
  decide (r.aspect ≤ 4) && decide (r.output ≤ 3) && allHeads.any (fun x => u.atDriver src x.1 x.2 &&
    decide (((u.ramp x.1).laneConfig x.2).map (fun c => c.output) = some r.output))

/-- R151 step 2: the first records of their outputs, of those with values that let them be used. -/
def State.usableStatuses (u : State) (src : Nat) (records : List StatusRecord) : List StatusRecord :=
  ((records.zipIdx).filter (fun p => u.statusUsable src p.1 &&
    !(records.take p.2).any (fun e => e.output == p.1.output))).map (fun p => p.1)

/-- R151, R152: the record that reports the head of lane `l` of ramp `k`. -/
def State.reportFor (u : State) (src : Nat) (records : List StatusRecord) (k : Fin 4) (l : Fin 3) : Option StatusRecord :=
  ((u.ramp k).laneConfig l).bind (fun c =>
    if c.driver = src then (u.usableStatuses src records).find? (fun r => r.output == c.output) else none)

theorem Aspect.ofCode_isSome (n : Nat) : (Aspect.ofCode n).isSome = decide (n ≤ 4) := by
  match n with
  | 0 | 1 | 2 | 3 | 4 => rfl
  | m + 5 =>
    have h : ¬m + 5 ≤ 4 := by omega
    rw [decide_eq_false h]
    rfl

theorem State.headsAt_eq (u : State) (src : Nat) : u.headsAt src = allHeads.filter (fun x => u.atDriver src x.1 x.2) :=
  List.filter_congr fun x _ => by
    simp only [State.atDriver]
    cases (u.ramp x.1).laneConfig x.2 <;> rfl

theorem State.statusRecordOk_eq (u : State) (src : Nat) (r : StatusRecord) : u.statusRecordOk src r = u.statusUsable src r := by
  rw [State.statusRecordOk, State.statusUsable, Aspect.ofCode_isSome, State.headsAt_eq, List.any_filter]
  congr 2
  funext x
  congr 1
  cases (u.ramp x.1).laneConfig x.2 with
  | none => rfl
  | some c => simp

/-- R151 step 2: screening of the records after `pre`, which were seen. -/
theorem State.screenStatus_eq (u : State) (src : Nat) (pre rest : List StatusRecord) (seen : List Nat)
    (hs : ∀ c, c ∈ seen ↔ ∃ e ∈ pre, e.output = c) :
    u.screenStatus src seen rest = ((rest.zipIdx pre.length).filter (fun p => u.statusUsable src p.1 &&
      !((pre ++ rest).take p.2).any (fun e => e.output == p.1.output))).map (fun p => p.1) := by
  induction rest generalizing pre seen with
  | nil => rfl
  | cons x rest ih =>
    have hs' : ∀ c, c ∈ x.output :: seen ↔ ∃ e ∈ pre ++ [x], e.output = c := fun c => by
      rw [List.mem_cons, hs]
      simp only [List.mem_append, List.mem_singleton, or_and_right, exists_or, exists_eq_left]
      rw [or_comm, eq_comm]
    have hseen : seen.contains x.output = ((pre ++ x :: rest).take pre.length).any (fun e => e.output == x.output) := by
      rw [List.take_left', Bool.eq_iff_iff, List.contains_iff_mem, hs, List.any_eq_true]
      · simp
      · rfl
    have ih := ih (pre ++ [x]) (x.output :: seen) hs'
    rw [List.length_append, List.length_singleton, List.append_assoc, List.singleton_append] at ih
    simp only [State.screenStatus, List.zipIdx_cons, List.filter_cons, ← hseen, State.statusRecordOk_eq, ih]
    split <;> simp

/-- R151 step 2: the records that survive screening. -/
theorem State.screenStatus_nil (u : State) (src : Nat) (records : List StatusRecord) :
    u.screenStatus src [] records = u.usableStatuses src records := u.screenStatus_eq src [] records [] (by simp)

theorem State.reportOn_eq (u : State) (src : Nat) (records : List StatusRecord) (x : Fin 4 × Fin 3) :
    u.reportOn src (u.screenStatus src [] records) x = u.reportFor src records x.1 x.2 := by
  rw [State.screenStatus_nil]
  simp only [State.reportOn, State.reportFor]
  cases (u.ramp x.1).laneConfig x.2 <;> rfl

/-- R152: the judged heads with their records. -/
theorem State.judged_eq (u : State) (src : Nat) (records : List StatusRecord) :
    u.judged src (u.screenStatus src [] records) =
      allHeads.filterMap (fun x => (u.reportFor src records x.1 x.2).map (fun r => (x, r))) := by
  simp only [State.judged, State.reportOn_eq]

/-- A head that is reported is at the driver. -/
theorem State.atDriver_of_report (h : (u.reportFor src records k l).isSome = true) :
    ∃ c, (u.ramp k).laneConfig l = some c ∧ c.driver = src := by
  simp only [State.reportFor] at h
  cases hc : (u.ramp k).laneConfig l with
  | none => rw [hc] at h; cases h
  | some c =>
    rw [hc] at h
    by_cases hd : c.driver = src
    · exact ⟨c, rfl, hd⟩
    · simp [hd] at h

theorem State.statusActedOn_iff : u.statusActedOn dst src count records = true ↔
    dst = u.ownAddress ∧ 1 ≤ count ∧ count ≤ 8 ∧ records.length = count ∧ ∃ k l, u.atDriver src k l = true := by
  have hany : (u.headsAt src).isEmpty = false ↔ ∃ k l, u.atDriver src k l = true := by
    rw [List.isEmpty_eq_false_iff_exists_mem, State.headsAt_eq]
    simp only [List.mem_filter, mem_allHeads, true_and, Prod.exists]
  simp only [State.statusActedOn, within, Bool.and_eq_true, decide_eq_true_eq, Bool.not_eq_true', hany, and_assoc]

end Sys2Proof.Machine
end

section
/-! One ramp at a head status frame (R151, R152, R153): the passes over its heads, in closed form. -/

namespace Sys2Proof.Machine

variable {r : Ramp} {at_ : Fin 3 → Bool} {report : Fin 3 → Option StatusRecord}

/-! ## The silence timers and the lamps -/

/-- R151 step 1, R152 pass 1: a head record of lane `l` of `r` once it was heard from. -/
def Ramp.hearing (r : Ramp) (at_ : Fin 3 → Bool) (report : Fin 3 → Option StatusRecord) (l : Fin 3) (h : Head) : Head :=
  { h with
    silence := if r.state ≠ .dark ∧ at_ l = true then r.config.map (fun c => c.headTimeout) else h.silence
    lamps := ((report l).map (fun x => Lamps.ofCode x.lamps)).getD h.lamps }

/-- R151 step 1, R152 pass 1. -/
def Ramp.heard (r : Ramp) (at_ : Fin 3 → Bool) (report : Fin 3 → Option StatusRecord) : Ramp :=
  { r with heads := Three.tabulate (fun l => (r.head l).map (r.hearing at_ report l)) }

/-- R152 pass 2: a red lamp fault is reported of a head of the ramp. -/
def redReported (report : Fin 3 → Option StatusRecord) : Bool :=
  allLanes.any (fun l => ((report l).map (fun x => x.lamps.testBit 0)).getD false)

/-- R152 pass 2. -/
def Ramp.reddened (r : Ramp) (red : Bool) : Ramp := if red = true ∧ r.state ≠ .dark then r.darkening else r

/-- R152 pass 3. -/
def Ramp.judgingAll (r : Ramp) (report : Fin 3 → Option StatusRecord) : Ramp :=
  ((r.judging 0 (report 0)).judging 1 (report 1)).judging 2 (report 2)

/-- The passes over a ramp's heads, and its waiting pick. -/
theorem Ramp.statusJudged_eq (r : Ramp) (plan : Option Plan) (at_ : Fin 3 → Bool) (report : Fin 3 → Option StatusRecord) :
    r.statusJudged plan at_ report =
      r.repicked (((r.heard at_ report).reddened (redReported report)).judgingAll report) plan := rfl

theorem Ramp.updHead_self (r : Ramp) (l : Fin 3) {f : Head → Head} (hf : ∀ h, f h = h) : r.updHead l f = r := by
  have h : r.heads.set l ((r.heads.get l).map f) = r.heads := Three.ext_get fun j => by
    rw [Three.get_set, funext hf]
    by_cases hj : j = l
    · subst hj
      rw [if_pos rfl]
      exact Option.map_id'
    · rw [if_neg hj]
  rw [Ramp.updHead, h]

/-- R151 step 1, one head after the other. -/
theorem Ramp.foldl_hear (lanes : List (Fin 3)) {c : RampConfig} {st : RampState} (hc : r.config = some c) (hs : r.state = st) :
    lanes.foldl (fun r l => r.hear l) r = lanes.foldl (fun r l => r.updHead l (fun h =>
      if st = .dark then h else { h with silence := some c.headTimeout })) r := by
  induction lanes generalizing r with
  | nil => rfl
  | cons l rest ih =>
    have hear : r.hear l = r.updHead l (fun h => if st = .dark then h else { h with silence := some c.headTimeout }) := by
      rw [Ramp.hear, hc, hs]
      by_cases hd : st = .dark
      · simp only [if_pos hd]
        exact (r.updHead_self l fun _ => rfl).symm
      · simp only [if_neg hd]
    rw [List.foldl_cons, List.foldl_cons, hear]
    exact ih hc hs

/-- R152 pass 1 of one head. -/
def Ramp.lampsRead (r : Ramp) (l : Fin 3) (report : Option StatusRecord) : Ramp :=
  match report with
  | some x => r.updHead l (fun h => { h with lamps := .ofCode x.lamps })
  | none => r

/-- R151 step 1, R152 pass 1: the silence timers, then the lamps. -/
theorem Ramp.heard_eq (hc : ∀ l, at_ l = true → r.config ≠ none) :
    allLanes.foldl (fun r l => r.lampsRead l (report l)) ((allLanes.filter at_).foldl (fun r l => r.hear l) r) =
      r.heard at_ report := by
  have hsilence : (allLanes.filter at_).foldl (fun r l => r.hear l) r = { r with
      heads := Three.tabulate (fun l => (r.head l).map (fun h => { h with
        silence := if r.state ≠ .dark ∧ at_ l = true then r.config.map (fun c => c.headTimeout) else h.silence })) } := by
    by_cases hnone : allLanes.filter at_ = []
    · have hoff : ∀ l, at_ l = false := fun l => by
        simpa using List.filter_eq_nil_iff.mp hnone l (mem_allLanes l)
      have hsame : r.heads = Three.tabulate (fun l => (r.head l).map (fun h => { h with
          silence := if r.state ≠ .dark ∧ at_ l = true then r.config.map (fun c => c.headTimeout) else h.silence })) :=
        Three.ext_get fun l => by
          rw [Three.get_tabulate]
          simp [hoff, Ramp.head]
      rw [hnone, ← hsame]
      rfl
    · obtain ⟨l, hl⟩ := List.exists_mem_of_ne_nil _ hnone
      obtain ⟨c, hconf⟩ := Option.ne_none_iff_exists'.mp (hc l (List.mem_filter.mp hl).2)
      rw [Ramp.foldl_hear _ hconf rfl, Ramp.foldl_updHead _ (List.Nodup.filter _ (by decide))]
      refine congrArg (fun x => { r with heads := x }) (Three.ext_get fun j => ?_)
      rw [Three.get_tabulate, Three.get_tabulate, hconf]
      by_cases hj : at_ j = true
      · by_cases hd : r.state = .dark
        · simp [hj, hd, mem_allLanes]
        · simp [hj, hd, mem_allLanes]
      · simp [hj]
  have hlamps : ∀ (x : Ramp) (l : Fin 3), x.lampsRead l (report l) = x.updHead l (fun h => { h with
      lamps := ((report l).map (fun x => Lamps.ofCode x.lamps)).getD h.lamps }) := fun x l => by
    cases hr : report l with
    | none => exact (x.updHead_self l fun _ => rfl).symm
    | some y => rfl
  simp only [hlamps]
  rw [Ramp.foldl_updHead _ (by decide), hsilence]
  refine congrArg (fun x => { r with heads := x }) (Three.ext_get fun j => ?_)
  rw [Three.get_tabulate, Three.get_tabulate, if_pos (mem_allLanes j), Ramp.head, Three.get_tabulate, Option.map_map]
  rfl

/-! ## The judgements -/

theorem Ramp.judging_none (r : Ramp) (l : Fin 3) : r.judging l none = r := by
  simp only [Ramp.judging]
  cases r.head l <;> rfl

theorem Ramp.judged_setHead (r : Ramp) {l : Fin 3} {h : Head} (hh : r.head l = some h) (h' : Head) :
    r.Judged { r with heads := r.heads.set l (some h') } :=
  .of_heads fun j => by
    rw [Three.get_set]
    by_cases hj : j = l
    · subst hj
      rw [if_pos rfl, hh]
      rfl
    · rw [if_neg hj]
      rfl

theorem Ramp.judged_judging (r : Ramp) (l : Fin 3) (report : Option StatusRecord) : r.Judged (r.judging l report) := by
  cases report with
  | none => rw [Ramp.judging_none]; exact .refl r
  | some x =>
    cases hh : r.head l with
    | none => simp only [Ramp.judging, hh]; exact .refl r
    | some h =>
      simp only [Ramp.judging, hh]
      split
      · exact r.judged_disablingOne l .lamp
      · split
        · exact .refl r
        · split
          · exact r.judged_setHead hh _
          · split
            · exact .refl r
            · exact (r.judged_setHead hh _).trans (Ramp.judged_disablingOne _ l .confirm)

theorem Ramp.judged_judgingAll (r : Ramp) (report : Fin 3 → Option StatusRecord) : r.Judged (r.judgingAll report) :=
  ((r.judged_judging 0 _).trans (Ramp.judged_judging _ 1 _)).trans (Ramp.judged_judging _ 2 _)

theorem Ramp.judged_heard (r : Ramp) (at_ : Fin 3 → Bool) (report : Fin 3 → Option StatusRecord) :
    r.Judged (r.heard at_ report) :=
  .of_heads fun l => by rw [Three.get_tabulate, Option.isSome_map]

theorem Ramp.judged_reddened (r : Ramp) (red : Bool) : r.Judged (r.reddened red) := by
  rw [Ramp.reddened]
  split
  · exact r.judged_darkening
  · exact .refl r

end Sys2Proof.Machine
end

section
/-! The passes of a head status frame over the ramps (R151, R152), ramp by ramp. -/

namespace Sys2Proof.Machine

variable {u : State} {src : Nat} {records : List StatusRecord} {k : Fin 4} {l : Fin 3} {r : Ramp} {R : Fin 4 → Ramp}

/-! ## One head -/

theorem Ramp.judged_hear (r : Ramp) (l : Fin 3) : r.Judged (r.hear l) := by
  rw [Ramp.hear]
  cases r.config with
  | none => exact .refl r
  | some c =>
    by_cases hd : r.state = .dark
    · simp only [if_pos hd]
      exact .refl r
    · simp only [if_neg hd]
      exact r.judged_updHead l _

theorem Ramp.state_hear (r : Ramp) (l : Fin 3) : (r.hear l).state = r.state := by
  rw [Ramp.hear]
  cases r.config with
  | none => rfl
  | some c =>
    by_cases hd : r.state = .dark
    · simp only [if_pos hd]
    · simp only [if_neg hd]
      rfl

theorem Ramp.judged_lampsRead (r : Ramp) (l : Fin 3) (report : Option StatusRecord) : r.Judged (r.lampsRead l report) := by
  cases report with
  | none => exact .refl r
  | some x => exact r.judged_updHead l _

theorem State.compareShown_eq {s : State} {h : Head} (hh : (s.ramp k).head l = some h) (shown : Option Aspect) :
    s.compareShown (k, l) shown =
      if h.sent = none then s
      else if h.sent = shown then s.updRamp k (fun r => r.updHead l (fun h => { h with confirm := none }))
      else if h.confirm ≠ none then s
      else (s.updRamp k (fun r => r.updHead l Head.invalid)).disableLane k l .confirm := by
  simp only [State.compareShown, hh]
  cases h.sent with
  | none => rfl
  | some a =>
    rw [if_neg (Option.some_ne_none a)]
    simp only [eq_comm (a := some a), ← Option.isSome_iff_ne_none]

/-- R152: the table of shown aspects, for a head of a ramp as the earlier judgements left it. -/
theorem State.compareShown_staged (hR : (u.ramp k).Judged (R k)) {h : Head} (hh : (R k).head l = some h)
    (shown : Option Aspect) : (u.staged R).compareShown (k, l) shown = u.staged (Function.update R k
      (if h.sent = none then R k
      else if h.sent = shown then { R k with heads := (R k).heads.set l (some { h with confirm := none }) }
      else if h.confirm ≠ none then R k
      else Ramp.disablingOne
        { R k with heads := (R k).heads.set l (some { h with sent := none, confirm := none }) } l .confirm)) := by
  rw [State.compareShown_eq (h := h) (by rw [State.ramp_staged]; exact hh)]
  split
  · rw [Function.update_eq_self]
  · split
    · rw [State.staged_updRamp rfl, Ramp.updHead_of_head hh]
    · split
      · rw [Function.update_eq_self]
      · have hbefore : Function.update R k ((R k).updHead l Head.invalid) k = (R k).updHead l Head.invalid :=
          Function.update_self ..
        rw [State.staged_updRamp rfl, State.staged_disableLane, hbefore, Function.update_idem, Ramp.updHead_of_head hh]
        · rfl
        · rw [hbefore]
          exact hR.trans ((R k).judged_updHead l _)
        · rw [hbefore, ((R k).judged_updHead l _).heads, hh]
          rfl

/-- R152 pass 3 for one judged head. -/
theorem State.judgeHead_staged (hR : (u.ramp k).Judged (R k)) (x : StatusRecord) :
    (u.staged R).judgeHead ((k, l), x) = u.staged (Function.update R k ((R k).judging l (some x))) := by
  simp only [State.judgeHead, State.ramp_staged, Ramp.judging]
  cases hh : (R k).head l with
  | none =>
    have hd : (R k).disabled l = false := by rw [Ramp.disabled_eq, hh]; rfl
    rw [Function.update_eq_self]
    split
    · simp [State.disableLane, State.ramp_staged, hh]
    · simp only [State.compareShown, State.ramp_staged, hh]
  | some h =>
    have hd : (R k).disabled l = h.disabled.isSome := by rw [Ramp.disabled_eq, hh]; rfl
    have hcond : (((Lamps.ofCode x.lamps).amber || (Lamps.ofCode x.lamps).green) && !(R k).disabled l) = true ↔
        (x.lamps.testBit 1 = true ∨ x.lamps.testBit 2 = true) ∧ h.disabled = none := by
      rw [hd, Bool.and_eq_true, Bool.or_eq_true, Bool.not_eq_true', ← Bool.not_eq_true, Option.not_isSome_iff_eq_none]
      rfl
    by_cases hlamp : (x.lamps.testBit 1 = true ∨ x.lamps.testBit 2 = true) ∧ h.disabled = none
    · rw [if_pos (hcond.mpr hlamp), State.staged_disableLane hR (by rw [hh]; rfl)]
      simp only [if_pos hlamp]
    · rw [if_neg (fun hc => hlamp (hcond.mp hc)), State.compareShown_staged hR hh]
      simp only [if_neg hlamp]

/-! ## The passes over the ramps -/

theorem allHeads_filter_fst (k : Fin 4) : allHeads.filter (fun x => decide (x.1 = k)) = allLanes.map (fun l => (k, l)) := by
  revert k
  decide

/-- R151 step 1. -/
theorem State.driverHeard_staged (u : State) (src : Nat) :
    u.driverHeard src = u.staged (fun k => (allLanes.filter (u.atDriver src k)).foldl (fun r l => r.hear l) (u.ramp k)) := by
  have h := State.foldl_staged (u := u) (op := fun t x => t.updRamp x.1 (fun r => r.hear x.2)) (key := fun x => x.1)
    (g := fun x r => r.hear x.2) (u.headsAt src) (fun x _ R _ => State.staged_updRamp ((R x.1).state_hear x.2))
    (fun x r _ => r.judged_hear x.2) u.ramp (fun k => .refl _)
  rw [State.staged_self] at h
  rw [State.driverHeard, h]
  congr 1
  funext k
  rw [State.headsAt_eq, List.filter_comm, allHeads_filter_fst, List.filter_map, List.foldl_map]
  rfl

/-- The judged heads of one ramp, in lane order. -/
theorem State.judged_filter (u : State) (src : Nat) (records : List StatusRecord) (k : Fin 4) :
    (u.judged src (u.screenStatus src [] records)).filter (fun p => decide (p.1.1 = k)) =
      allLanes.filterMap (fun l => (u.reportFor src records k l).map (fun x => ((k, l), x))) := by
  rw [State.judged_eq, List.filter_filterMap]
  have h : allLanes.filterMap (fun l => (u.reportFor src records k l).map (fun x => ((k, l), x))) =
      (allHeads.filter (fun x => decide (x.1 = k))).filterMap
        (fun x => (u.reportFor src records x.1 x.2).map (fun r => (x, r))) := by
    rw [allHeads_filter_fst, List.filterMap_map]
    rfl
  rw [h, List.filterMap_filter]
  refine List.filterMap_congr fun x _ => ?_
  cases u.reportFor src records x.1 x.2 with
  | none => simp
  | some r =>
    by_cases hk : x.1 = k
    · simp [hk]
    · simp [hk]

/-- Steps over the judged heads are steps over the lanes of each ramp. -/
theorem State.foldl_judged (u : State) (src : Nat) (records : List StatusRecord) (k : Fin 4)
    (g : Fin 3 → Option StatusRecord → Ramp → Ramp) (hg : ∀ l r, g l none r = r) (r : Ramp) :
    ((u.judged src (u.screenStatus src [] records)).filter (fun p => decide (p.1.1 = k))).foldl
      (fun r p => g p.1.2 (some p.2) r) r = allLanes.foldl (fun r l => g l (u.reportFor src records k l) r) r := by
  rw [State.judged_filter, List.foldl_filterMap]
  congr 1
  funext r l
  cases u.reportFor src records k l with
  | none => exact (hg l r).symm
  | some x => rfl

/-- R152 pass 1. -/
theorem State.lampsReported_staged (u : State) (src : Nat) (records : List StatusRecord) (hR : ∀ k, (u.ramp k).Judged (R k)) :
    (u.staged R).lampsReported (u.judged src (u.screenStatus src [] records)) = u.staged (fun k =>
      allLanes.foldl (fun r l => r.lampsRead l (u.reportFor src records k l)) (R k)) := by
  rw [State.lampsReported, State.foldl_staged (key := fun p => p.1.1) (g := fun p r => r.lampsRead p.1.2 (some p.2)) _
    (fun p _ R _ => State.staged_updRamp rfl) (fun p r _ => r.judged_lampsRead p.1.2 (some p.2)) R hR]
  congr 1
  funext k
  exact u.foldl_judged src records k (fun l x r => r.lampsRead l x) (fun _ _ => rfl) (R k)

theorem State.redRamps_contains (u : State) (src : Nat) (records : List StatusRecord) (k : Fin 4) :
    (redRamps (u.judged src (u.screenStatus src [] records))).contains k = redReported (u.reportFor src records k) := by
  rw [Bool.eq_iff_iff, List.contains_iff_mem, redRamps, List.mem_map, redReported, List.any_eq_true]
  simp only [State.judged_eq, List.mem_filter, List.mem_filterMap, Option.map_eq_some_iff]
  constructor
  · rintro ⟨p, ⟨⟨x, -, y, hy, rfl⟩, hred⟩, rfl⟩
    exact ⟨x.2, mem_allLanes _, by rw [hy]; exact hred⟩
  · rintro ⟨l, -, hred⟩
    cases hy : u.reportFor src records k l with
    | none => rw [hy] at hred; cases hred
    | some y =>
      rw [hy] at hred
      exact ⟨((k, l), y), ⟨⟨(k, l), mem_allHeads _, y, hy, rfl⟩, hred⟩, rfl⟩

/-- R152 pass 2. -/
theorem State.redsTaken_staged (reds : List (Fin 4)) (hR : ∀ k, (u.ramp k).Judged (R k)) :
    (u.staged R).redsTaken reds = u.staged (fun k => (R k).reddened (reds.contains k)) := by
  have hop : ∀ (R : Fin 4 → Ramp) (k : Fin 4), (u.ramp k).Judged (R k) →
      (if reds.contains k && decide (((u.staged R).ramp k).state ≠ .dark) then (u.staged R).enterDark k else u.staged R) =
        u.staged (Function.update R k ((R k).reddened (reds.contains k))) := fun R k hk => by
    rw [State.ramp_staged, Ramp.reddened]
    by_cases hd : reds.contains k = true ∧ (R k).state ≠ .dark
    · have hb : (reds.contains k && decide ((R k).state ≠ .dark)) = true := by
        rw [Bool.and_eq_true, decide_eq_true_eq]
        exact hd
      rw [if_pos hb, if_pos hd, State.staged_enterDark hk.state hd.2]
    · have hb : ¬(reds.contains k && decide ((R k).state ≠ .dark)) = true := by
        rw [Bool.and_eq_true, decide_eq_true_eq]
        exact hd
      rw [if_neg hb, if_neg hd, Function.update_eq_self]
  rw [State.redsTaken, State.foldl_staged (key := id) (g := fun k r => r.reddened (reds.contains k)) allRamps
    (fun k _ R => hop R k) (fun k r _ => r.judged_reddened _) R hR]
  congr 1
  funext k
  have hone : allRamps.filter (fun x => decide (id x = k)) = [k] := by revert k; decide
  rw [hone]
  rfl

/-- R152 pass 3. -/
theorem State.judgeHeads_staged (u : State) (src : Nat) (records : List StatusRecord) (hR : ∀ k, (u.ramp k).Judged (R k)) :
    (u.judged src (u.screenStatus src [] records)).foldl State.judgeHead (u.staged R) =
      u.staged (fun k => (R k).judgingAll (u.reportFor src records k)) := by
  rw [State.foldl_staged (key := fun p => p.1.1) (g := fun p r => r.judging p.1.2 (some p.2)) _
    (fun p _ R hp => State.judgeHead_staged hp p.2) (fun p r _ => r.judged_judging p.1.2 (some p.2)) R hR]
  congr 1
  funext k
  exact u.foldl_judged src records k (fun l x r => r.judging l x) (fun l r => r.judging_none l) (R k)

end Sys2Proof.Machine
end

section
/-! What the judgement of a ramp's heads leaves of its head records, its state and its lanes in service (R152, R154, R113). -/

namespace Sys2Proof.Machine

variable {r r' r'' : Ramp} {l : Fin 3} {h : Head} {report : Option StatusRecord} {cause : DisableCause}

/-! ## One head record -/

/-- R152: the cause for which a record disables the head, where it is not disabled yet. -/
def Head.fault (report : Option StatusRecord) (h : Head) : Option DisableCause := report.bind (fun x =>
  if x.lamps.testBit 1 ∨ x.lamps.testBit 2 then some .lamp
  else if h.sent ≠ none ∧ h.sent ≠ Aspect.ofCode x.aspect ∧ h.confirm = none then some .confirm else none)

/-- R152: the cause for which a head becomes disabled. -/
def Head.newly (report : Option StatusRecord) (h : Head) : Option DisableCause :=
  if h.disabled = none then h.fault report else none

/-- R152: a head record once the aspect it shows was compared, unless a lamp fault disables it. -/
def Head.compared (report : Option StatusRecord) (h : Head) : Head :=
  match report with
  | none => h
  | some x =>
    if (x.lamps.testBit 1 ∨ x.lamps.testBit 2) ∧ h.disabled = none then h
    else if h.sent = none then h
    else if h.sent = Aspect.ofCode x.aspect then { h with confirm := none }
    else if h.confirm ≠ none then h
    else { h with sent := none, confirm := none }

/-- The comparison moves the aspect last sent and the confirm timer alone. -/
theorem Head.compared_keeps (report : Option StatusRecord) (h : Head) :
    h.compared report = { h with sent := (h.compared report).sent, confirm := (h.compared report).confirm } := by
  cases report with
  | none => rfl
  | some x =>
    simp only [Head.compared]
    split
    · rfl
    · split
      · rfl
      · split
        · rfl
        · split <;> rfl

/-- The comparison does not look at the silence timer. -/
theorem Head.compared_unheard (report : Option StatusRecord) (h : Head) :
    h.unheard.compared report = (h.compared report).unheard := by
  cases report with
  | none => rfl
  | some x =>
    simp only [Head.compared, apply_ite Head.unheard]
    rfl

/-- R152: a head record once it was judged, but for the silence timer. -/
def Head.judgedOn (report : Option StatusRecord) (h : Head) : Head :=
  { h.compared report with disabled := if h.disabled = none then h.fault report else h.disabled }

/-! ## One judgement -/

/-- Ramp `r` with the record of lane `l`'s head replaced. -/
def Ramp.setHead (r : Ramp) (l : Fin 3) (h : Head) : Ramp := { r with heads := r.heads.set l (some h) }

theorem Ramp.head_setHead (r : Ramp) (l j : Fin 3) (h : Head) :
    (r.setHead l h).head j = if j = l then some h else r.head j := by
  rw [Ramp.head, Ramp.setHead, Three.get_set]
  rfl

theorem Ramp.setHead_self (hh : r.head l = some h) : r.setHead l h = r := by
  have hheads : r.heads.set l (some h) = r.heads := Three.ext_get fun j => by
    rw [Three.get_set]
    by_cases hj : j = l
    · subst hj
      rw [if_pos rfl]
      exact hh.symm
    · rw [if_neg hj]
  rw [Ramp.setHead, hheads]

/-- R152: a head is compared, then disabled where the record says so. -/
theorem Ramp.judging_eq (hh : r.head l = some h) (report : Option StatusRecord) : r.judging l report =
    match h.newly report with
    | some cause => (r.setHead l (h.compared report)).disablingOne l cause
    | none => r.setHead l (h.compared report) := by
  cases report with
  | none =>
    have hn : h.newly none = none := ite_self _
    rw [Ramp.judging_none, hn]
    exact (Ramp.setHead_self hh).symm
  | some x =>
    simp only [Ramp.judging, hh]
    by_cases hlamp : (x.lamps.testBit 1 = true ∨ x.lamps.testBit 2 = true) ∧ h.disabled = none
    · have hn : h.newly (some x) = some .lamp := by
        rw [Head.newly, if_pos hlamp.2, Head.fault, Option.bind_some, if_pos hlamp.1]
      rw [if_pos hlamp, hn, Head.compared]
      simp only [if_pos hlamp, Ramp.setHead_self hh]
    · rw [if_neg hlamp]
      have hcompared : h.compared (some x) = if h.sent = none then h
          else if h.sent = Aspect.ofCode x.aspect then { h with confirm := none }
          else if h.confirm ≠ none then h
          else { h with sent := none, confirm := none } := if_neg hlamp
      have hnewly : h.newly (some x) = if h.disabled = none ∧ h.sent ≠ none ∧ h.sent ≠ Aspect.ofCode x.aspect ∧
          h.confirm = none then some .confirm else none := by
        by_cases hd : h.disabled = none
        · have hl : ¬(x.lamps.testBit 1 = true ∨ x.lamps.testBit 2 = true) := fun hl => hlamp ⟨hl, hd⟩
          rw [Head.newly, if_pos hd, Head.fault, Option.bind_some, if_neg hl]
          simp only [hd, true_and]
        · rw [Head.newly, if_neg hd, if_neg fun h => hd h.1]
      rw [hcompared, hnewly]
      by_cases hs : h.sent = none
      · rw [if_pos hs, if_pos hs, if_neg fun h => h.2.1 hs]
        exact (Ramp.setHead_self hh).symm
      · rw [if_neg hs, if_neg hs]
        by_cases ha : h.sent = Aspect.ofCode x.aspect
        · rw [if_pos ha, if_pos ha, if_neg fun h => h.2.2.1 ha]
          rfl
        · rw [if_neg ha, if_neg ha]
          by_cases hc : h.confirm = none
          · rw [if_neg (not_not.mpr hc), if_neg (not_not.mpr hc)]
            by_cases hd : h.disabled = none
            · rw [if_pos ⟨hd, hs, ha, hc⟩]
              rfl
            · have hskip : (r.setHead l { h with sent := none, confirm := none }).disabled l = true := by
                rw [Ramp.disabled_eq, Ramp.head_setHead, if_pos rfl]
                exact Option.isSome_iff_ne_none.mpr hd
              rw [if_neg fun h => hd h.1]
              exact if_pos hskip
          · rw [if_pos hc, if_pos hc, if_neg fun h => hc h.2.2.2]
            exact (Ramp.setHead_self hh).symm

/-- The record of the judged head, and those of the others. -/
theorem Ramp.record_judging (r : Ramp) (l j : Fin 3) (report : Option StatusRecord) :
    (r.judging l report).record j = if j = l then (r.record j).map (Head.judgedOn report) else r.record j := by
  cases hh : r.head l with
  | none =>
    have hsame : r.judging l report = r := by
      cases report with
      | none => exact r.judging_none l
      | some x => simp only [Ramp.judging, hh]
    rw [hsame]
    split
    · rename_i hj
      rw [hj, Ramp.record, hh]
      rfl
    · rfl
  | some h =>
    have hset : (r.setHead l (h.compared report)).record j =
        if j = l then some (h.compared report).unheard else r.record j := by
      rw [Ramp.record, Ramp.head_setHead]
      split <;> rfl
    have hbefore : j = l → r.record j = some h.unheard := fun hj => by rw [hj, Ramp.record, hh]; rfl
    have hcompared := Head.compared_unheard report h
    have hdisabled : (h.compared report).disabled = h.disabled := by rw [Head.compared_keeps]
    have hfault : h.unheard.fault report = h.fault report := rfl
    rw [Ramp.judging_eq hh]
    by_cases hj : j = l
    · rw [if_pos hj, hbefore hj, Option.map_some, Head.judgedOn, hcompared, hfault]
      rw [if_pos hj] at hset
      by_cases hd : h.disabled = none
      · have hd' : h.unheard.disabled = none := hd
        have hn : h.newly report = h.fault report := if_pos hd
        rw [if_pos hd', hn]
        cases hf : h.fault report with
        | none =>
          simp only [hset]
          rw [← hd, ← hdisabled]
          rfl
        | some cause =>
          simp only
          rw [Ramp.record_disablingOne, if_pos hj, hset, Option.map_some, Head.disable,
            if_pos (show (h.compared report).unheard.disabled = none from hdisabled.trans hd)]
      · have hd' : ¬h.unheard.disabled = none := hd
        have hn : h.newly report = none := if_neg hd
        have hk : h.unheard.disabled = (h.compared report).unheard.disabled := hdisabled.symm
        rw [if_neg hd', hn, hk]
        exact hset
    · rw [if_neg hj] at hset ⊢
      cases h.newly report with
      | none => exact hset
      | some cause =>
        simp only
        rw [Ramp.record_disablingOne, if_neg hj, hset]

end Sys2Proof.Machine
end

section
/-! The silence timers, the state and the lanes in service of a ramp whose heads were judged (R113, R151, R152, R154). -/

namespace Sys2Proof.Machine

variable {r r' r'' : Ramp} {l : Fin 3} {h : Head} {report : Option StatusRecord} {cause : DisableCause}

/-! ## Silence timers -/

/-- R112: a ramp that stayed in its state keeps its silence timers; one that went DARK has them stopped. -/
def Ramp.Hushed (r r' : Ramp) : Prop := ∀ l, (r'.head l).map (fun h => h.silence) =
  if r'.state = r.state then (r.head l).map (fun h => h.silence) else (r.head l).map (fun _ => none)

theorem Ramp.Hushed.refl (r : Ramp) : r.Hushed r := fun _ => (if_pos rfl).symm

theorem Ramp.Hushed.trans (h : r.Hushed r') (h' : r'.Hushed r'') (hj : r.Judged r') (hj' : r'.Judged r'') :
    r.Hushed r'' := fun l => by
  have hnone : ∀ x : Ramp, ((x.head l).map (fun h => h.silence)).map (fun _ => (none : Option Nat)) =
      (x.head l).map (fun _ => none) := fun x => by rw [Option.map_map]; rfl
  rw [h' l]
  by_cases hs' : r''.state = r'.state
  · rw [if_pos hs', h l, hs']
  · have hdark : r''.state = .dark := hj'.state.resolve_left hs'
    have hs : r'.state = r.state := hj.state.resolve_right fun hd => hs' (hdark.trans hd.symm)
    rw [if_neg hs', if_neg (hs ▸ hs'), ← hnone r', h l, if_pos hs, hnone]

theorem Ramp.hushed_of_silence (hs : r'.state = r.state)
    (hh : ∀ l, (r'.head l).map (fun h => h.silence) = (r.head l).map (fun h => h.silence)) : r.Hushed r' := fun l => by
  rw [if_pos hs, hh]

theorem Ramp.hushed_darkening (hd : r.state ≠ .dark) : r.Hushed r.darkening := fun l => by
  have hne : r.darkening.state ≠ r.state := Ne.symm hd
  rw [if_neg hne]
  simp only [Ramp.darkening, Ramp.head, Three.get_tabulate, Option.map_map]
  rfl

theorem Ramp.hushed_disablingOne (r : Ramp) (l : Fin 3) (cause : DisableCause) : r.Hushed (r.disablingOne l cause) := by
  have hone : r.Hushed (r.disabling [l] cause) := Ramp.hushed_of_silence rfl fun j => by
    rw [Ramp.head_disabling]
    split
    · rw [Option.map_map]
      rfl
    · rfl
  simp only [Ramp.disablingOne]
  split
  · exact .refl r
  · split
    · rename_i hd
      exact hone.trans (Ramp.hushed_darkening hd.1) (r.judged_disabling _ _) (Ramp.judged_darkening _)
    · exact hone

theorem Ramp.hushed_judging (r : Ramp) (l : Fin 3) (report : Option StatusRecord) : r.Hushed (r.judging l report) := by
  cases hh : r.head l with
  | none =>
    have hsame : r.judging l report = r := by
      cases report with
      | none => exact r.judging_none l
      | some x => simp only [Ramp.judging, hh]
    rw [hsame]
    exact .refl r
  | some h =>
    have hset : r.Hushed (r.setHead l (h.compared report)) := Ramp.hushed_of_silence rfl fun j => by
      rw [Ramp.head_setHead]
      split
      · rename_i hj
        rw [hj, hh, Head.compared_keeps]
        rfl
      · rfl
    rw [Ramp.judging_eq hh]
    cases h.newly report with
    | none => exact hset
    | some cause => exact hset.trans (Ramp.hushed_disablingOne _ l cause) (r.judged_setHead hh _) (Ramp.judged_disablingOne _ l cause)

/-! ## Lanes in service -/

/-- Every lane in service in `r'` is so in `r`. -/
def Ramp.Fewer (r r' : Ramp) : Prop := ∀ l, r'.laneInService l = true → r.laneInService l = true

theorem Ramp.Fewer.inService (h : r.Fewer r') (hs : r.inService = false) : r'.inService = false := by
  rw [Ramp.inService, List.any_eq_false] at hs ⊢
  exact fun l hl hn => hs l hl (h l hn)

theorem Ramp.inService_congr (h : ∀ l, r'.laneInService l = r.laneInService l) : r'.inService = r.inService := by
  rw [Ramp.inService, Ramp.inService, funext h]

theorem Lane.wentOff_isOpen {x : Lane} (h : x.wentOff.isOpen = true) : x.isOpen = true := (Bool.and_eq_true_iff.mp h).1

theorem Ramp.fewer_darkening (r : Ramp) : r.Fewer r.darkening := fun l hl => by
  have hd : r.darkening.disabled l = r.disabled l := by
    rw [Ramp.disabled_record, Ramp.record_darkening, ← Ramp.disabled_record]
  have hu : r.darkening.used l = r.used l := Ramp.used_congr rfl l
  have hlane : r.darkening.lane l = { (r.lane l).wentOff with greens := 0, served := 0, violations := 0, extra := 0 } :=
    Three.get_tabulate _ l
  rw [Ramp.laneInService, hd, hu, hlane] at hl
  rw [Ramp.laneInService]
  simp only [Bool.and_eq_true] at hl ⊢
  exact ⟨⟨hl.1.1, Lane.wentOff_isOpen hl.1.2⟩, hl.2⟩

theorem Ramp.fewer_disabling (r : Ramp) (l : Fin 3) (cause : DisableCause) : r.Fewer (r.disabling [l] cause) := fun j hj => by
  have hu : (r.disabling [l] cause).used j = r.used j := Ramp.used_congr rfl j
  have hd : (r.disabling [l] cause).disabled j = false → r.disabled j = false := fun h => by
    rw [Ramp.disabled_eq, Ramp.head_disabling] at h
    split at h
    · cases hh : r.head j with
      | none => rw [Ramp.disabled_eq, hh]; rfl
      | some x => rw [hh] at h; cases h
    · rwa [Ramp.disabled_eq]
  have hlane : (r.disabling [l] cause).lane j =
      (r.onLanes ([l].filter (fun l => decide ((r.lane l).cycle ≠ .off))) (fun x => { x.wentOff with starvation := 0 })).lane j := rfl
  have ho : ((r.disabling [l] cause).lane j).isOpen = true → (r.lane j).isOpen = true := fun h => by
    rw [hlane, Ramp.lane_onLanes] at h
    split at h
    · exact Lane.wentOff_isOpen h
    · exact h
  rw [Ramp.laneInService, hu] at hj
  rw [Ramp.laneInService]
  simp only [Bool.and_eq_true, Bool.not_eq_true'] at hj ⊢
  exact ⟨⟨hj.1.1, ho hj.1.2⟩, hd hj.2⟩

/-- R113: a lane disabled: a ramp that is not DARK goes DARK exactly where no lane is left in service. -/
theorem Ramp.disablingOne_dark_iff (hs : r.state ≠ .dark) (hd : r.disabled l = false) :
    (r.disablingOne l cause).state = .dark ↔ (r.disablingOne l cause).inService = false := by
  simp only [Ramp.disablingOne, if_neg (ne_true_of_eq_false hd)]
  by_cases hn : (r.disabling [l] cause).inService = false
  · rw [if_pos ⟨hs, hn⟩]
    exact ⟨fun _ => (Ramp.fewer_darkening _).inService hn, fun _ => rfl⟩
  · rw [if_neg fun h => hn h.2]
    exact ⟨fun h => absurd h hs, fun h => absurd h hn⟩

theorem Ramp.fewer_disablingOne (r : Ramp) (l : Fin 3) (cause : DisableCause) : r.Fewer (r.disablingOne l cause) := fun j hj => by
  simp only [Ramp.disablingOne] at hj
  split at hj
  · exact hj
  · split at hj
    · exact r.fewer_disabling l cause j (Ramp.fewer_darkening _ j hj)
    · exact r.fewer_disabling l cause j hj

theorem Ramp.laneInService_setHead {h' : Head} (hh : r.head l = some h) (hd : h'.disabled = h.disabled) (j : Fin 3) :
    (r.setHead l h').laneInService j = r.laneInService j := by
  refine Ramp.laneInService_congr rfl ?_ rfl
  rw [Ramp.disabled_eq, Ramp.disabled_eq, Ramp.head_setHead]
  split
  · rename_i hj
    rw [hj, hh, Option.map_some, Option.map_some, hd]
  · rfl

/-! ## The state -/

/-- R113, R154: a ramp some of whose heads were disabled, where `some_` says so, is DARK exactly where no lane is left in
service. -/
def Ramp.Settled (r : Ramp) (some_ : Prop) : Prop :=
  (some_ → (r.state = .dark ↔ r.inService = false)) ∧ (¬some_ → r.state ≠ .dark)

theorem Ramp.Settled.judging {n : Prop} (hr : r.Settled n) (l : Fin 3) (report : Option StatusRecord) :
    (r.judging l report).Settled (n ∨ (r.record l).bind (Head.newly report) ≠ none) := by
  cases hh : r.head l with
  | none =>
    have hsame : r.judging l report = r := by
      cases report with
      | none => exact r.judging_none l
      | some x => simp only [Ramp.judging, hh]
    have hnone : (r.record l).bind (Head.newly report) = none := by rw [Ramp.record, hh]; rfl
    rw [hsame, hnone]
    simpa using hr
  | some h =>
    have hrec : (r.record l).bind (Head.newly report) = h.newly report := by rw [Ramp.record, hh]; rfl
    have hservice := Ramp.laneInService_setHead (h' := h.compared report) hh (by rw [Head.compared_keeps])
    have hstate : (r.setHead l (h.compared report)).state = r.state := rfl
    rw [hrec, Ramp.judging_eq hh]
    cases hn : h.newly report with
    | none =>
      have hsame : (n ∨ (none : Option DisableCause) ≠ none) = n := by simp
      rw [hsame, Ramp.Settled, Ramp.inService_congr hservice, hstate]
      exact hr
    | some cause =>
      refine ⟨fun _ => ?_, fun hnot => absurd (.inr (Option.some_ne_none cause)) hnot⟩
      by_cases hs : r.state = .dark
      · have hgone : r.inService = false := by
          by_cases hn : n
          · exact (hr.1 hn).mp hs
          · exact absurd hs (hr.2 hn)
        have hdark : ((r.setHead l (h.compared report)).disablingOne l cause).state = .dark :=
          (Ramp.judged_disablingOne _ l cause).state.elim (fun h => h.trans hs) id
        exact ⟨fun _ => (Ramp.fewer_disablingOne _ l cause).inService ((Ramp.inService_congr hservice).trans hgone),
          fun _ => hdark⟩
      · refine Ramp.disablingOne_dark_iff hs ?_
        have hfree : h.disabled = none := by
          by_contra hd
          rw [Head.newly, if_neg hd] at hn
          cases hn
        rw [Ramp.disabled_eq, Ramp.head_setHead, if_pos rfl, Head.compared_keeps]
        simp [hfree]

end Sys2Proof.Machine
end

section
/-! A ramp after a head status frame that is acted on (R151 to R154, R113): its heads and its state. -/

namespace Sys2Proof.Machine

variable {r r' : Ramp} {plan : Option Plan} {at_ : Fin 3 → Bool} {report : Fin 3 → Option StatusRecord}

theorem Ramp.hushed_repicked (r0 r : Ramp) (plan : Option Plan) : r.Hushed (r0.repicked r plan) := by
  refine Ramp.hushed_of_silence (r0.state_repicked r plan) fun l => ?_
  rw [Ramp.repicked]
  split
  · cases plan with
    | none => rfl
    | some p => simp [Ramp.head]
  · rfl

theorem Ramp.laneInService_repicked (r0 r : Ramp) (plan : Option Plan) (l : Fin 3) :
    (r0.repicked r plan).laneInService l = r.laneInService l := by
  rw [Ramp.repicked]
  split
  · cases plan with
    | none => rfl
    | some p => exact Ramp.laneInService_congr (by simp) (Ramp.disabled_of_heads (by simp) l) (r.isOpen_pick p l)
  · rfl

/-! ## The head records -/

/-- R152 pass 1: a head record with the lamps that were reported. -/
def Head.lampsRead (report : Option StatusRecord) (h : Head) : Head :=
  { h with lamps := (report.map (fun x => Lamps.ofCode x.lamps)).getD h.lamps }

theorem Ramp.record_heard (r : Ramp) (at_ : Fin 3 → Bool) (report : Fin 3 → Option StatusRecord) (l : Fin 3) :
    (r.heard at_ report).record l = (r.record l).map (Head.lampsRead (report l)) := by
  simp only [Ramp.record, Ramp.heard, Ramp.head, Three.get_tabulate, Option.map_map]
  rfl

theorem Ramp.record_reddened (r : Ramp) (red : Bool) (l : Fin 3) : (r.reddened red).record l = r.record l := by
  rw [Ramp.reddened]
  split
  · exact r.record_darkening l
  · rfl

theorem Ramp.record_judgingAll (r : Ramp) (report : Fin 3 → Option StatusRecord) (l : Fin 3) :
    (r.judgingAll report).record l = (r.record l).map (Head.judgedOn (report l)) := by
  rw [Ramp.judgingAll, Ramp.record_judging, Ramp.record_judging, Ramp.record_judging]
  fin_cases l <;> rfl

/-- R151, R152: the head records of a ramp after the frame. -/
theorem Ramp.record_statusJudged (r : Ramp) (plan : Option Plan) (at_ : Fin 3 → Bool) (report : Fin 3 → Option StatusRecord)
    (l : Fin 3) : (r.statusJudged plan at_ report).record l =
      (r.record l).map (fun h => (h.lampsRead (report l)).judgedOn (report l)) := by
  rw [Ramp.statusJudged_eq, Ramp.record_repicked, Ramp.record_judgingAll, Ramp.record_reddened, Ramp.record_heard,
    Option.map_map]
  rfl

theorem Ramp.judged_statusJudged (r : Ramp) (plan : Option Plan) (at_ : Fin 3 → Bool)
    (report : Fin 3 → Option StatusRecord) : r.Judged (r.statusJudged plan at_ report) :=
  (((r.judged_heard at_ report).trans (Ramp.judged_reddened _ _)).trans (Ramp.judged_judgingAll _ report)).trans
    (Ramp.judged_repicked _ _ _)

/-- R112, R151: the silence timers after the frame. -/
theorem Ramp.hushed_statusJudged (r : Ramp) (plan : Option Plan) (at_ : Fin 3 → Bool)
    (report : Fin 3 → Option StatusRecord) : (r.heard at_ report).Hushed (r.statusJudged plan at_ report) := by
  have hred : (r.heard at_ report).Hushed ((r.heard at_ report).reddened (redReported report)) := by
    rw [Ramp.reddened]
    split
    · rename_i hd
      exact Ramp.hushed_darkening hd.2
    · exact .refl _
  have hall : ∀ x : Ramp, x.Hushed (x.judgingAll report) := fun x =>
    ((x.hushed_judging 0 _).trans (Ramp.hushed_judging _ 1 _) (x.judged_judging 0 _) (Ramp.judged_judging _ 1 _)).trans
      (Ramp.hushed_judging _ 2 _) ((x.judged_judging 0 _).trans (Ramp.judged_judging _ 1 _)) (Ramp.judged_judging _ 2 _)
  have hj := Ramp.judged_reddened (r.heard at_ report) (redReported report)
  exact (hred.trans (hall _) hj (Ramp.judged_judgingAll _ report)).trans (Ramp.hushed_repicked _ _ _)
    (hj.trans (Ramp.judged_judgingAll _ report)) (Ramp.judged_repicked _ _ _)

/-- R151, R152, R154: one head after the frame. -/
theorem Ramp.head_statusJudged {l : Fin 3} {h : Head} {c : RampConfig} (hh : r.head l = some h) (hc : r.config = some c) :
    ∃ h', (r.statusJudged plan at_ report).head l = some h' ∧
      h'.lamps = ((report l).map (fun x => Lamps.ofCode x.lamps)).getD h.lamps ∧
      h'.disabled = (if h.disabled = none then h.fault (report l) else h.disabled) ∧
      h'.silence = (if r.state = .dark then h.silence
        else if (r.statusJudged plan at_ report).state = .dark then none
        else if at_ l then some c.headTimeout else h.silence) := by
  have hrec := r.record_statusJudged plan at_ report l
  have hsilence := r.hushed_statusJudged plan at_ report l
  have hheard : (r.heard at_ report).head l = some (r.hearing at_ report l h) := by
    rw [Ramp.heard, Ramp.head, Three.get_tabulate, hh]
    rfl
  have hbefore : r.record l = some h.unheard := by rw [Ramp.record, hh]; rfl
  rw [hbefore, Option.map_some] at hrec
  obtain ⟨h', hh', he⟩ := Option.map_eq_some_iff.mp hrec
  rw [hh', hheard] at hsilence
  have hlamps : h'.unheard.lamps = ((h.unheard.lampsRead (report l)).judgedOn (report l)).lamps := congrArg Head.lamps he
  have hdisabled : h'.unheard.disabled = ((h.unheard.lampsRead (report l)).judgedOn (report l)).disabled :=
    congrArg Head.disabled he
  refine ⟨h', hh', hlamps.trans ?_, hdisabled.trans ?_, ?_⟩
  · rw [Head.judgedOn, Head.compared_keeps]
    rfl
  · rfl
  · have hstate := (r.judged_statusJudged plan at_ report).state
    have hs : (r.heard at_ report).state = r.state := rfl
    rw [hs] at hsilence
    by_cases hd : r.state = .dark
    · have hsame : (r.statusJudged plan at_ report).state = r.state := hstate.elim id fun h => h.trans hd.symm
      rw [if_pos hsame] at hsilence
      rw [if_pos hd]
      simpa [Ramp.hearing, hd] using hsilence
    · rw [if_neg hd]
      by_cases hgone : (r.statusJudged plan at_ report).state = .dark
      · have hne : ¬(r.statusJudged plan at_ report).state = r.state := fun h => hd (h.symm.trans hgone)
        rw [if_neg hne] at hsilence
        rw [if_pos hgone]
        simpa using hsilence
      · rw [if_pos (hstate.resolve_right hgone)] at hsilence
        rw [if_neg hgone]
        simpa [Ramp.hearing, hd, hc] using hsilence

/-! ## The state -/

theorem exists_lane {P : Fin 3 → Prop} : (∃ l, P l) ↔ ((False ∨ P 0) ∨ P 1) ∨ P 2 := by
  constructor
  · rintro ⟨l, hl⟩
    fin_cases l
    · exact .inl (.inl (.inr hl))
    · exact .inl (.inr hl)
    · exact .inr hl
  · rintro (((h | h) | h) | h)
    · exact h.elim
    · exact ⟨0, h⟩
    · exact ⟨1, h⟩
    · exact ⟨2, h⟩

/-- R113: the judgements take a ramp that is not DARK there exactly where one of them disables a head and no lane is left in
service. -/
theorem Ramp.judgingAll_dark_iff (hs : r.state ≠ .dark) (report : Fin 3 → Option StatusRecord) :
    (r.judgingAll report).state = .dark ↔
      (∃ l, (r.record l).bind (Head.newly (report l)) ≠ none) ∧ (r.judgingAll report).inService = false := by
  have hstart : r.Settled False := ⟨fun h => h.elim, fun _ => hs⟩
  have h := ((hstart.judging 0 (report 0)).judging 1 (report 1)).judging 2 (report 2)
  rw [Ramp.record_judging, if_neg (by decide), Ramp.record_judging, if_neg (by decide), Ramp.record_judging,
    if_neg (by decide), ← exists_lane (P := fun l => (r.record l).bind (Head.newly (report l)) ≠ none)] at h
  obtain ⟨hsome, hnone⟩ := h
  constructor
  · intro hd
    by_cases hn : ∃ l, (r.record l).bind (Head.newly (report l)) ≠ none
    · exact ⟨hn, (hsome hn).mp hd⟩
    · exact absurd hd (hnone hn)
  · rintro ⟨hn, hi⟩
    exact (hsome hn).mpr hi

/-- R152, R113: the state of a ramp after the frame. -/
theorem Ramp.state_statusJudged (r : Ramp) (plan : Option Plan) (at_ : Fin 3 → Bool)
    (report : Fin 3 → Option StatusRecord) : (r.statusJudged plan at_ report).state =
      if r.state ≠ .dark ∧ (redReported report = true ∨
        ((∃ l, (r.head l).bind (Head.newly (report l)) ≠ none) ∧ (r.statusJudged plan at_ report).inService = false))
      then .dark else r.state := by
  have hj := (r.judged_statusJudged plan at_ report).state
  by_cases hd : r.state = .dark
  · rw [if_neg fun h => h.1 hd]
    exact hj.elim id fun h => h.trans hd.symm
  have hstate : (r.statusJudged plan at_ report).state =
      (((r.heard at_ report).reddened (redReported report)).judgingAll report).state := by
    rw [Ramp.statusJudged_eq, Ramp.state_repicked]
  by_cases hred : redReported report = true
  · rw [if_pos ⟨hd, .inl hred⟩, hstate, Ramp.reddened, if_pos ⟨hred, hd⟩]
    exact (Ramp.judged_judgingAll _ report).state.elim id id
  · have hservice : (r.statusJudged plan at_ report).inService = ((r.heard at_ report).judgingAll report).inService := by
      rw [Ramp.statusJudged_eq, Ramp.reddened, if_neg fun h => hred h.1]
      exact Ramp.inService_congr (Ramp.laneInService_repicked _ _ _)
    have hnewly : ∀ l, ((r.heard at_ report).record l).bind (Head.newly (report l)) = (r.head l).bind (Head.newly (report l)) :=
      fun l => by
        rw [Ramp.record_heard, Ramp.record, Option.map_map]
        cases r.head l <;> rfl
    have hiff := (r.heard at_ report).judgingAll_dark_iff hd report
    simp only [hnewly] at hiff
    rw [Ramp.reddened, if_neg fun h => hred h.1] at hstate
    rw [hservice]
    by_cases hgone : ((r.heard at_ report).judgingAll report).state = .dark
    · rw [if_pos ⟨hd, .inr (hiff.mp hgone)⟩, hstate, hgone]
    · rw [if_neg fun h => hgone (hiff.mpr (h.2.resolve_left hred))]
      exact hj.resolve_right fun h => hgone (hstate.symm.trans h)

end Sys2Proof.Machine
end

section
/-! Head status frames (O52). -/

namespace Sys2Proof.Machine

variable {u w : State} {src : Nat} {records : List StatusRecord} {k : Fin 4} {l : Fin 3} {fresh : List (Fin 4 × Fin 3)}

/-- R151 to R154: ramp `k` after a status frame from `src` that is acted on. -/
def State.statusRamp (u : State) (src : Nat) (records : List StatusRecord) (k : Fin 4) : Ramp :=
  (u.ramp k).statusJudged (u.topPlan k) (u.atDriver src k) (u.reportFor src records k)

theorem State.judged_statusRamp (u : State) (src : Nat) (records : List StatusRecord) (k : Fin 4) :
    (u.ramp k).Judged (u.statusRamp src records k) := Ramp.judged_statusJudged _ _ _ _

/-- R151, R152, R125: the passes over the ramps, with their waiting picks. -/
theorem State.statusPasses (u : State) (src : Nat) (records : List StatusRecord) :
    let judged := u.judged src (u.screenStatus src [] records)
    State.rerunFreed u (judged.foldl State.judgeHead (((u.driverHeard src).lampsReported judged).redsTaken (redRamps judged))) =
      u.staged (u.statusRamp src records) := by
  intro judged
  have hconfig : ∀ k l, u.atDriver src k l = true → (u.ramp k).config ≠ none := fun k l hl hc => by
    simp [State.atDriver, Ramp.laneConfig, hc] at hl
  have hhear : ∀ k, (u.ramp k).Judged
      ((allLanes.filter (u.atDriver src k)).foldl (fun r l => r.hear l) (u.ramp k)) := fun k =>
    Ramp.judged_foldl (g := fun l r => r.hear l) _ (fun l _ r _ => r.judged_hear l) (.refl _)
  have hheard : ∀ k, (u.ramp k).Judged ((u.ramp k).heard (u.atDriver src k) (u.reportFor src records k)) := fun k =>
    Ramp.judged_heard _ _ _
  have hred := fun k => (hheard k).trans (Ramp.judged_reddened _ (redReported (u.reportFor src records k)))
  rw [State.driverHeard_staged, State.lampsReported_staged u src records hhear]
  simp only [Ramp.heard_eq (hconfig _)]
  rw [State.redsTaken_staged _ hheard]
  simp only [judged, State.redRamps_contains]
  rw [State.judgeHeads_staged u src records hred,
    State.rerunFreed_staged fun k => (hred k).trans (Ramp.judged_judgingAll _ _)]
  rfl

/-- R149: the heads whose records became not valid in the frame. -/
theorem State.invalidated_eq (hR : ∀ k, (u.ramp k).Judged (w.ramp k)) : State.invalidated u w =
    allHeads.filter (fun x => (((u.ramp x.1).head x.2).bind (fun h => h.sent)).isSome &&
      (((w.ramp x.1).head x.2).bind (fun h => h.sent)).isNone) := by
  refine List.filter_congr fun x _ => ?_
  have hsome := (hR x.1).heads x.2
  cases h0 : (u.ramp x.1).head x.2 with
  | none => rfl
  | some h =>
    cases h1 : (w.ramp x.1).head x.2 with
    | none => rw [h0, h1] at hsome; cases hsome
    | some h' => rfl

/-! ## The HEAD notices -/

theorem State.statusNotices_noticed (u w : State) (judged : List ((Fin 4 × Fin 3) × StatusRecord)) :
    w.noticed (State.statusNotices u judged w) (judged.flatMap (fun p => ((judgedCause u w p).map (fun cause =>
      (w.ramp p.1.1).headNotices p.1.1 p.1.2 cause (Aspect.ofCode p.2.aspect))).getD [])) := by
  refine State.noticed_foldl judged fun p _ t ht => ?_
  have hsame : judgedCause u t p = judgedCause u w p := by
    simp only [judgedCause, disabledSince_eq, ht]
  rw [hsame, ← ht p.1.1]
  cases judgedCause u w p with
  | none => exact t.noticed_refl
  | some cause => exact t.offerHeadNotice_noticed _ _ _ _

/-- R155: the HEAD notices of a judged head, in the words of the statement: `h` its record before, `h'` after. -/
def judgedNotices (k : Fin 4) (l : Fin 3) (dark : Bool) (c : LaneConfig) (x : StatusRecord) (h h' : Head) :
    List (Nat × List Byte) :=
  let notice (cause : Nat) := [headNotice k l c cause h'.lamps h'.sent (Aspect.ofCode x.aspect)]
  if x.lamps.testBit 0 = true ∧ (dark = false ∨ h.lamps.red = false) then notice 3
  else ((h.newly (some x)).map (fun cause => notice cause.code)).getD []

/-- R155: the notices of one judged head. -/
theorem State.headNotices_judged (x : StatusRecord) {h h' : Head} {c : LaneConfig} (hh : (u.ramp k).head l = some h)
    (hh' : (w.ramp k).head l = some h') (hc : (w.ramp k).laneConfig l = some c)
    (hd : h'.disabled = if h.disabled = none then h.fault (some x) else h.disabled) :
    ((judgedCause u w ((k, l), x)).map (fun cause =>
      (w.ramp k).headNotices k l cause (Aspect.ofCode x.aspect))).getD [] =
      judgedNotices k l (decide ((u.ramp k).state = .dark)) c x h h' := by
  have hsince : disabledSince u w (k, l) = h.newly (some x) := by
    rw [disabledSince_eq, Ramp.disabled_eq, hh, Ramp.record, hh', Head.newly]
    by_cases hn : h.disabled = none
    · rw [if_pos hn] at hd ⊢
      have hfree : ¬((Option.map (fun h : Head => h.disabled) (some h)).getD none).isSome = true := by simp [hn]
      rw [if_neg hfree]
      exact hd
    · rw [if_neg hn, if_pos (by simpa using Option.isSome_iff_ne_none.mpr hn)]
  have hnotice : ∀ cause, (w.ramp k).headNotices k l cause (Aspect.ofCode x.aspect) =
      [headNotice k l c cause h'.lamps h'.sent (Aspect.ofCode x.aspect)] := fun cause => by
    simp only [Ramp.headNotices, hh', hc]
  have hred : ((Lamps.ofCode x.lamps).red && (decide ((u.ramp k).state ≠ .dark) || !h.lamps.red)) = true ↔
      x.lamps.testBit 0 = true ∧ (decide ((u.ramp k).state = .dark) = false ∨ h.lamps.red = false) := by
    simp [Lamps.ofCode]
  simp only [judgedCause, hh, hsince, judgedNotices, hnotice]
  by_cases hr : x.lamps.testBit 0 = true ∧ (decide ((u.ramp k).state = .dark) = false ∨ h.lamps.red = false)
  · rw [if_pos (hred.mpr hr), if_pos hr]
    rfl
  · rw [if_neg fun h => hr (hred.mp h), if_neg hr, Option.map_map]
    rfl

theorem flatMap_filterMap {α β γ : Type} (l : List α) (f : α → Option β) (g : β → List γ) :
    (l.filterMap f).flatMap g = l.flatMap (fun x => ((f x).map g).getD []) := by
  induction l with
  | nil => rfl
  | cons x rest ih =>
    rw [List.flatMap_cons, ← ih]
    cases hf : f x with
    | none => rw [List.filterMap_cons_none hf]; rfl
    | some y => rw [List.filterMap_cons_some hf]; rfl

/-- R155: the HEAD notices of a status frame. -/
theorem State.statusNotices_spec (u w : State) (src : Nat) (records : List StatusRecord)
    (hR : ∀ k, (u.ramp k).Judged (w.ramp k))
    (hd : ∀ k l h h', (u.ramp k).head l = some h → (w.ramp k).head l = some h' →
      h'.disabled = if h.disabled = none then h.fault (u.reportFor src records k l) else h.disabled) :
    w.noticed (State.statusNotices u (u.judged src (u.screenStatus src [] records)) w) (allHeads.flatMap (fun x =>
      match (u.ramp x.1).head x.2, (w.ramp x.1).head x.2, (u.ramp x.1).laneConfig x.2, u.reportFor src records x.1 x.2 with
      | some h, some h', some c, some r => judgedNotices x.1 x.2 (decide ((u.ramp x.1).state = .dark)) c r h h'
      | _, _, _, _ => [])) := by
  have hn := u.statusNotices_noticed w (u.judged src (u.screenStatus src [] records))
  rw [State.judged_eq, flatMap_filterMap, ← State.judged_eq] at hn
  convert hn using 2
  funext x
  have hconfig : (w.ramp x.1).laneConfig x.2 = (u.ramp x.1).laneConfig x.2 := by
    rw [Ramp.laneConfig, Ramp.laneConfig, (hR x.1).config]
  have hsome := (hR x.1).heads x.2
  cases hr : u.reportFor src records x.1 x.2 with
  | none =>
    cases (u.ramp x.1).head x.2 <;> cases (w.ramp x.1).head x.2 <;> cases (u.ramp x.1).laneConfig x.2 <;> rfl
  | some y =>
    obtain ⟨c, hc, -⟩ := State.atDriver_of_report (u := u) (by rw [hr]; rfl)
    rw [Option.map_some, Option.map_some, Option.getD_some, hc]
    cases hh : (u.ramp x.1).head x.2 with
    | none =>
      have hnone : (w.ramp x.1).head x.2 = none := by
        rw [hh] at hsome
        simpa using hsome
      have hnotice : ∀ cause, (w.ramp x.1).headNotices x.1 x.2 cause (Aspect.ofCode y.aspect) = [] := fun cause => by
        simp only [Ramp.headNotices, hnone]
      simp only [hnotice]
      cases judgedCause u w (x, y) <;> rfl
    | some h =>
      obtain ⟨h', hh'⟩ := Option.isSome_iff_exists.mp (hsome.trans (by rw [hh]; rfl))
      rw [hh']
      have hcause := hd x.1 x.2 h h' hh hh'
      rw [hr] at hcause
      exact (State.headNotices_judged (u := u) (w := w) (k := x.1) (l := x.2) y hh hh' (hconfig.trans hc) hcause).symm

/-! ## The event -/

/-- R151 to R155, R113: a status frame that is acted on: the state with the ramps judged and the heads told, and the notices
offered from it. -/
theorem State.statusTaken_spec (u : State) (src : Nat) (records : List StatusRecord) :
    let v := u.staged (u.statusRamp src records)
    let fresh := State.invalidated u v
    let t := u.statusTaken src records
    (u.told v fresh).noticed t (allHeads.flatMap (fun x =>
        match (u.ramp x.1).head x.2, (t.ramp x.1).head x.2, (u.ramp x.1).laneConfig x.2, u.reportFor src records x.1 x.2 with
        | some h, some h', some c, some r => judgedNotices x.1 x.2 (decide ((u.ramp x.1).state = .dark)) c r h h'
        | _, _, _, _ => []) ++
      allRamps.flatMap (fun k => if (t.ramp k).state = (u.ramp k).state then []
        else [rampNotice k (u.ramp k).state .dark false false
          (if redReported (u.reportFor src records k) then .headRed else .noLane)])) := by
  intro v fresh t
  have ht : t = State.darkNotices u (redRamps (u.judged src (u.screenStatus src [] records)))
      (State.statusNotices u (u.judged src (u.screenStatus src [] records)) (u.told v fresh)) := by
    have hpasses := u.statusPasses src records
    simp only at hpasses
    simp only [t, State.statusTaken, hpasses, State.settleHeads_eq_told]
    rfl
  have hramp : ∀ k, (u.told v fresh).ramp k = _ := fun k => v.ramp_toldHeads (u.headsDue v fresh) k
  have hR : ∀ k, (u.ramp k).Judged ((u.told v fresh).ramp k) := fun k => by
    rw [hramp, State.ramp_staged]
    refine (u.judged_statusRamp src records k).trans (.of_heads fun l => ?_)
    rw [Three.get_tabulate, Option.isSome_map]
  have hheads := u.statusNotices_spec (u.told v fresh) src records hR fun k l h h' hh hh' => by
    have hdisabled := State.disabled_told u v fresh k l
    rw [Ramp.record, hh', State.ramp_staged, State.statusRamp, Ramp.record_statusJudged, Ramp.record, hh] at hdisabled
    exact hdisabled
  have hdark := State.darkNotices_noticed (s0 := u)
    (s := State.statusNotices u (u.judged src (u.screenStatus src [] records)) (u.told v fresh))
    (fun k => by rw [hheads.ramp]; exact hR k) (redRamps (u.judged src (u.screenStatus src [] records)))
  have hall := hheads.trans hdark
  rw [← ht] at hall
  simp only [State.redRamps_contains, hheads.ramp] at hall
  simp only [hall.ramp]
  exact hall

section Taken
variable (u : State) (src : Nat) (records : List StatusRecord) (k : Fin 4)

/-- What the frame makes of a ramp, with its heads told. -/
theorem State.ramp_statusTaken : (u.statusTaken src records).ramp k =
    (u.told (u.staged (u.statusRamp src records)) (State.invalidated u (u.staged (u.statusRamp src records)))).ramp k :=
  (u.statusTaken_spec src records).ramp k

theorem State.state_statusTaken : ((u.statusTaken src records).ramp k).state = (u.statusRamp src records k).state := by
  rw [State.ramp_statusTaken, State.told_eq_toldHeads, State.ramp_toldHeads, State.ramp_staged]

theorem State.inService_statusTaken :
    ((u.statusTaken src records).ramp k).inService = (u.statusRamp src records k).inService := by
  rw [State.ramp_statusTaken, State.told_eq_toldHeads]
  refine Ramp.inService_congr fun l => Ramp.laneInService_congr ?_ ?_ ?_
  · rw [State.ramp_toldHeads, State.ramp_staged]
  · rw [State.disabled_toldHeads, State.ramp_staged]
  · rw [State.ramp_toldHeads, State.ramp_staged]
    rfl

/-- R147: a command leaves the lamps, the disable and the silence timer of a judged head. -/
theorem State.head_statusTaken {h : Head} (hh : (u.statusRamp src records k).head l = some h) :
    ∃ h', ((u.statusTaken src records).ramp k).head l = some h' ∧
      h'.lamps = h.lamps ∧ h'.disabled = h.disabled ∧ h'.silence = h.silence := by
  rw [State.ramp_statusTaken, State.told_eq_toldHeads, State.head_toldHeads, State.ramp_staged, hh]
  refine ⟨_, rfl, ?_⟩
  split
  · exact ⟨rfl, rfl, rfl⟩
  · exact ⟨rfl, rfl, rfl⟩

/-- R15: the entries of the ramps that the frame took to DARK. -/
theorem State.detectors_statusTaken : (u.statusTaken src records).detectors = u.detectors.map (fun _ d =>
    if (u.statusRamp src records d.config.ramp).state = (u.ramp d.config.ramp).state then d
    else { d with arrivals := 0, onTime := 0, span := 0 }) := by
  rw [(u.statusTaken_spec src records).2]
  rfl

/-- The frame changes the ramps, the entries and the queues alone. -/
theorem State.statusTaken_eq :
    u.statusTaken src records = u.told { u with
      detectors := (u.statusTaken src records).detectors
      normal := (u.statusTaken src records).normal
      normalDropped := (u.statusTaken src records).normalDropped
      sequence := (u.statusTaken src records).sequence
      ramps := Four.tabulate (u.statusRamp src records) }
      (allHeads.filter (fun x => (((u.ramp x.1).head x.2).bind (fun h => h.sent)).isSome &&
        (((u.statusRamp src records x.1).head x.2).bind (fun h => h.sent)).isNone)) := by
  have hfresh := State.invalidated_eq (u := u) (w := u.staged (u.statusRamp src records)) fun k => by
    rw [State.ramp_staged]
    exact u.judged_statusRamp src records k
  simp only [State.ramp_staged] at hfresh
  rw [← hfresh, State.detectors_statusTaken]
  exact (u.statusTaken_spec src records).2

end Taken

/-- Settles O52. -/
theorem headStatusIsJudged : Obligations.HeadStatusIsJudged := by
  intro dst src count records s
  refine ⟨if (s.took (.headStatus dst src count records)).statusActedOn dst src count records then
    (s.took (.headStatus dst src count records)).statusTaken src records
    else s.took (.headStatus dst src count records), rfl, ?_⟩
  intro u at_ acted usable report redLamp red fault newly
  have hacted : u.statusActedOn dst src count records = true ↔ acted := State.statusActedOn_iff
  refine ⟨fun hn => if_neg (fun h => hn (hacted.mp h)), fun ha => ?_⟩
  rw [if_pos (hacted.mpr ha)]
  refine ⟨fun k => ?_, fun k l h c hh hc => ?_, u.statusTaken_eq src records, ?_, fun i => ?_⟩
  · rw [State.state_statusTaken, State.inService_statusTaken]
    exact Ramp.state_statusJudged _ _ _ _
  · obtain ⟨h1, hh1, hlamps, hdisabled, hsilence⟩ := Ramp.head_statusJudged (plan := u.topPlan k)
      (at_ := u.atDriver src k) (report := u.reportFor src records k) hh hc
    obtain ⟨h', hh', hl, hd, hs⟩ := u.head_statusTaken src records k hh1
    refine ⟨h', hh', hl.trans hlamps, hd.trans hdisabled, hs.trans ?_⟩
    rw [State.state_statusTaken]
    exact hsilence
  · have htells := State.tells_base (s' := u) (u.statusTaken_spec src records).1 rfl rfl rfl rfl rfl
    convert htells using 3
    · funext x
      have hrep : u.reportFor src records x.1 x.2 = report x.1 x.2 := rfl
      rw [hrep]
      cases hh : (u.ramp x.1).head x.2 with
      | none => rfl
      | some h =>
        cases (State.ramp (u.statusTaken src records) x.1).head x.2 with
        | none => rfl
        | some h' =>
          cases (u.ramp x.1).laneConfig x.2 with
          | none => rfl
          | some c =>
            cases hr : report x.1 x.2 with
            | none => rfl
            | some y =>
              have hred : redLamp x.1 x.2 = y.lamps.testBit 0 := by simp only [redLamp, hr]; rfl
              have hnew : newly x.1 x.2 = h.newly (some y) := by
                rw [← hr]
                simp only [newly, hh]
                rfl
              simp only [judgedNotices, hred, hnew, decide_eq_false_iff_not]
    · rfl
  · rw [State.detector, State.detectors_statusTaken, Table.get_map]
    simp only [State.state_statusTaken]
    rfl

end Sys2Proof.Machine
end
